-- ==== Sys2Proof/Word.lean ====
section
/-! DEFINITION. The word types of the FC412: bytes on the links and RTC times. -/

namespace Sys2Proof

/-- A byte of a transfer frame (R195). -/
abbrev Byte := BitVec 8

/-- An RTC value: a 32-bit count of whole seconds (R169). -/
abbrev RtcTime := BitVec 32

/-- A driver key, 0..65,535 (R115). -/
abbrev DriverKey := BitVec 16

end Sys2Proof
end

