-- ==== Sys2Proof/Syntax.lean ====
section
/-! DEFINITION. The names the spec gives its values, and the commands: one constructor of `Instr` for each row
of spec/opcode_table.json. A request carries the link it comes on and the arguments of the catalogue (R203); an
event carries what the world outside the part gives at that moment. -/

namespace Sys2Proof

/-- The two host links (R195). -/
inductive Link where | v | b
  deriving DecidableEq, Repr

/-- The loads, in the order of R25. -/
inductive Load where
  | heater | fridge | zoneLower | zoneUpper | readLower | readUpper | step | outlet1 | outlet2 | vent
  deriving DecidableEq, Repr

/-- The purposes of a grant, in the order of R25. -/
inductive Purpose where | comfort | schedule | courtesy | cooling | purge | warning
  deriving DecidableEq, Repr

/-- Whom a grant speaks for (R25). -/
inductive Origin where | lower | upper | cab
  deriving DecidableEq, Repr

/-- The two bunks. -/
inductive Bunk where | lower | upper
  deriving DecidableEq, Repr

/-- The driver slots (R114). -/
inductive DriverSlot where | driver | coDriver
  deriving DecidableEq, Repr

/-- The activities of a driver (R114). -/
inductive Activity where | drive | work | available | rest
  deriving DecidableEq, Repr

/-- The warning kinds, in the order of R138. -/
inductive WarnKind where
  | breakSoon | breakDue | daySoon | dayDue | wake | restShort | restBroken | reserveLow | cabinetWarm
  deriving DecidableEq, Repr

/-- The target of a warning (R138): an identity record, a bunk or the cab. -/
inductive WarnTarget where
  | record (i : Fin 4)
  | bunk (b : Bunk)
  | cab
  deriving DecidableEq, Repr

/-- The sources of a capture (R156). -/
inductive FaultSource where
  | channel (n : Fin 12)
  | heater | charge | battTemp | cabinTemp | cabinetTemp | flameTemp | timebase
  deriving DecidableEq, Repr

/-- What ACCOUNT_READ names (R135). -/
inductive AccountSelector where
  | index (i : Fin 4)
  | slot (d : DriverSlot)
  | bunk (b : Bunk)
  deriving DecidableEq, Repr

/-- Polarity of an event input (R190). -/
inductive Polarity where | activeHigh | activeLow
  deriving DecidableEq, Repr

/-- Kind of an event input (R190). -/
inductive InputKind where | edge | level
  deriving DecidableEq, Repr

/-- The configuration of one event input (R190). -/
structure InputConfig where
  polarity : Polarity
  kind : InputKind
  debounce : Bool
  noticeV : Bool
  noticeB : Bool
  wake : Bool
  deriving DecidableEq, Repr

/-- The result of one temperature conversion (R3, R76, R100). -/
inductive TempResult where
  | celsius (t : Int)
  | openCircuit
  | shortCircuit
  deriving DecidableEq, Repr

/-- The causes of a main reset, in the order of R174. -/
inductive ResetCause where | power | pin | restart
  deriving DecidableEq, Repr

/-- The commands of the block, in the order of spec/opcode_table.json. -/
inductive Instr where
  | transferStart (l : Link)
  | undefinedRequest (l : Link) (bytes : List Byte)
  /-- `clocked` is how many bytes the host clocks in this transfer. -/
  | fetch (l : Link) (clocked : Nat)
  | notices (l : Link)
  | noticeEnable (l : Link) (mask : BitVec 32)
  | release (l : Link)
  | statusRead (l : Link) (section_ : Byte)
  | budgetRead (l : Link)
  | grantRequest (l : Link) (load : Load) (purpose : Purpose) (origin : Origin)
      (level setpoint maxStage : Byte) (endTime : Option RtcTime)
  | grantProbe (l : Link) (load : Load) (purpose : Purpose)
  | grantRevoke (l : Link) (load : Load) (purpose : Purpose)
  | ackWarning (l : Link) (kind : WarnKind) (target : WarnTarget)
  | warningList (l : Link)
  | ackFault (l : Link) (source : FaultSource) (time : RtcTime)
  | faultRead (l : Link)
  | accountRead (l : Link) (selector : AccountSelector)
  | fridgeSet (l : Link) (enable : Bool)
  | policySet (l : Link) (item : Byte) (value : BitVec 32)
  | policyGet (l : Link) (item : Byte)
  | policyLock (l : Link)
  | seedCharge (l : Link) (q : BitVec 32)
  | timeSet (l : Link) (time : RtcTime)
  | card (l : Link) (slot : DriverSlot) (key : DriverKey)
  | activity (l : Link) (slot : DriverSlot) (act : Activity)
  | motion (l : Link) (moving : Bool)
  | slotSwap (l : Link)
  | inputConfig (l : Link) (input : Byte) (config : InputConfig)
  | hold (l : Link)
  | releaseHold (l : Link)
  | clearLockout (l : Link)
  | clearChannel (l : Link) (channel : Byte)
  | wiringCheck (l : Link)
  | checkRead (l : Link)
  | restart (l : Link)
  | bunkRest (l : Link) (bunk : Bunk) (slot : DriverSlot) (plannedEnd : Option RtcTime) (prewarm : Bool)
  | bunkWake (l : Link) (bunk : Bunk)
  | snooze (l : Link) (bunk : Bunk)
  | pairHandset (l : Link) (bunk : Bunk)
  | kpor
  | mainReset (cause : ResetCause)
  | mainResetEnd
  /-- The shunt input in 10 mA steps, the voltage in mV, and the reference check's outcome (PASS is `true`). -/
  | conversion (shunt volt : Int) (pass : Bool)
  /-- The conversion at which the full detector fires; its check passes (R13). -/
  | fullDetection (shunt volt : Int)
  /-- The conversion at which the floor detector fires; its check passes (R15). -/
  | floorCorrection (shunt volt : Int)
  /-- The conversion at which the floor-clear detector fires (R16). -/
  | voltageFloorClear (shunt volt : Int) (pass : Bool)
  | battTempConversion (result : TempResult)
  | review
  | grantEndReached (load : Load) (purpose : Purpose)
  | grantStartReached (load : Load) (purpose : Purpose)
  | inrushWindowEnd (ch : Fin 12)
  | channelShort (ch : Fin 12) (current : Nat)
  | channelOvercurrent (ch : Fin 12) (current : Nat)
  | retryTimerExpiry (ch : Fin 12)
  | openLoadDetected (ch : Fin 12) (current : Nat)
  /-- The step ends by a trip or by its 100 ms, with this peak current (the trip's current for a trip). -/
  | wiringStepEnd (tripped : Bool) (peak : Nat)
  | cabinTempConversion (result : TempResult)
  | flameTempConversion (result : TempResult)
  | preheatTimerExpiry
  | ignitionTimerExpiry
  | regulationTimerExpiry
  | flameProvenTimeout
  | satisfiedTimeout
  | flameOut
  | purgeGlowOff
  | purgeComplete
  | cabinetTempConversion (result : TempResult)
  | slotDue
  | runStart
  | runComplete
  | minOffExpiry
  | accountTimer
  | quietHoursEnd (bunk : Bunk)
  | wakeTimeout (bunk : Bunk)
  | wakeLeadReached (bunk : Bunk)
  | plannedEndReached (bunk : Bunk)
  | escalation (kind : WarnKind) (target : WarnTarget)
  | flashPhaseChange (bunk : Bunk)
  | sunriseStep (bunk : Bunk)
  | chimePatternStart
  | chimePatternEnd
  | crystalStop
  | crystalReturn
  | rtcSecond
  | dozeTimerExpiry
  | dozeExitComplete
  /-- `elapsed` is the time in µs since the receiver line's last event. -/
  | handsetFrame (id key : Byte) (elapsed : Nat)
  | handsetRepeat (elapsed : Nat)
  | repeatWindowTimeout
  | pairingWindowClose
  /-- The level of the input's pin changes to `high`. -/
  | inputRawChange (input : Fin 8) (high : Bool)
  | debounceExpiry (input : Fin 8)
  /-- The start or the end of a mark, `elapsed` µs after the line's last event. -/
  | infraredMarkEdge (start : Bool) (elapsed : Nat)
  /-- The mark or space now running passes the top of its accepted range. -/
  | timingError
  | checkError (elapsed : Nat)
  | crystalEdgesResume
  /-- The output level of the channel moves by this many levels toward its target. -/
  | fade (ch : Fin 12) (levels : Nat)
  /-- The current CH2 draws in this pulse. -/
  | fuelPumpPulse (current : Nat)
  deriving DecidableEq, Repr

end Sys2Proof
end

