-- ==== Sys2Proof/Decode.lean ====
section
/-! DEFINITION. The decoder the host asks for. The opcode table gives no row any bits: the block takes commands, and
a request's bytes are judged as frames (R196, `Machine.judgeFrame`), not as opcode words. -/

namespace Sys2Proof

/-- The command a word of the table's bits spells: no row has bits, so none. -/
def decodeTableWord (_nbits _w : Nat) : Option Instr := none

end Sys2Proof
end

