-- ==== Sys2Proof/Config.lean ====
section
/-! DEFINITION. What the spec leaves open: values with no body, so that no proof can see what they are. -/

namespace Sys2Proof.Config

/-- Whether a part-second of a running timer counts as a whole second in a report of "seconds left" (R197 states no
rounding), for a timer with this many microseconds left. Free value; log entry 7. -/
opaque partSecondCounts : Nat → Bool

/-- Whether a double fault in DOZE that enters SAFE HOLD wakes the part with cause HOLD rather than CAPTURE (R162,
R164, R178 name both and no order), at this internal-clock time. Free value; log entry 8. -/
opaque doubleFaultWakesAsHold : Nat → Bool

/-- Whether EV0's wake request of cause ENGINE_RUN reaches TU before its routed one of cause INPUT (R191, R192 state
no order), at this internal-clock time. Free value; log entry 9. -/
opaque engineRunWakesFirst : Nat → Bool

end Sys2Proof.Config
end

