-- ==== Sys2Proof/Machine/State.lean ====
section
/-! DEFINITION. The state of the FC412, block by block, as plain data, and its value right after reset. The default
of a field is its value at the end of a main reset that follows a KPOR, unless a docstring says otherwise. -/

namespace Sys2Proof.Machine

/-- A pair of values, one for each bunk. -/
structure PerBunk (α : Type) where
  lower : α
  upper : α
  deriving DecidableEq, Repr

/-! ### Link ports -/

/-- The status codes of R197. -/
inductive Status where
  | ok | reduced | empty | waking | malformed | unknown | notPermitted | locked
  | noHeadroom | noRoom | hold | testing | loadLocked | lockout | notFound | condition
  deriving DecidableEq, Repr

/-- A response as a port's slot holds it (R197, R198). -/
structure Response where
  status : Status
  kind : Byte
  payload : List Byte
  deriving DecidableEq, Repr

/-- The transfer in progress on a link (R180, R195, R208). -/
inductive Transfer where
  | none
  /-- Begun in AWAKE (`waking = false`), or in DOZE or during a DOZE exit (`waking = true`, R180). -/
  | open_ (waking : Bool)
  /-- Begun before or during a main reset: it is lost whole (R208). -/
  | lost
  deriving DecidableEq, Repr

/-- A link port (R198 to R201, R209). -/
structure Port where
  slot : Option Response := none
  notices : BitVec 32 := 1
  enables : BitVec 32 := 131071
  released : Bool := false
  transfer : Transfer := .none
  /-- The model's own: the bytes shifted out in the latest transfer; every later byte reads 0. -/
  out : List Byte := []
  deriving DecidableEq, Repr

/-! ### Time Unit -/

inductive PartMode where | awake | doze
  deriving DecidableEq, Repr

inductive ClockSource where | crystal | slow
  deriving DecidableEq, Repr

/-- The wake causes, in the order of R178. -/
inductive WakeCause where | linkV | linkB | input | engineRun | handset | warning | capture | hold
  deriving DecidableEq, Repr

/-- A main reset being held, with the causes seen in it (R174). -/
structure ResetHold where
  power : Bool
  pin : Bool
  restart : Bool
  kpor : Bool
  /-- The end of the 1 ms of a RESTART. -/
  restartDue : Option Nat
  deriving DecidableEq, Repr

/-- The Time Unit (R168 to R181). Every deadline in State is a value of `clock`. -/
structure TimeUnit where
  /-- The internal clock in microseconds (R168). -/
  clock : Nat := 0
  rtc : RtcTime := 0
  subSecond : Nat := 0
  timeSet : Bool := false
  source : ClockSource := .crystal
  degraded : Bool := false
  lastCause : ResetCause := .power
  kporFlag : Bool := true
  stableDue : Option Nat := none
  resetHold : Option ResetHold := none
  mode : PartMode := .awake
  exitDue : Option Nat := none
  postExit : Bool := false
  dozeDue : Option Nat := none
  lastWake : Option (WakeCause × RtcTime) := none
  deriving DecidableEq, Repr

/-! ### Sensors and the Charge Monitor -/

/-- A temperature sensor's state with its counts of consecutive results (R3, R76, R100). -/
structure Sensor where
  failed : Bool := false
  badCount : Nat := 0
  goodCount : Nat := 0
  deriving DecidableEq, Repr

/-- The Charge Monitor (R1 to R23). A detector that is not running has no start time. -/
structure ChargeMonitor where
  q : Nat := 112500
  r : Nat := 0
  seeded : Bool := false
  qStale : Bool := false
  overRange : Bool := false
  latestI : Int := 0
  latestV : Nat := 0
  tb : Int := -20
  sensor : Sensor := {}
  fullStart : Option Nat := none
  fullLatched : Bool := false
  floorStart : Option Nat := none
  clearStart : Option Nat := none
  voltageFloor : Bool := false
  pathLost : Bool := false
  failCount : Nat := 0
  passCount : Nat := 0
  winSum : Int := 0
  winCount : Nat := 0
  winMean : Int := 0
  convDue : Nat := 100000
  tempDue : Nat := 1000000
  deriving DecidableEq, Repr

/-! ### Admission Unit -/

inductive Requester where | linkV | linkB | handset | input | internal
  deriving DecidableEq, Repr

inductive GrantState where | waiting | active | shed | suspended
  deriving DecidableEq, Repr

/-- A requested or effective level: a figure that does not apply to the load is 0 (R25, R197). -/
structure Level where
  level : Nat := 0
  setpoint : Nat := 0
  maxStage : Nat := 0
  deriving DecidableEq, Repr

/-- An entry of the grant table (R25). -/
structure Grant where
  pos : Nat
  load : Load
  purpose : Purpose
  requester : Requester
  origin : Origin
  req : Level
  eff : Level
  start : Option RtcTime
  endTime : Option RtcTime
  state : GrantState
  shedTime : Option RtcTime
  /-- The model's own: the quiet limit last applied to the entry, to tell a limit that rises (R43). -/
  quietLimit : Option Nat
  deriving DecidableEq, Repr

/-- The last review figures (R38). -/
structure ReviewFigures where
  time : RtcTime := 0
  mean : Int := 0
  free : Int := 0
  horizon : Nat := 0
  demand : Nat := 0
  headroom : Int := 0
  surplus : Bool := false
  deficit : Bool := false
  breach : Bool := false
  nShed : Nat := 0
  nRestored : Nat := 0
  deriving DecidableEq, Repr

/-- The Admission Unit (R24 to R55). -/
structure AdmissionUnit where
  table : List Grant := []
  shedList : List Nat := []
  pointer : Nat := 0
  surplus : Bool := false
  deficit : Bool := false
  breach : Bool := false
  breachTime : Option RtcTime := none
  reserveLow : Bool := false
  last : ReviewFigures := {}
  reviewDue : Nat := 60000000
  deriving DecidableEq, Repr

/-! ### Channel Array -/

/-- The states of a channel, in the order of the chapter's table (R58). -/
inductive ChanState where | off | starting | on | tripped | locked | test
  deriving DecidableEq, Repr

/-- A channel record (R57 to R65). -/
structure Channel where
  state : ChanState := .off
  target : Nat := 0
  output : Nat := 0
  tripCount : Nat := 0
  openLoad : Bool := false
  inrushDue : Option Nat := none
  retryDue : Option Nat := none
  /-- CH2's open-load timing: the pump time of the first low pulse (R65). -/
  lowSince : Option Nat := none
  lastCurrent : Nat := 0
  /-- The time the fade last moved the output level (R60). -/
  fadeAt : Nat := 0
  /-- The pump time of the last pump pulse of this drive, in 39ths of a microsecond (R60) [50]. -/
  pulseAt : Option Nat := none
  deriving DecidableEq, Repr

/-- The classes of a wiring result, in the order of R72. -/
inductive WiringClass where | ok | open_ | high | short | notTested
  deriving DecidableEq, Repr

structure WiringResult where
  cls : WiringClass
  peak : Nat
  deriving DecidableEq, Repr

/-- The wiring check running (R68, R69). -/
structure WiringRun where
  underTest : Fin 12
  /-- The rated current at the start of the step. -/
  rating : Nat
  stepDue : Nat
  startTime : RtcTime
  results : Vector WiringResult 12
  deriving DecidableEq, Repr

/-- The results of the last wiring check (R72). -/
structure WiringReport where
  completed : Bool
  startTime : RtcTime
  endTime : RtcTime
  results : Vector WiringResult 12
  deriving DecidableEq, Repr

/-- The Channel Array (R56 to R74). -/
structure ChannelArray where
  chans : Vector Channel 12 := Vector.replicate 12 {}
  check : Option WiringRun := none
  results : Option WiringReport := none
  deriving DecidableEq, Repr

/-! ### Heater Sequencer -/

/-- The heater phases, in the order of the chapter's table (R75). -/
inductive HeaterPhase where | off | preheat | ignite | run | purge | standby | lockout
  deriving DecidableEq, Repr

/-- The lockout causes, in the order of R75. -/
inductive LockCause where | ignitionFailed | flameOutRepeat | overheat | sensor | ch0 | ch1 | ch2
  deriving DecidableEq, Repr

/-- The merged heater grant (R52). -/
structure MergedHeat where
  setpoint : Nat
  maxStage : Nat
  deriving DecidableEq, Repr

/-- The follow-on phase of a purge (R84). -/
inductive FollowOn where | off | preheat | standby | lockout
  deriving DecidableEq, Repr

/-- A purge in progress (R84). -/
structure PurgeRun where
  full : Bool
  entryClock : Nat
  entryRtc : RtcTime
  due : Nat
  glowDue : Option Nat
  followOn : FollowOn
  deriving DecidableEq, Repr

/-- The Heater Sequencer (R75 to R97). -/
structure Heater where
  purgeOwed : Bool := false
  lockout : Option LockCause := none
  phase : HeaterPhase := .off
  stage : Option Nat := none
  demand : Option Nat := none
  merged : Option MergedHeat := none
  attempts : Nat := 0
  flameOuts : Nat := 0
  entryTemp : Int := 0
  proven : Bool := false
  purge : Option PurgeRun := none
  pending : Option LockCause := none
  activation : Bool := false
  preheatDue : Option Nat := none
  ignitionDue : Option Nat := none
  regulationDue : Option Nat := none
  provenDue : Option Nat := none
  satisfiedDue : Option Nat := none
  flameOutDue : Option Nat := none
  holdLimit : Bool := false
  tc : Option Int := none
  tf : Option Int := none
  cabin : Sensor := {}
  flame : Sensor := {}
  flameHot : Bool := false
  cabinDue : Nat := 1000000
  flameDue : Nat := 1000000
  deriving DecidableEq, Repr

/-! ### Cold Store Controller -/

inductive RateMode where | normal | warm | cool
  deriving DecidableEq, Repr

/-- The kinds of a compressor run, in the order of R98. -/
inductive RunKind where | slot | catchUp | pullIn | override_
  deriving DecidableEq, Repr

/-- What a slot due was decided as (R104). -/
inductive SlotDecision where | banked | alreadyPending | postponed | counted
  deriving DecidableEq, Repr

/-- The Cold Store Controller (R98 to R113). -/
structure ColdStore where
  enable : Bool := false
  c : Int := 0
  nextDue : RtcTime := 1800
  /-- The model's own: the interval in minutes that formed `nextDue` (R102). -/
  formed : Nat := 30
  run : Option RunKind := none
  slotPending : Bool := false
  mode : RateMode := .normal
  runDue : Option Nat := none
  minOffDue : Option Nat := some 180000000
  tk : Option Int := none
  sensor : Sensor := {}
  warm : Bool := false
  /-- The model's own: Tk was at or above T_high at its cabinet result, at which P45 is read (R108, R112) [48]. -/
  hot : Bool := false
  deficit : Bool := false
  surplus : Bool := false
  lastDecision : Option (SlotDecision × RtcTime × Int) := none
  tempDue : Nat := 1000000
  deriving DecidableEq, Repr

/-! ### Rest Monitor -/

/-- The target of a short-rest condition (R125). -/
inductive ShortTarget where
  | record
  | bunk (b : Bunk)
  deriving DecidableEq, Repr

/-- An identity record in use (R114). Counters and segments are in seconds. -/
structure Identity where
  key : DriverKey
  slot : Option DriverSlot := none
  activity : Activity := .available
  activityStart : RtcTime
  lastUpdate : RtcTime
  continuous : Nat := 0
  daily : Nat := 0
  breakSeg : Nat := 0
  breakQualified : Bool := false
  firstPart : Bool := false
  restSeg : Nat := 0
  restRegular : Bool := false
  restWeekly : Bool := false
  lastRestEnd : Option RtcTime := none
  reducedUsed : Nat := 0
  /-- REST_BROKEN when the flag is set, REST_SHORT otherwise. -/
  shortRest : Option (Bool × ShortTarget) := none
  timeUncertain : Bool := false
  lastActivity : RtcTime
  deriving DecidableEq, Repr

/-- The pre-warm states, in the order of R127. -/
inductive PrewarmState where | notWanted | wanted | placed | refused | withdrawn | done
  deriving DecidableEq, Repr

/-- A bunk rest in progress (R127). -/
structure BunkRest where
  record : Fin 4
  start : RtcTime
  plannedEnd : Option RtcTime
  prewarm : Bool
  snoozes : Nat
  prewarmState : PrewarmState
  deriving DecidableEq, Repr

/-- The rest whose figures the pre-warm entry carries; `ended` once that rest has ended (R132). -/
structure EntryRest where
  bunk : Bunk
  ended : Bool
  deriving DecidableEq, Repr

/-- The driver warning conditions in force for one record (R126). -/
structure DriverConds where
  breakSoon : Bool := false
  breakDue : Bool := false
  daySoon : Bool := false
  dayDue : Bool := false
  deriving DecidableEq, Repr

/-- The Rest Monitor (R114 to R137). -/
structure RestMonitor where
  recs : Vector (Option Identity) 4 := Vector.replicate 4 none
  rests : PerBunk (Option BunkRest) := ⟨none, none⟩
  moving : Bool := false
  accountDue : Nat := 60000000
  holder : Option Bunk := none
  entryRest : Option EntryRest := none
  quiet : PerBunk Bool := ⟨false, false⟩
  conds : Vector DriverConds 4 := Vector.replicate 4 {}
  deriving DecidableEq, Repr

/-! ### Warning Unit -/

inductive WarnLevel where | notice | alert
  deriving DecidableEq, Repr

/-- An entry of the warning list (R138), with the internal-clock time of its raise (R143). -/
structure Warning where
  kind : WarnKind
  target : WarnTarget
  raiseTime : RtcTime
  level : WarnLevel
  acked : Bool
  lastPlay : Option RtcTime
  raisedAt : Nat
  deriving DecidableEq, Repr

/-- The chime patterns, in the order of R147. -/
inductive ChimePattern where | double | triple | triad
  deriving DecidableEq, Repr

/-- The CHIME output (R146). -/
inductive Chime where
  | idle (gapDue : Nat)
  | playing (pattern : ChimePattern) (kind : WarnKind) (target : WarnTarget) (due : Nat)
  deriving DecidableEq, Repr

/-- The flash of one bunk (R148, R149): the phase running with its end, or none while stopped. -/
structure Flash where
  cycle : Option (Bool × Nat) := none
  givenUp : Bool := false
  deriving DecidableEq, Repr

/-- The sunrise states, in the order of R150. -/
inductive SunriseState where | none | placed | refused | withdrawn | done
  deriving DecidableEq, Repr

/-- The sunrise of one bunk (R150, R151). -/
structure Sunrise where
  state : SunriseState := .none
  /-- The planned end the state was set for. -/
  plannedEnd : Option RtcTime := Option.none
  /-- The ramp level last handed; its value after a reset is a DESIGN CHOICE [46]. -/
  ramp : Nat := 0
  deriving DecidableEq, Repr

/-- The Warning Unit (R138 to R155). -/
structure WarningUnit where
  list : List Warning := []
  chime : Chime := .idle 1000000
  flash : PerBunk Flash := ⟨{}, {}⟩
  sunrise : PerBunk Sunrise := ⟨{}, {}⟩
  deriving DecidableEq, Repr

/-! ### Fault Unit -/

/-- The fault codes, in the order of R156. -/
inductive FaultCode where
  | short | overcurrent | ignitionFailed | flameOutRepeat | overheat
  | sensorOpen | sensorShort | chargePath | slowOscStop
  deriving DecidableEq, Repr

/-- The reporting block's state at detection (R156). -/
inductive DetectState where
  | channel (c : ChanState)
  | heater (p : HeaterPhase)
  | fridge (k : Option RunKind)
  | chargePath (lost : Bool)
  | mode (m : PartMode)
  deriving DecidableEq, Repr

/-- A fault as its block reports it to FU (R157). -/
structure FaultReport where
  source : FaultSource
  code : FaultCode
  measured : Int
  detect : DetectState
  restartable : Bool
  deriving DecidableEq, Repr

/-- A capture (R156): the fault's report with the RTC time FU took it. -/
structure Capture where
  report : FaultReport
  time : RtcTime
  deriving DecidableEq, Repr

/-- The hold record (R163). -/
structure HoldRecord where
  source : FaultSource
  code : FaultCode
  time : RtcTime
  deriving DecidableEq, Repr

/-- An entry of the suspension list (R159). -/
structure Suspension where
  load : Load
  restartable : Bool
  tied : Bool
  source : FaultSource
  code : FaultCode
  deriving DecidableEq, Repr

/-- The Fault Unit (R156 to R167). The hold causes 1 to 4 are held with the RTC time of their adding. -/
structure FaultUnit where
  record : Option Capture := none
  cause1 : Option RtcTime := none
  cause2 : Option RtcTime := none
  cause3 : Option RtcTime := none
  cause4 : Option RtcTime := none
  holdRecord : Option HoldRecord := none
  entryTime : Option RtcTime := none
  susp : List Suspension := []
  deriving DecidableEq, Repr

/-! ### Handset Receiver and Event Inputs -/

/-- The receiver states (R184) with what has been received: in LEADER, whether its mark has ended; in BITS, the
bits so far and whether the bit mark running has ended; in STOP, the 20 bits of a frame or none of a repeat, and
whether the stop mark has ended. -/
inductive RxState where
  | idle
  | leader (repeats : Bool) (markEnded : Bool)
  | bits (received : List Bool) (markEnded : Bool)
  | stop (frame : Option (List Bool)) (markEnded : Bool)
  | repeatWindow
  deriving DecidableEq, Repr

/-- The last frame acted on (R184). -/
structure LastFrame where
  id : Byte
  key : Byte
  stepAt : Nat
  deriving DecidableEq, Repr

/-- The outcome of a key action or a fixed function (R189, R192); `count` for an acknowledgement. -/
structure ActionOutcome where
  status : Status
  count : Option Nat
  deriving DecidableEq, Repr

/-- The last action record (R189). -/
structure LastAction where
  bunk : Bunk
  id : Byte
  key : Byte
  outcome : ActionOutcome
  time : RtcTime
  deriving DecidableEq, Repr

/-- The Handset Receiver (R183 to R189). -/
structure Handset where
  paired : PerBunk (Option Byte) := ⟨none, none⟩
  window : Option (Bunk × Nat) := none
  rx : RxState := .idle
  edgeAt : Nat := 0
  windowDue : Option Nat := none
  lastFrame : Option LastFrame := none
  repeatable : Bool := false
  lastAction : Option LastAction := none
  deriving DecidableEq, Repr

/-- The configuration every input takes at KPOR (R190). -/
def InputConfig.initial : InputConfig :=
  { polarity := .activeHigh, kind := .edge, debounce := true, noticeV := true, noticeB := true, wake := false }

/-- One event input (R190). -/
structure EventInput where
  config : InputConfig := InputConfig.initial
  pin : Bool := false
  active : Bool := false
  debounceDue : Option Nat := none
  lastEvent : Option RtcTime := none
  deriving DecidableEq, Repr

/-- The Event Inputs (R190 to R194). -/
structure EventInputs where
  inputs : Vector EventInput 8 := Vector.replicate 8 {}
  doorOutcome : Option (ActionOutcome × RtcTime) := none
  lowerOutcome : Option (ActionOutcome × RtcTime) := none
  upperOutcome : Option (ActionOutcome × RtcTime) := none
  deriving DecidableEq, Repr

/-! ### Policy storage -/

/-- The policy items with their defaults (R22, R53, R96, R112, R136, R154); an enumerated item holds its position
and P59 its two bits (R204). -/
structure Policy where
  p01 : Nat := 225000
  p02 : Nat := 60000
  p03 : Nat := 3
  p04 : Nat := 243
  p05 : Nat := 28400
  p06 : Nat := 100
  p07 : Nat := 23000
  p10 : Nat := 240
  p11 : Nat := 2000
  p12 : Nat := 200
  p13 : Nat := 4500
  p14 : Nat := 1500
  p15 : Nat := 1500
  p16 : Nat := 400
  p17 : Nat := 400
  p18 : Nat := 300
  p19 : Nat := 3000
  p20 : Nat := 3000
  p21 : Nat := 2000
  p23 : Nat := 40
  p24 : Nat := 64
  p30 : Nat := 900
  p31 : Nat := 1300
  p32 : Nat := 1800
  p33 : Nat := 2400
  p34 : Nat := 250
  p35 : Nat := 200
  p36 : Nat := 2
  p37 : Nat := 30
  p40 : Nat := 0
  p41 : Nat := 8
  p42 : Nat := 30
  p43 : Nat := 20
  p44 : Nat := 45
  p45 : Nat := 8
  p46 : Nat := 4
  p50 : Nat := 270
  p51 : Nat := 45
  p52 : Nat := 15
  p53 : Nat := 540
  p54 : Nat := 660
  p55 : Nat := 540
  p56 : Nat := 3
  p57 : Nat := 2700
  p58 : Nat := 15
  p59 : Nat := 3
  p60 : Nat := 120
  p61 : Nat := 5
  p62 : Nat := 15
  p63 : Nat := 0
  p64 : Nat := 1000
  deriving DecidableEq, Repr

/-! ### The whole state -/

/-- The state of the part, and the queue of commands that wait (the model's own). -/
structure State where
  tu : TimeUnit := {}
  portV : Port := {}
  portB : Port := {}
  cm : ChargeMonitor := {}
  au : AdmissionUnit := {}
  ca : ChannelArray := {}
  hs : Heater := {}
  cs : ColdStore := {}
  rm : RestMonitor := {}
  wu : WarningUnit := {}
  fu : FaultUnit := {}
  hr : Handset := {}
  ei : EventInputs := {}
  policy : Policy := {}
  policyLock : Bool := false
  pending : List Instr := []
  deriving DecidableEq, Repr

/-- No command stops this part with a machine fault: the spec's faults are captures (R157), kept in State. -/
inductive Fault where
  deriving DecidableEq, Repr

/-- Why a command has no meaning. `notModelled` is raised by `exec` for a command not modelled yet (safe: the
machine stops); no arm raises it. -/
inductive Refusal where
  | notModelled (mnemonic : String)
  deriving DecidableEq, Repr

/-- The part at the end of a main reset that follows a KPOR (R173, R174; [20]), with an empty queue. -/
def State.reset : State := {}

end Sys2Proof.Machine
end

