-- ==== Sys2Proof/Machine/Flags.lean ====
section
/-! DEFINITION. The notice flags of a port, its link status byte and its attention line (R195, R200, R201). -/

namespace Sys2Proof.Machine

/-- The notices, in the order of their bits (R200). -/
inductive Notice where
  | reset | grantShed | grantRestored | fault | hold | warning | heaterPhase | channelRetry | openLoad
  | chargeFull | account | wake | input | handsetAction | paired | checkDone | rtcDegraded
  deriving DecidableEq, Repr

/-- The bit of a notice in the notice mask (R200). -/
def noticeBit : Notice → Nat
  | .reset => 0 | .grantShed => 1 | .grantRestored => 2 | .fault => 3 | .hold => 4 | .warning => 5
  | .heaterPhase => 6 | .channelRetry => 7 | .openLoad => 8 | .chargeFull => 9 | .account => 10 | .wake => 11
  | .input => 12 | .handsetAction => 13 | .paired => 14 | .checkDone => 15 | .rtcDegraded => 16

/-- The mask that holds this notice alone. -/
def noticeMask (n : Notice) : BitVec 32 := 1#32 <<< noticeBit n

/-- Bits 0 to 16: every notice (R200, R201). -/
def allNotices : BitVec 32 := 0x1FFFF#32

/-- Setting a notice that is set leaves it set (R200). -/
def setNotice (n : Notice) (p : Port) : Port := { p with notices := p.notices ||| noticeMask n }

/-- Whether the notice is in the port's set. -/
def hasNotice (n : Notice) (p : Port) : Bool := p.notices.getLsbD (noticeBit n)

/-- The link status byte at the start of a transfer (R195). -/
def statusByte (waking : Bool) (slot : Option Response) : Byte :=
  if waking then 0x52#8 else if slot.isSome then 0x51#8 else 0x50#8

/-- An enabled notice is set or the response slot is full (R201). -/
def wantsAttention (p : Port) : Bool := p.notices &&& p.enables != 0#32 || p.slot.isSome

end Sys2Proof.Machine
end

