-- ==== Sys2Proof/Machine/Operands.lean ====
section
/-! DEFINITION. The byte forms a host sees (R197), the request catalogue (R203) and the judging of a request frame
(R196). An enumerated value is the position of the value in its owner's list. -/

namespace Sys2Proof.Machine

/-! ### Positions of enumerated values -/

def loadCode : Load → Nat
  | .heater => 0 | .fridge => 1 | .zoneLower => 2 | .zoneUpper => 3 | .readLower => 4 | .readUpper => 5
  | .step => 6 | .outlet1 => 7 | .outlet2 => 8 | .vent => 9

def purposeCode : Purpose → Nat
  | .comfort => 0 | .schedule => 1 | .courtesy => 2 | .cooling => 3 | .purge => 4 | .warning => 5

def requesterCode : Requester → Nat
  | .linkV => 0 | .linkB => 1 | .handset => 2 | .input => 3 | .internal => 4

def originCode : Origin → Nat
  | .lower => 0 | .upper => 1 | .cab => 2

def grantStateCode : GrantState → Nat
  | .waiting => 0 | .active => 1 | .shed => 2 | .suspended => 3

def chanStateCode : ChanState → Nat
  | .off => 0 | .starting => 1 | .on => 2 | .tripped => 3 | .locked => 4 | .test => 5

def heaterPhaseCode : HeaterPhase → Nat
  | .off => 0 | .preheat => 1 | .ignite => 2 | .run => 3 | .purge => 4 | .standby => 5 | .lockout => 6

def lockCauseCode : LockCause → Nat
  | .ignitionFailed => 0 | .flameOutRepeat => 1 | .overheat => 2 | .sensor => 3 | .ch0 => 4 | .ch1 => 5 | .ch2 => 6

/-- The follow-on phase, as a heater phase. -/
def followOnPhase : FollowOn → HeaterPhase
  | .off => .off | .preheat => .preheat | .standby => .standby | .lockout => .lockout

def rateModeCode : RateMode → Nat
  | .normal => 0 | .warm => 1 | .cool => 2

def runKindCode : RunKind → Nat
  | .slot => 0 | .catchUp => 1 | .pullIn => 2 | .override_ => 3

def slotDecisionCode : SlotDecision → Nat
  | .banked => 0 | .alreadyPending => 1 | .postponed => 2 | .counted => 3

def activityCode : Activity → Nat
  | .drive => 0 | .work => 1 | .available => 2 | .rest => 3

/-- DRIVER, CO_DRIVER or none (R114). -/
def slotCode : Option DriverSlot → Nat
  | some .driver => 0 | some .coDriver => 1 | none => 2

def prewarmCode : PrewarmState → Nat
  | .notWanted => 0 | .wanted => 1 | .placed => 2 | .refused => 3 | .withdrawn => 4 | .done => 5

def warnKindCode : WarnKind → Nat
  | .breakSoon => 0 | .breakDue => 1 | .daySoon => 2 | .dayDue => 3 | .wake => 4 | .restShort => 5
  | .restBroken => 6 | .reserveLow => 7 | .cabinetWarm => 8

def warnTargetCode : WarnTarget → Nat
  | .record i => i.val | .bunk .lower => 4 | .bunk .upper => 5 | .cab => 6

def warnLevelCode : WarnLevel → Nat
  | .notice => 0 | .alert => 1

/-- DOUBLE, TRIPLE, TRIAD, in the order of R147: DESIGN CHOICE [10]. -/
def chimePatternCode : ChimePattern → Nat
  | .double => 0 | .triple => 1 | .triad => 2

def sunriseCode : SunriseState → Nat
  | .none => 0 | .placed => 1 | .refused => 2 | .withdrawn => 3 | .done => 4

def sourceCode : FaultSource → Nat
  | .channel n => n.val | .heater => 12 | .charge => 13 | .battTemp => 14 | .cabinTemp => 15
  | .cabinetTemp => 16 | .flameTemp => 17 | .timebase => 18

def faultCodeCode : FaultCode → Nat
  | .short => 0 | .overcurrent => 1 | .ignitionFailed => 2 | .flameOutRepeat => 3 | .overheat => 4
  | .sensorOpen => 5 | .sensorShort => 6 | .chargePath => 7 | .slowOscStop => 8

/-- IDLE follows the run kinds: DESIGN CHOICE [10]. -/
def detectCode : DetectState → Nat
  | .channel c => chanStateCode c
  | .heater p => heaterPhaseCode p
  | .fridge (some k) => runKindCode k
  | .fridge none => 4
  | .chargePath lost => if lost then 1 else 0
  | .mode .awake => 0
  | .mode .doze => 1

def wiringClassCode : WiringClass → Nat
  | .ok => 0 | .open_ => 1 | .high => 2 | .short => 3 | .notTested => 4

def resetCauseCode : ResetCause → Nat
  | .power => 0 | .pin => 1 | .restart => 2

def modeCode : PartMode → Nat
  | .awake => 0 | .doze => 1

def sourceClockCode : ClockSource → Nat
  | .crystal => 0 | .slow => 1

def wakeCauseCode : WakeCause → Nat
  | .linkV => 0 | .linkB => 1 | .input => 2 | .engineRun => 3 | .handset => 4 | .warning => 5 | .capture => 6 | .hold => 7

def rxCode : RxState → Nat
  | .idle => 0 | .leader _ _ => 1 | .bits _ _ => 2 | .stop _ _ => 3 | .repeatWindow => 4

def bunkCode : Bunk → Nat
  | .lower => 0 | .upper => 1

def polarityCode : Polarity → Nat
  | .activeHigh => 0 | .activeLow => 1

def inputKindCode : InputKind → Nat
  | .edge => 0 | .level => 1

/-- The status codes of R197. -/
def statusCode : Status → Byte
  | .ok => 0x00#8 | .reduced => 0x01#8 | .empty => 0x02#8 | .waking => 0x03#8
  | .malformed => 0x10#8 | .unknown => 0x11#8 | .notPermitted => 0x12#8 | .locked => 0x13#8
  | .noHeadroom => 0x20#8 | .noRoom => 0x21#8 | .hold => 0x22#8 | .testing => 0x23#8
  | .loadLocked => 0x24#8 | .lockout => 0x25#8 | .notFound => 0x26#8 | .condition => 0x27#8

/-! ### Encodings of the fields of a payload (R197) -/

def encU8 (n : Nat) : List Byte := [BitVec.ofNat 8 n]

/-- A count above 255 reads 255: DESIGN CHOICE [10]. -/
def encCount (n : Nat) : List Byte := encU8 (min n 255)

/-- Two bytes, little-endian. -/
def enc16 (w : BitVec 16) : List Byte := [w.setWidth 8, (w >>> 8).setWidth 8]

/-- Four bytes, little-endian. -/
def enc32 (w : BitVec 32) : List Byte :=
  [w.setWidth 8, (w >>> 8).setWidth 8, (w >>> 16).setWidth 8, (w >>> 24).setWidth 8]

def encNat32 (n : Nat) : List Byte := enc32 (BitVec.ofNat 32 n)

def encInt32 (z : Int) : List Byte := enc32 (BitVec.ofInt 32 z)

def encTemp (t : Int) : List Byte := enc16 (BitVec.ofInt 16 t)

def encFlag (b : Bool) : List Byte := encU8 (if b then 1 else 0)

/-- An optional field: its presence byte, then the field when present. -/
def encOpt {α : Type} (enc : α → List Byte) : Option α → List Byte
  | none => encU8 0
  | some x => encU8 1 ++ enc x

/-- A list of varying length: its count, then its items. -/
def encList {α : Type} (enc : α → List Byte) (xs : List α) : List Byte :=
  encU8 xs.length ++ xs.flatMap enc

/-- A requested or effective level: three bytes. -/
def encLevel (v : Level) : List Byte := encU8 v.level ++ encU8 v.setpoint ++ encU8 v.maxStage

/-- The bytes a FETCH clocks out after the link status byte (R197). -/
def encResponse (r : Response) : List Byte :=
  [0x00#8, statusCode r.status, r.kind] ++ encU8 r.payload.length ++ r.payload

/-! ### The request catalogue (R203) -/

/-- A row of the catalogue: the kind, the payload lengths, and the links that may send it. -/
structure CatalogueRow where
  kind : Nat
  lengths : List Nat
  onV : Bool
  onB : Bool
  deriving DecidableEq, Repr

/-- The catalogue of R203 but for FETCH, which is judged by R199. -/
def catalogue : List CatalogueRow :=
  [⟨0x02, [0], true, true⟩, ⟨0x03, [4], true, true⟩, ⟨0x04, [0], true, true⟩, ⟨0x05, [1], true, true⟩,
   ⟨0x06, [0], true, true⟩, ⟨0x10, [7, 11], true, true⟩, ⟨0x11, [2], true, true⟩, ⟨0x12, [2], true, true⟩,
   ⟨0x18, [2], true, true⟩, ⟨0x19, [0], true, true⟩, ⟨0x1C, [5], true, true⟩, ⟨0x1D, [0], true, true⟩,
   ⟨0x20, [2], true, true⟩, ⟨0x24, [1], true, true⟩] ++
  [⟨0x30, [5], true, false⟩, ⟨0x31, [1], true, false⟩, ⟨0x32, [0], true, false⟩, ⟨0x38, [4], true, false⟩,
   ⟨0x39, [4], true, false⟩, ⟨0x40, [3], true, false⟩, ⟨0x41, [2], true, false⟩, ⟨0x42, [1], true, false⟩,
   ⟨0x43, [0], true, false⟩, ⟨0x48, [5], true, false⟩, ⟨0x50, [0], true, false⟩, ⟨0x51, [0], true, false⟩,
   ⟨0x52, [0], true, false⟩, ⟨0x53, [1], true, false⟩, ⟨0x54, [0], true, false⟩, ⟨0x55, [0], true, false⟩,
   ⟨0x5F, [0], true, false⟩] ++
  [⟨0x60, [4, 8], false, true⟩, ⟨0x61, [1], false, true⟩, ⟨0x62, [1], false, true⟩, ⟨0x63, [1], false, true⟩]

def catalogueRow? (kind : Nat) : Option CatalogueRow := catalogue.find? (fun r => r.kind == kind)

/-- Whether the catalogue permits the kind on the link (R203). -/
def permitted (l : Link) (kind : Byte) : Bool :=
  match catalogueRow? kind.toNat with
  | none => false
  | some r => match l with | .v => r.onV | .b => r.onB

/-! ### Reading a request's arguments (R197, R203) -/

/-- Byte `i` of a payload. -/
def argByte (p : List Byte) (i : Nat) : Byte := p.getD i 0#8

/-- The two bytes from place `i`, little-endian. -/
def arg16 (p : List Byte) (i : Nat) : BitVec 16 := argByte p (i + 1) ++ argByte p i

/-- The four bytes from place `i`, little-endian. -/
def arg32 (p : List Byte) (i : Nat) : BitVec 32 := arg16 p (i + 2) ++ arg16 p i

/-- The value at the position byte `i` gives in its owner's list; none beyond the last. -/
def argOf {α : Type} (values : List α) (p : List Byte) (i : Nat) : Option α := values[(argByte p i).toNat]?

def loadList : List Load :=
  [.heater, .fridge, .zoneLower, .zoneUpper, .readLower, .readUpper, .step, .outlet1, .outlet2, .vent]

def purposeList : List Purpose := [.comfort, .schedule, .courtesy, .cooling, .purge, .warning]

def originList : List Origin := [.lower, .upper, .cab]

def bunkList : List Bunk := [.lower, .upper]

def slotList : List DriverSlot := [.driver, .coDriver]

def activityList : List Activity := [.drive, .work, .available, .rest]

def warnKindList : List WarnKind :=
  [.breakSoon, .breakDue, .daySoon, .dayDue, .wake, .restShort, .restBroken, .reserveLow, .cabinetWarm]

def warnTargetList : List WarnTarget :=
  [.record 0, .record 1, .record 2, .record 3, .bunk .lower, .bunk .upper, .cab]

def sourceList : List FaultSource :=
  (List.finRange 12).map .channel ++ [.heater, .charge, .battTemp, .cabinTemp, .cabinetTemp, .flameTemp, .timebase]

def polarityList : List Polarity := [.activeHigh, .activeLow]

def inputKindList : List InputKind := [.edge, .level]

/-- Byte `i` as a flag: 0 or 1. -/
def argFlag (p : List Byte) (i : Nat) : Option Bool := argOf [false, true] p i

/-- The optional time whose presence byte is byte `i`. -/
def argTime (p : List Byte) (i : Nat) : Option RtcTime := if argByte p i = 1#8 then some (arg32 p (i + 1)) else none

/-- INDEX, SLOT and BUNK, with the value each names (R135). -/
def argSelector (p : List Byte) : Option AccountSelector :=
  match (argByte p 0).toNat with
  | 0 => (argOf (List.finRange 4) p 1).map .index
  | 1 => (argOf slotList p 1).map .slot
  | 2 => (argOf bunkList p 1).map .bunk
  | _ => none

/-- The routing of an input: bit 0 a notice on Link V, bit 1 one on Link B, bit 2 a wake (R190, R193). -/
def argConfig (p : List Byte) : Option InputConfig :=
  match argOf polarityList p 1, argOf inputKindList p 2, argFlag p 3 with
  | some polarity, some kind, some debounce =>
    if (argByte p 4).toNat < 8 then
      some
        { polarity := polarity, kind := kind, debounce := debounce, noticeV := (argByte p 4).getLsbD 0
          noticeB := (argByte p 4).getLsbD 1, wake := (argByte p 4).getLsbD 2 }
    else none
  | _, _, _ => none

/-- The request a kind and its payload spell on a link, in the order of the catalogue's arguments; none where an argument
lies outside the values the request defines (R196 case 6, R203). -/
def requestOf (l : Link) (kind : Nat) (p : List Byte) : Option Instr :=
  match kind with
  | 0x02 => some (.notices l)
  | 0x03 => some (.noticeEnable l (arg32 p 0))
  | 0x04 => some (.release l)
  | 0x05 => some (.statusRead l (argByte p 0))
  | 0x06 => some (.budgetRead l)
  | 0x10 => do
    some (.grantRequest l (← argOf loadList p 0) (← argOf purposeList p 1) (← argOf originList p 2)
      (argByte p 3) (argByte p 4) (argByte p 5) (argTime p 6))
  | 0x11 => do some (.grantProbe l (← argOf loadList p 0) (← argOf purposeList p 1))
  | 0x12 => do some (.grantRevoke l (← argOf loadList p 0) (← argOf purposeList p 1))
  | 0x18 => do some (.ackWarning l (← argOf warnKindList p 0) (← argOf warnTargetList p 1))
  | 0x19 => some (.warningList l)
  | 0x1C => do some (.ackFault l (← argOf sourceList p 0) (arg32 p 1))
  | 0x1D => some (.faultRead l)
  | 0x20 => do some (.accountRead l (← argSelector p))
  | 0x24 => do some (.fridgeSet l (← argFlag p 0))
  | 0x30 => some (.policySet l (argByte p 0) (arg32 p 1))
  | 0x31 => some (.policyGet l (argByte p 0))
  | 0x32 => some (.policyLock l)
  | 0x38 => some (.seedCharge l (arg32 p 0))
  | 0x39 => some (.timeSet l (arg32 p 0))
  | 0x40 => do some (.card l (← argOf slotList p 0) (arg16 p 1))
  | 0x41 => do some (.activity l (← argOf slotList p 0) (← argOf activityList p 1))
  | 0x42 => do some (.motion l (← argFlag p 0))
  | 0x43 => some (.slotSwap l)
  | 0x48 => do some (.inputConfig l (argByte p 0) (← argConfig p))
  | 0x50 => some (.hold l)
  | 0x51 => some (.releaseHold l)
  | 0x52 => some (.clearLockout l)
  | 0x53 => some (.clearChannel l (argByte p 0))
  | 0x54 => some (.wiringCheck l)
  | 0x55 => some (.checkRead l)
  | 0x5F => some (.restart l)
  | 0x60 => do
    some (.bunkRest l (← argOf bunkList p 0) (← argOf slotList p 1) (argTime p 2) (← argFlag p (p.length - 1)))
  | 0x61 => do some (.bunkWake l (← argOf bunkList p 0))
  | 0x62 => do some (.snooze l (← argOf bunkList p 0))
  | 0x63 => do some (.pairHandset l (← argOf bunkList p 0))
  | _ => none

/-! ### Judging a request frame (R196) -/

/-- Whether the presence byte of a kind with an optional field agrees with the payload's length (R196, case 5). -/
def presenceOk (kind : Nat) (p : List Byte) : Bool :=
  match kind with
  | 0x10 => p.length == 11 && argByte p 6 == 1#8 || p.length == 7 && argByte p 6 == 0#8
  | 0x60 => p.length == 8 && argByte p 2 == 1#8 || p.length == 4 && argByte p 2 == 0#8
  | _ => true

/-- What a frame is judged as in AWAKE (R195, R196). -/
inductive FrameVerdict where
  | noByte | fetch | malformed | unknown | notPermitted
  /-- A frame that passes every test, with the request it is. -/
  | defined (c : Instr)
  deriving DecidableEq, Repr

/-- The verdict on a complete frame of this kind with this payload (R196, cases 3 to 6). -/
def judgePayload (l : Link) (k : Byte) (p : List Byte) : FrameVerdict :=
  match catalogueRow? k.toNat with
  | none => .unknown
  | some row =>
    if !permitted l k then .notPermitted
    else if !(row.lengths.contains p.length) || !presenceOk k.toNat p then .malformed
    else
      match requestOf l k.toNat p with
      | some c => .defined c
      | none => .malformed

/-- The verdict on the bytes a host clocked in (R195, R196, R199). -/
def judgeFrame (l : Link) : List Byte → FrameVerdict
  | [] => .noByte
  | [k] => if k = 0x01#8 then .fetch else .malformed
  | k :: n :: rest =>
    if k = 0x01#8 then .fetch
    else if n.toNat > 30 || rest.length < n.toNat then .malformed
    else judgePayload l k (rest.take n.toNat)

end Sys2Proof.Machine
end

