-- ==== Sys2Proof/Machine/Ops.lean ====
section
/-! DEFINITION. The operations every block uses: the two clocks, notices, wake requests and the doze timer, the
service of a request transfer, and the counting of a temperature sensor. -/

namespace Sys2Proof.Machine

/-! ### Durations and times (R168, R169) -/

/-- Milliseconds, seconds and minutes in the internal clock's microseconds. -/
def millis (n : Nat) : Nat := n * 1000
def secs (n : Nat) : Nat := n * 1000000
def mins (n : Nat) : Nat := n * 60000000

/-- A time is at or after another when the first less the second, modulo 2^32, is below 2^31 (R169). -/
def atOrAfter (a b : RtcTime) : Bool := (a - b).toNat < 2147483648

/-- A time is before another otherwise (R169). -/
def isBefore (a b : RtcTime) : Bool := !atOrAfter a b

/-- The difference of two times in seconds; 2^31 or more stands for a negative one (R169). -/
def timeDiff (a b : RtcTime) : Int := (a - b).toInt

/-- A time with a duration in seconds added, modulo 2^32 (R169). -/
def plusSecs (t : RtcTime) (n : Nat) : RtcTime := t + BitVec.ofNat 32 n

/-- A time with a duration in seconds taken off, modulo 2^32 (R169). -/
def minusSecs (t : RtcTime) (n : Nat) : RtcTime := t - BitVec.ofNat 32 n

/-- The RTC as it stands. -/
def now (s : State) : RtcTime := s.tu.rtc

/-- The internal clock. -/
def clock (s : State) : Nat := s.tu.clock

/-- The internal clock reaches `t`; it never goes back [3]. -/
def reach (t : Nat) (s : State) : State := { s with tu.clock := max s.tu.clock t }

/-- A number clamped to a range (scope, Arithmetic). -/
def clampNat (lo hi n : Nat) : Nat := max lo (min hi n)
def clampInt (lo hi z : Int) : Int := max lo (min hi z)

/-- ceil(a / b) on natural numbers. -/
def ceilDiv (a b : Nat) : Nat := (a + b - 1) / b

/-- The seconds left of a timer: 0 while it is stopped (R197); how a part-second counts is left open [7]. -/
def secondsLeft (due : Option Nat) (s : State) : Nat :=
  match due with
  | none => 0
  | some d =>
    let left := d - s.tu.clock
    if left % 1000000 = 0 then left / 1000000
    else left / 1000000 + (if Config.partSecondCounts left then 1 else 0)

/-! ### Bunks, ports, channels and inputs -/

def PerBunk.get {α : Type} (p : PerBunk α) : Bunk → α
  | .lower => p.lower
  | .upper => p.upper

def PerBunk.set {α : Type} (p : PerBunk α) (b : Bunk) (x : α) : PerBunk α :=
  match b with
  | .lower => { p with lower := x }
  | .upper => { p with upper := x }

/-- The other bunk. -/
def otherBunk : Bunk → Bunk
  | .lower => .upper
  | .upper => .lower

/-- The origin that speaks for a bunk (R25). -/
def bunkOrigin : Bunk → Origin
  | .lower => .lower
  | .upper => .upper

def port (l : Link) (s : State) : Port :=
  match l with
  | .v => s.portV
  | .b => s.portB

def mapPort (l : Link) (f : Port → Port) (s : State) : State :=
  match l with
  | .v => { s with portV := f s.portV }
  | .b => { s with portB := f s.portB }

def chan (n : Fin 12) (s : State) : Channel := s.ca.chans[n]

def setChan (n : Fin 12) (c : Channel) (s : State) : State :=
  { s with ca.chans := s.ca.chans.set n c }

def input (n : Fin 8) (s : State) : EventInput := s.ei.inputs[n]

def setInput (n : Fin 8) (x : EventInput) (s : State) : State :=
  { s with ei.inputs := s.ei.inputs.set n x }

/-- The main domain is held in reset (R174). -/
def inReset (s : State) : Bool := s.tu.resetHold.isSome

/-- Outside a main reset alone; in it the main domain's blocks take no event (R174) [27]. -/
def unlessReset (f : State → State) (s : State) : State := if inReset s then s else f s

/-! ### Notices (R200) -/

def notify (l : Link) (n : Notice) (s : State) : State := mapPort l (setNotice n) s

def notifyBoth (n : Notice) (s : State) : State := notify .b n (notify .v n s)

/-- The attention line of a link: asserted for an enabled notice or a full slot, released during a main reset (R201). -/
def attention (l : Link) (s : State) : Bool := !inReset s && wantsAttention (port l s)

/-! ### SAFE HOLD and the doze timer -/

/-- The part is in SAFE HOLD while a hold cause is recorded (R163). -/
def inHold (s : State) : Bool :=
  s.fu.cause1.isSome || s.fu.cause2.isSome || s.fu.cause3.isSome || s.fu.cause4.isSome

/-- No transfer is in progress on the link. -/
def quietLink (p : Port) : Bool :=
  match p.transfer with
  | .open_ _ => false
  | _ => true

/-- The conditions under which the doze timer runs (R176). -/
def dozeReady (s : State) : Bool :=
  s.tu.mode == .awake && s.tu.exitDue.isNone && s.portV.released && s.portB.released && s.ca.check.isNone &&
  s.tu.postExit && quietLink s.portV && quietLink s.portB

/-- The doze timer runs while its conditions hold, and starts afresh when the last of them becomes true (R176). -/
def syncDoze (s : State) : State :=
  if dozeReady s then
    { s with tu.dozeDue := some (s.tu.dozeDue.getD (s.tu.clock + secs 2)) }
  else { s with tu.dozeDue := none }

/-! ### Wake requests (R178, R179) -/

/-- A wake request in DOZE with no exit in progress starts the 2 ms exit; any other has no effect (R179). -/
def wake (cause : WakeCause) (s : State) : State :=
  if s.tu.mode == .doze && s.tu.exitDue.isNone then
    { s with
      tu.lastWake := some (cause, s.tu.rtc)
      tu.postExit := false
      tu.exitDue := some (s.tu.clock + millis 2)
      tu.dozeDue := none }
  else s

def linkCause : Link → WakeCause
  | .v => .linkV
  | .b => .linkB

/-! ### Request transfers (R195 to R198) -/

/-- A transfer starts: the doze timer stops, and in DOZE it is a wake request (R176, R180). In a main reset it is
not answered and is lost (R208). -/
def beginTransfer (l : Link) (s : State) : State :=
  if inReset s then mapPort l (fun p => { p with transfer := .lost, out := [0#8] }) s
  else
    let waking := s.tu.mode == .doze
    let s := mapPort l (fun p => { p with transfer := .open_ waking, out := [statusByte waking p.slot] }) s
    let s := { s with tu.dozeDue := none }
    if waking then wake (linkCause l) s else s

/-- A transfer ends; the doze timer starts afresh where its conditions hold (R176). -/
def endTransfer (l : Link) (s : State) : State :=
  syncDoze (mapPort l (fun p => { p with transfer := .none }) s)

/-- The transfer a command ends; one with no open transfer stands for its start and its end together [4]. -/
def openTransfer (l : Link) (s : State) : State :=
  match (port l s).transfer with
  | .none => beginTransfer l s
  | _ => s

/-- The port places a response, over any response in the slot (R198). -/
def placeResponse (l : Link) (r : Response) (s : State) : State :=
  mapPort l (fun p => { p with slot := some r }) s

/-- A block's answer to a request: the state it leaves, the status and the payload. -/
structure Reply where
  state : State
  status : Status
  payload : List Byte

/-- A refusal leaves the state as it was (scope, Requests). -/
def refuse (st : Status) (s : State) : Reply := ⟨s, st, []⟩

/-- Taken, with no payload. -/
def taken (s : State) : Reply := ⟨s, .ok, []⟩

/-- Any request transfer but FETCH clears the link's released flag (R176). -/
def clearReleased (l : Link) (s : State) : State := mapPort l (fun p => { p with released := false }) s

/-- The end of a request transfer that is answered (R196, R198). -/
def answer (l : Link) (kind : Byte) (r : Reply) : State :=
  endTransfer l (placeResponse l ⟨r.status, kind, r.payload⟩ r.state)

/-- A request transfer ends: it is answered WAKING in DOZE (R180), NOT_PERMITTED where the catalogue does not permit
its kind on the link (R196), and is otherwise performed by its owner. A transfer met by a main reset is lost (R208). The
link's released flag is cleared first, so that a report of it shows it clear: DESIGN CHOICE [47]. -/
def serve (l : Link) (kind : Byte) (perform : State → Reply) (s : State) : State :=
  let s := openTransfer l s
  match (port l s).transfer with
  | .open_ waking =>
    let s := clearReleased l s
    if waking then answer l kind (refuse .waking s)
    else if permitted l kind then answer l kind (perform s)
    else answer l kind (refuse .notPermitted s)
  | _ => mapPort l (fun p => { p with transfer := .none }) s

/-! ### Temperature sensors (R3, R76, R100) -/

/-- What one result of a temperature conversion means to the sensor's owner. -/
inductive SensorEvent where
  | value (t : Int)
  | keep
  | failed (code : FaultCode)
  deriving DecidableEq, Repr

/-- Three consecutive OPEN or SHORT results fail a sensor, three consecutive temperature results restore it. -/
def sensorStep (lo hi : Int) (x : Sensor) : TempResult → Sensor × SensorEvent
  | .celsius t =>
    let good := x.goodCount + 1
    if x.failed && good < 3 then ({ failed := true, badCount := 0, goodCount := good }, .keep)
    else ({ failed := false, badCount := 0, goodCount := good }, .value (clampInt lo hi t))
  | .openCircuit => badResult .sensorOpen
  | .shortCircuit => badResult .sensorShort
where
  badResult (code : FaultCode) : Sensor × SensorEvent :=
    let bad := x.badCount + 1
    if !x.failed && 3 ≤ bad then ({ failed := true, badCount := bad, goodCount := 0 }, .failed code)
    else ({ failed := x.failed, badCount := bad, goodCount := 0 }, .keep)

/-! ### Rest facts other blocks read -/

/-- Quiet hours are in force for the part while RM reports them for at least one bunk (R131). -/
def anyQuiet (s : State) : Bool := s.rm.quiet.lower || s.rm.quiet.upper

/-- A bunk rest is in progress in the bunk (R127). -/
def resting (b : Bunk) (s : State) : Bool := (s.rm.rests.get b).isSome

end Sys2Proof.Machine
end

