-- ==== Sys2Proof/Machine/Channels.lean ====
section
/-! DEFINITION. The Channel Array's operations on one channel and on all of them (R56 to R74): limits, targets, the
channel state machine, and the wiring check's driving of the channels. -/

namespace Sys2Proof.Machine

/-! ### Ratings and limits (R56) -/

/-- The rated current of a channel: fixed on CH0 to CH2, P13 to P21 on the others. -/
def rating (p : Policy) (n : Fin 12) : Nat :=
  match n.val with
  | 0 => 8000 | 1 => 2400 | 2 => 400 | 3 => p.p13 | 4 => p.p14 | 5 => p.p15 | 6 => p.p16 | 7 => p.p17
  | 8 => p.p18 | 9 => p.p19 | 10 => p.p20 | _ => p.p21

def openLimit (rated : Nat) : Nat := rated * 2 / 100
def checkLowLimit (rated : Nat) : Nat := rated * 5 / 100
def runLimit (rated : Nat) : Nat := rated * 150 / 100
def inrushLimit (rated : Nat) : Nat := rated * 400 / 100
def shortThreshold (rated : Nat) : Nat := rated * 600 / 100

/-- The sense reads 65,535 mA for every current beyond its range (R56). -/
def senseReading (current : Nat) : Nat := min current 65535

/-- The load a channel serves (scope, Loads and channels). -/
def channelLoad (n : Fin 12) : Load :=
  match n.val with
  | 0 => .heater | 1 => .heater | 2 => .heater | 3 => .fridge | 4 => .zoneLower | 5 => .zoneUpper
  | 6 => .readLower | 7 => .readUpper | 8 => .step | 9 => .outlet1 | 10 => .outlet2 | _ => .vent

/-- The channels of a load. -/
def loadChannels : Load → List (Fin 12)
  | .heater => [0, 1, 2] | .fridge => [3] | .zoneLower => [4] | .zoneUpper => [5] | .readLower => [6]
  | .readUpper => [7] | .step => [8] | .outlet1 => [9] | .outlet2 => [10] | .vent => [11]

/-- A channel of the load is LOCKED (R33, R42). -/
def loadLocked (load : Load) (s : State) : Bool :=
  (loadChannels load).any (fun n => (chan n s).state == .locked)

/-! ### Kinds of channel (R60) -/

/-- CH4 to CH7 fade. -/
def isFaded (n : Fin 12) : Bool := 4 ≤ n.val && n.val ≤ 7

/-- CH0, CH3, CH8, CH9 and CH10 are on/off channels. -/
def isOnOff (n : Fin 12) : Bool := n.val == 0 || n.val == 3 || n.val == 8 || n.val == 9 || n.val == 10

/-- What a non-zero target drives at once: fully on for an on/off channel, the target for the others (R60). -/
def driveLevel (n : Fin 12) (target : Nat) : Nat :=
  if isOnOff n then (if target = 0 then 0 else 255) else target

/-- The inrush window: 2 s on CH0 and 500 ms on every other channel (R58). -/
def inrushWindow (n : Fin 12) : Nat := if n.val = 0 then secs 2 else millis 500

/-! ### The channel state machine (R58 to R66) -/

/-- A channel enters STARTING with its stored target: the output level of a faded lamp starts at 0 (R58, R60). -/
def enterStarting (n : Fin 12) (t : Nat) (c : Channel) : Channel :=
  { c with
    state := .starting
    output := if isFaded n then 0 else driveLevel n c.target
    inrushDue := some (t + inrushWindow n)
    retryDue := none
    lowSince := none
    fadeAt := t
    pulseAt := none }

/-- A zero target takes STARTING or ON to OFF at once; from ON it ends the activation (R58, R61). -/
def enterOff (c : Channel) : Channel :=
  { c with
    state := .off
    target := 0
    output := 0
    inrushDue := none
    retryDue := none
    lowSince := none
    pulseAt := none
    tripCount := if c.state == .on then 0 else c.tripCount
    openLoad := if c.state == .on then false else c.openLoad }

/-- A channel's answer to a target, at internal-clock time `t` (R57, R58, R60, R61). A new target of a faded lamp counts the
time of its next level afresh, DESIGN CHOICE [50]. -/
def targetChannel (n : Fin 12) (target t : Nat) (c : Channel) : Channel :=
  match c.state with
  | .off => if target = 0 then { c with target := 0 } else enterStarting n t { c with target := target }
  | .starting | .on =>
    if target = 0 then enterOff c
    else if target = c.target then c
    else if isFaded n then { c with target := target, fadeAt := t }
    else if n.val = 2 then { c with target := target }
    else { c with target := target, output := driveLevel n target }
  | .tripped | .locked | .test => { c with target := target }

/-- A driver hands a channel its target (R57). -/
def setTarget (n : Fin 12) (target : Nat) (s : State) : State :=
  setChan n (targetChannel n target s.tu.clock (chan n s)) s

/-- A channel in OFF with a non-zero target leaves OFF (R58). -/
def startFromTarget (n : Fin 12) (t : Nat) (c : Channel) : Channel :=
  if c.state == .off && c.target != 0 then enterStarting n t c else c

/-- A LOCKED channel returns to OFF, and leaves it again when its target is non-zero (R66). -/
def unlockChannel (n : Fin 12) (t : Nat) (c : Channel) : Channel :=
  startFromTarget n t { c with state := .off, output := 0, tripCount := 0, openLoad := false }

/-- The first trip of an activation in STARTING: TRIPPED with a 2 s retry (R63). -/
def tripChannel (t current : Nat) (c : Channel) : Channel :=
  { c with
    state := .tripped, output := 0, tripCount := 1, inrushDue := none, lowSince := none
    retryDue := some (t + secs 2), lastCurrent := current, pulseAt := none }

/-- Any other trip: LOCKED, keeping the trip count and the open-load flag (R64). -/
def lockChannel (current : Nat) (c : Channel) : Channel :=
  { c with
    state := .locked, output := 0, inrushDue := none, retryDue := none, lowSince := none
    lastCurrent := current, pulseAt := none }

/-- The overcurrent limit of a state (R58, R59, R69). -/
def overLimit (rated : Nat) : ChanState → Option Nat
  | .starting => some (inrushLimit rated)
  | .on => some (runLimit rated)
  | _ => none

/-! ### The wiring check's channels (R68 to R70) -/

/-- Every channel in TEST, the channel under test driven fully on (R69). That CH2, driven continuously, reports output level
255 is a DESIGN CHOICE [30]. -/
def testChannels (under : Fin 12) (s : State) : State :=
  { s with ca.chans := s.ca.chans.mapFinIdx (fun i c h =>
      { c with state := .test, output := if (⟨i, h⟩ : Fin 12) = under then 255 else 0 }) }

/-- Every channel returns to OFF. -/
def endTest (s : State) : State :=
  { s with ca.chans := s.ca.chans.map (fun c => { c with state := .off, output := 0 }) }

/-- Each channel in OFF with a non-zero target leaves OFF (R70). -/
def startAllFromTargets (s : State) : State :=
  { s with ca.chans := s.ca.chans.mapFinIdx (fun i c h => startFromTarget ⟨i, h⟩ s.tu.clock c) }

/-- The result of a step that its 100 ms ended, from its peak current (R69). -/
def classifyPeak (rated peak : Nat) : WiringClass :=
  if peak < checkLowLimit rated then .open_
  else if peak ≤ runLimit rated then .ok
  else .high

def notTested : Vector WiringResult 12 := Vector.replicate 12 ⟨.notTested, 0⟩

end Sys2Proof.Machine
end

