-- ==== Sys2Proof/Machine/Budget.lean ====
section
/-! DEFINITION. The figures of the Charge Monitor (R6, R7, R15) and the Admission Unit's draw rates, horizon and
projected demand (R28 to R31). -/

namespace Sys2Proof.Machine

/-! ### Usable and free charge (R6, R7) -/

/-- The battery temperature derating uses: −20 while the sensor is FAILED (R3). -/
def tbInUse (s : State) : Int := if s.cm.sensor.failed then -20 else s.cm.tb

/-- The derating factor in parts of 256 (R6). -/
def deratingFactor (slope : Nat) (tb : Int) : Nat :=
  if 25 ≤ tb then 256 else (max 96 (256 - (slope : Int) * (25 - tb))).toNat

def factor (s : State) : Nat := deratingFactor s.policy.p03 (tbInUse s)

/-- U = floor(Q × f / 256) (R7). -/
def usable (s : State) : Nat := s.cm.q * factor s / 256

/-- F = U − S (R7). -/
def freeCharge (s : State) : Int := (usable s : Int) - (s.policy.p02 : Int)

/-- Q_floor = ceil(S × 256 / f) (R15). -/
def floorCount (s : State) : Nat := ceilDiv (s.policy.p02 * 256) (factor s)

/-! ### Draw rates (R26, R28) -/

/-- The shed class of a grant (R26). -/
def shedClass (load : Load) : Purpose → Nat
  | .comfort => match load with | .heater => 1 | _ => 3
  | .schedule => match load with | .heater => 1 | _ => 2
  | .courtesy => 2
  | .cooling | .purge | .warning => 0

/-- COMFORT, SCHEDULE and COURTESY are the external purposes (R24). -/
def isExternal : Purpose → Bool
  | .comfort | .schedule | .courtesy => true
  | .cooling | .purge | .warning => false

/-- The rated current of a load: its policy item (R28, R53); that of CH1 for HEATER's purge. -/
def loadRating (p : Policy) : Load → Nat
  | .heater => 2400 | .fridge => p.p13 | .zoneLower => p.p14 | .zoneUpper => p.p15 | .readLower => p.p16
  | .readUpper => p.p17 | .step => p.p18 | .outlet1 => p.p19 | .outlet2 => p.p20 | .vent => p.p21

/-- The lamps and the vent: their output follows a level, and a request for them can be reduced (R28, R35). -/
def isLevelled : Load → Bool
  | .zoneLower | .zoneUpper | .readLower | .readUpper | .vent => true
  | .heater | .fridge | .step | .outlet1 | .outlet2 => false

/-- The stage currents P30 to P33 (R28, R80). -/
def stageCurrent (p : Policy) (stage : Nat) : Nat :=
  match stage with
  | 1 => p.p30
  | 2 => p.p31
  | 3 => p.p32
  | _ => p.p33

/-- The slot interval of a rate mode in minutes (R101). -/
def modeInterval (p : Policy) : RateMode → Nat
  | .normal => p.p42
  | .warm => p.p43
  | .cool => p.p44

/-- The draw rate D of a purpose on a load at an effective level, in mA (R28). -/
def drawFor (s : State) (load : Load) (purpose : Purpose) (eff : Level) : Nat :=
  match purpose with
  | .purge => 2400
  | .cooling => ceilDiv (s.policy.p13 * s.policy.p41) (modeInterval s.policy s.cs.mode)
  | .warning => ceilDiv (loadRating s.policy load) 2
  | .comfort | .schedule | .courtesy =>
    match load with
    | .heater => stageCurrent s.policy eff.maxStage
    | _ =>
      if isLevelled load then ceilDiv (loadRating s.policy load * eff.level) 255
      else loadRating s.policy load

/-- The draw rate D of a grant (R28). -/
def drawRate (s : State) (g : Grant) : Nat := drawFor s g.load g.purpose g.eff

/-! ### Horizon (R29) -/

/-- The planned ends of the rests in progress. -/
def plannedEnds (s : State) : List RtcTime :=
  [s.rm.rests.lower, s.rm.rests.upper].filterMap (fun r => r.bind (·.plannedEnd))

/-- Minutes from now to a planned end, rounded up; a planned end at or before now gives 0 (R29). -/
def minutesTo (s : State) (t : RtcTime) : Nat := ceilDiv (timeDiff t (now s)).toNat 60

/-- The horizon H in minutes (R29). -/
def horizon (s : State) : Nat :=
  match plannedEnds s with
  | [] => s.policy.p10
  | t :: ts => clampNat 60 720 (ts.foldl (fun m u => min m (minutesTo s u)) (minutesTo s t))

/-! ### Projected demand (R30, R31) -/

/-- The length in seconds of a grant's projection window (R30). -/
def windowLength (t : RtcTime) (h : Nat) (g : Grant) : Nat :=
  let opens : Int := match g.start with | none => 0 | some st => max 0 (timeDiff st t)
  let closes : Int := match g.endTime with
    | none => (h * 60 : Nat)
    | some e => min (h * 60 : Nat) (timeDiff e t)
  (closes - opens).toNat

/-- The projected charge of a grant at a horizon: ceil(D × L / 3600) while ACTIVE or WAITING, 0 otherwise (R30). -/
def projection (s : State) (h : Nat) (g : Grant) : Nat :=
  match g.state with
  | .active | .waiting => ceilDiv (drawRate s g * windowLength (now s) h g) 3600
  | .shed | .suspended => 0

/-- The purge charge counts while purge-owed is set (R31). -/
def purgeCharge (s : State) : Nat := if s.hs.purgeOwed then s.policy.p35 else 0

/-- A HEATER grant of purpose COMFORT or SCHEDULE is ACTIVE in the table (R31). -/
def heaterActive (table : List Grant) : Bool :=
  table.any (fun g => g.load == .heater && (g.purpose == .comfort || g.purpose == .schedule) && g.state == .active)

/-- The start charge counts while a heater grant is ACTIVE and the burner has still to start (R31). -/
def startCharge (s : State) (table : List Grant) : Nat :=
  if heaterActive table then
    match s.hs.phase with
    | .off | .standby | .preheat | .ignite => s.policy.p34
    | .run | .purge | .lockout => 0
  else 0

/-- The projected demand P of a table at a horizon (R31). -/
def demandOf (s : State) (h : Nat) (table : List Grant) : Nat :=
  (table.map (projection s h)).sum + purgeCharge s + startCharge s table

/-- P as the table stands, at the present horizon (R31). -/
def demand (s : State) : Nat := demandOf s (horizon s) s.au.table

/-- The headroom F − P (R31). -/
def headroom (s : State) : Int := freeCharge s - (demand s : Int)

end Sys2Proof.Machine
end

