-- ==== Sys2Proof/Machine/GrantTable.lean ====
section
/-! DEFINITION. The grant table as a store: finding, placing, changing and removing entries, the shed list, and the
entries of internal purposes (R24, R25, R37, R40). -/

namespace Sys2Proof.Machine

/-- The entry is that of the pair (load, purpose) (R24). -/
def isPair (load : Load) (purpose : Purpose) (g : Grant) : Bool := g.load == load && g.purpose == purpose

/-- The entry of a pair (R24). -/
def findGrant (load : Load) (purpose : Purpose) (s : State) : Option Grant :=
  s.au.table.find? (isPair load purpose)

/-- The lowest free position (R24); 16 when every position holds a grant. -/
def freePosition (table : List Grant) : Nat :=
  ((List.range 16).find? (fun i => table.all (fun g => g.pos != i))).getD 16

/-- A grant put at its position: the table stays in order of position. -/
def putAt (g : Grant) : List Grant → List Grant
  | [] => [g]
  | x :: xs => if g.pos < x.pos then g :: x :: xs else if g.pos = x.pos then g :: xs else x :: putAt g xs

/-- Change the entry of a pair. -/
def mapPair (load : Load) (purpose : Purpose) (f : Grant → Grant) (table : List Grant) : List Grant :=
  table.map (fun g => if isPair load purpose g then f g else g)

def updateGrant (load : Load) (purpose : Purpose) (f : Grant → Grant) (s : State) : State :=
  { s with au.table := mapPair load purpose f s.au.table }

/-- Take the position out of the shed list (R40). -/
def unlist (pos : Nat) (s : State) : State := { s with au.shedList := s.au.shedList.filter (· != pos) }

/-- Remove the entry of a pair; a removed SHED entry leaves the shed list (R40, R47). -/
def dropGrant (load : Load) (purpose : Purpose) (s : State) : State :=
  match findGrant load purpose s with
  | none => s
  | some g =>
    unlist g.pos { s with au.table := s.au.table.filter (fun x => !isPair load purpose x) }

/-- The number of entries of external purposes (R24). -/
def externalCount (s : State) : Nat := s.au.table.countP (fun g => isExternal g.purpose)

/-- The grant at a position. -/
def grantAt (pos : Nat) (s : State) : Option Grant := s.au.table.find? (fun g => g.pos == pos)

/-- The shed time of the grant at a position. -/
def shedTimeAt (pos : Nat) (s : State) : Option RtcTime := (grantAt pos s).bind (·.shedTime)

/-- The place of a newly shed grant in the shed list: after every entry with an earlier shed time, and among entries
of the same shed time by position (R39, R40). R46's "join the end" says otherwise only after a TIME_SET back: DESIGN CHOICE
[43]. -/
def enlist (timeAt : Nat → Option RtcTime) (pos : Nat) (t : RtcTime) : List Nat → List Nat
  | [] => [pos]
  | p :: ps =>
    match timeAt p with
    | none => p :: enlist timeAt pos t ps
    | some u =>
      if isBefore u t || (u == t && p < pos) then p :: enlist timeAt pos t ps else pos :: p :: ps

/-- A grant becomes SHED with this shed time and joins the shed list (R40, R46, R50). -/
def shedGrant (t : RtcTime) (g : Grant) (s : State) : State :=
  let list := enlist (fun p => shedTimeAt p s) g.pos t (s.au.shedList.filter (· != g.pos))
  let s := updateGrant g.load g.purpose (fun x => { x with state := .shed, shedTime := some t }) s
  { s with au.shedList := list }

/-- ACTIVE, or WAITING if the start time is after now (R36, R42). -/
def liveState (s : State) (start : Option RtcTime) : GrantState :=
  match start with
  | none => .active
  | some t => if atOrAfter (now s) t then .active else .waiting

/-- A SHED grant is restored: it leaves the shed list and loses its shed time, and a shed pointer at its position
advances (R39, R42). -/
def restoreGrant (g : Grant) (s : State) : State :=
  let s := updateGrant g.load g.purpose (fun x => { x with state := liveState s x.start, shedTime := none }) s
  let s := unlist g.pos s
  if s.au.pointer = g.pos then { s with au.pointer := (g.pos + 1) % 16 } else s

/-- The load is in FU's suspension list (R159). -/
def isSuspended (load : Load) (s : State) : Bool := s.fu.susp.any (fun e => e.load == load)

/-- An entry of the load is SUSPENDED. -/
def hasSuspended (load : Load) (s : State) : Bool :=
  s.au.table.any (fun g => g.load == load && g.state == .suspended)

/-- A request of an internal purpose: it creates its entry in the lowest free position, ACTIVE, or SUSPENDED where
the load is suspended or has a LOCKED channel; on a pair that is present it changes the figures alone (R37). -/
def internalRequest (load : Load) (purpose : Purpose) (origin : Origin) (endTime : Option RtcTime)
    (s : State) : State :=
  match findGrant load purpose s with
  | some _ => updateGrant load purpose (fun g => { g with endTime := endTime, origin := origin }) s
  | none =>
    let st : GrantState :=
      if hasSuspended load s || loadLocked load s || isSuspended load s then .suspended else .active
    let g : Grant :=
      { pos := freePosition s.au.table, load := load, purpose := purpose, requester := .internal, origin := origin
        req := {}, eff := {}, start := none, endTime := endTime, state := st, shedTime := none, quietLimit := none }
    { s with au.table := putAt g s.au.table }

end Sys2Proof.Machine
end

