-- ==== Sys2Proof/Machine/HeaterOps.lean ====
section
/-! DEFINITION. The Heater Sequencer's phases, its stages, its purge, and its answer to the merged heater grant
(R52, R75 to R93). -/

namespace Sys2Proof.Machine

/-! ### The merged heater grant (R52) -/

/-- An entry that enters the merged heater grant. -/
def heats (g : Grant) : Bool :=
  g.load == .heater && (g.purpose == .comfort || g.purpose == .schedule) && g.state == .active

/-- The merged heater grant of the table: absent with no ACTIVE entry or with a SUSPENDED one (R52). -/
def mergedHeat (s : State) : Option MergedHeat :=
  if hasSuspended .heater s then none
  else
    match s.au.table.filter heats with
    | [] => none
    | g :: gs =>
      some { setpoint := gs.foldl (fun m x => max m x.eff.setpoint) g.eff.setpoint
             maxStage := gs.foldl (fun m x => max m x.eff.maxStage) g.eff.maxStage }

/-! ### Targets and phases (R57, R75) -/

/-- HS hands its three channels their targets: glow, fan level, pump rate (R57, R75). -/
def heaterTargets (glow : Bool) (fan pump : Nat) (s : State) : State :=
  setTarget 1 fan (setTarget 0 (if glow then 255 else 0) (setTarget 2 pump s))

/-- Every timer of the phases stops and the figures of a phase are cleared. -/
def clearPhase (h : Heater) : Heater :=
  { h with
    stage := none, demand := none, purge := none, preheatDue := none, ignitionDue := none
    regulationDue := none, provenDue := none, satisfiedDue := none, flameOutDue := none, holdLimit := false }

/-- A change of phase: HEATER_PHASE on both links (R95). -/
def toPhase (p : HeaterPhase) (s : State) : State :=
  notifyBoth .heaterPhase { s with hs := { clearPhase s.hs with phase := p } }

/-- OFF: all channels off; the activation ends (R75). -/
def enterHeaterOff (s : State) : State :=
  let s := toPhase .off s
  heaterTargets false 0 0 { s with hs.activation := false }

/-- PREHEAT (R78); it begins a heater activation where none is in progress (R75) [22]. -/
def enterPreheat (s : State) : State :=
  let s := toPhase .preheat s
  let h := s.hs
  let h := if h.activation then h else { h with activation := true, attempts := 0, flameOuts := 0 }
  heaterTargets true 50 0 { s with hs := { h with preheatDue := some (s.tu.clock + secs 40) } }

/-- IGNITE (R79). -/
def enterIgnite (s : State) : State :=
  let s := toPhase .ignite s
  heaterTargets true 80 40
    { s with
      hs.purgeOwed := true
      hs.entryTemp := s.hs.tf.getD (-40)
      hs.ignitionDue := some (s.tu.clock + secs 90) }

/-! ### Stages (R80, R81) -/

/-- The demand stage for e = setpoint − Tc (R80). -/
def stageFor (e : Int) : Nat := if 4 ≤ e then 4 else if 2 ≤ e then 3 else if e = 1 then 2 else 1

/-- The demand stage: 2 with the cabin sensor FAILED or Tc absent (R80, R81). -/
def demandStage (s : State) : Nat :=
  match s.hs.cabin.failed, s.hs.tc, s.hs.merged with
  | false, some tc, some m => stageFor ((m.setpoint : Int) - tc)
  | _, _, _ => 2

/-- The lowest of the limits on the running stage (R81). -/
def stageLimit (s : State) : Nat :=
  min (match s.hs.merged with | none => 4 | some m => m.maxStage)
    (min (if anyQuiet s then s.policy.p36 else 4) (if s.hs.holdLimit then 1 else 4))

/-- Fan level and pump rate of a stage (R80). -/
def stageFan (k : Nat) : Nat := match k with | 1 => 110 | 2 => 150 | 3 => 200 | _ => 255
def stagePump (k : Nat) : Nat := match k with | 1 => 30 | 2 => 45 | 3 => 65 | _ => 90

/-- The running stage with its fan level and pump rate; the satisfied test stops when the stage leaves 1 (R80, R82). -/
def setStage (k : Nat) (s : State) : State :=
  heaterTargets false (stageFan k) (stagePump k)
    { s with
      hs.stage := some k
      hs.satisfiedDue := if k = 1 then s.hs.satisfiedDue else none }

/-- HS chooses the stage: the demand stage under the limits (R80, R81). -/
def chooseStage (s : State) : State :=
  let d := demandStage s
  setStage (min d (stageLimit s)) { s with hs.demand := some d }

/-- A limit that falls below the running stage lowers it at once (R81). -/
def lowerStage (s : State) : State :=
  match s.hs.phase, s.hs.stage with
  | .run, some k => if stageLimit s < k then setStage (stageLimit s) s else s
  | _, _ => s

/-- RUN (R80): the attempt count goes to 0 (R75). -/
def enterRun (s : State) : State :=
  let s := toPhase .run s
  chooseStage
    { s with
      hs.attempts := 0
      hs.proven := false
      hs.provenDue := some (s.tu.clock + secs 180)
      hs.regulationDue := some (s.tu.clock + secs 30) }

/-! ### Purge and lockout (R84 to R92) -/

/-- The length of a purge in seconds (R84). -/
def purgeSeconds (full : Bool) : Nat := if full then 180 else 20

/-- PURGE: FULL where purge-owed is set or `force` says so; lockout pending keeps its first cause (R84). -/
def enterPurge (follow : FollowOn) (force : Bool) (cause : Option LockCause) (s : State) : State :=
  let full := force || s.hs.purgeOwed
  let pending := match s.hs.pending with | some c => some c | none => cause
  let s := toPhase .purge s
  let run : PurgeRun :=
    { full := full, entryClock := s.tu.clock, entryRtc := s.tu.rtc
      due := s.tu.clock + secs (purgeSeconds full)
      glowDue := if full then some (s.tu.clock + secs 30) else none
      followOn := if pending.isSome then .lockout else follow }
  let s := heaterTargets full 255 0 { s with hs.purge := some run, hs.pending := pending }
  internalRequest .heater .purge .cab (some (plusSecs (now s) (purgeSeconds full))) s

/-- LOCKOUT with this cause: all channels off, and the flag set (R85, R87, R89). -/
def enterLockout (cause : LockCause) (s : State) : State :=
  let s := toPhase .lockout s
  heaterTargets false 0 0 { s with hs.lockout := some cause, hs.pending := none, hs.activation := false }

/-- In PURGE, lockout becomes pending with this cause unless it was pending already (R84). -/
def setPending (cause : LockCause) (s : State) : State :=
  match s.hs.pending with
  | some _ => s
  | none =>
    { s with hs.pending := some cause, hs.purge := s.hs.purge.map (fun r => { r with followOn := .lockout }) }

/-- The follow-on phase of a purge changes, unless lockout is pending (R84). -/
def setFollowOn (f : FollowOn) (s : State) : State :=
  match s.hs.pending with
  | some _ => s
  | none => { s with hs.purge := s.hs.purge.map (fun r => { r with followOn := f }) }

/-- STANDBY: it restarts at once with the cabin sensor FAILED (R82). -/
def enterStandby (s : State) : State :=
  let s := toPhase .standby s
  let s := heaterTargets false 0 0 { s with hs.activation := false }
  if s.hs.cabin.failed then enterPreheat s else s

/-! ### The merged heater grant reaches HS (R77, R82, R84, R86) -/

/-- HS may leave OFF for a merged grant: no wiring check runs and the flame sensor is GOOD (R77). -/
def mayStart (s : State) : Bool := s.ca.check.isNone && !s.hs.flame.failed

/-- STANDBY restarts when the last Tc is at or below the setpoint − 1 (R82). -/
def standbyRestart (s : State) : State :=
  match s.hs.phase, s.hs.tc, s.hs.merged with
  | .standby, some tc, some m => if tc ≤ (m.setpoint : Int) - 1 then enterPreheat s else s
  | _, _, _ => s

/-- The merged heater grant appears (R77, R84). -/
def heatAppears (s : State) : State :=
  match s.hs.phase with
  | .off | .standby => if mayStart s then enterPreheat s else s
  | .purge => setFollowOn .preheat s
  | .preheat | .ignite | .run | .lockout => s

/-- The merged heater grant vanishes (R86). A purge whose follow-on this makes OFF ends the activation (R75). -/
def heatVanishes (s : State) : State :=
  match s.hs.phase with
  | .preheat | .ignite | .run => enterPurge .off false none { s with hs.activation := false }
  | .purge => setFollowOn .off (if s.hs.pending.isNone then { s with hs.activation := false } else s)
  | .standby => enterHeaterOff s
  | .off | .lockout => s

/-- The merged heater grant changes and stays present: a limit that falls lowers the stage (R81), and a change of its
setpoint, from `old`, is judged in STANDBY (R82). -/
def heatChanges (old : MergedHeat) (s : State) : State :=
  match s.hs.phase with
  | .run => lowerStage s
  | .standby => if s.hs.merged.map (·.setpoint) = some old.setpoint then s else standbyRestart s
  | .off | .preheat | .ignite | .purge | .lockout => s

/-- AU hands HS the merged heater grant where it has changed (R52). -/
def handHeat (s : State) : State :=
  let m := mergedHeat s
  if m = s.hs.merged then s
  else
    let old := s.hs.merged
    let s := { s with hs.merged := m }
    match old, m with
    | none, some _ => heatAppears s
    | some _, none => heatVanishes s
    | some x, some _ => heatChanges x s
    | none, none => s

/-- A change of a HEATER entry reaches HS. HS's answer may place its PURGE entry, which can itself change the merged
grant (a PURGE entry created SUSPENDED), so the hand-over is made again. -/
def mergeHeater (s : State) : State := handHeat (handHeat s)

/-- The purge completes: purge-owed clears, the PURGE entry is withdrawn, and the follow-on phase is entered (R85). -/
def completePurge (s : State) : State :=
  let s := mergeHeater (dropGrant .heater .purge { s with hs.purgeOwed := false })
  match s.hs.pending, s.hs.purge with
  | some cause, _ => enterLockout cause s
  | none, some run =>
    match run.followOn with
    | .off => enterHeaterOff s
    | .standby => enterStandby s
    | .preheat => enterPreheat s
    | .lockout => enterHeaterOff s
  | none, none => s

/-- CH0 or CH2 LOCKED (R89). -/
def heaterChannelLocked (cause : LockCause) (s : State) : State :=
  match s.hs.phase with
  | .preheat | .ignite | .run => enterPurge .lockout false (some cause) s
  | .purge => setPending cause s
  | .off | .standby | .lockout => s

/-- CH1 LOCKED: without the fan no purge is possible; purge-owed stays as it stands (R89). -/
def fanLocked (s : State) : State :=
  match s.hs.phase with
  | .lockout => s
  | .off | .preheat | .ignite | .run | .purge | .standby =>
    let cause := match s.hs.lockout with | some c => some c | none => s.hs.pending
    mergeHeater (dropGrant .heater .purge (enterLockout (cause.getD .ch1) s))

/-- CA reports a heater channel LOCKED (R89). -/
def heaterLocked (n : Fin 12) (s : State) : State :=
  match n.val with
  | 0 => heaterChannelLocked .ch0 s
  | 1 => fanLocked s
  | 2 => heaterChannelLocked .ch2 s
  | _ => s

/-- CH1 leaves LOCKED in LOCKOUT with a purge owed: the owed purge runs, FULL, with lockout pending (R90). Its PURGE entry is
SUSPENDED where another heater channel is LOCKED, and the merged heater grant then vanishes (R37, R52, R86). -/
def fanUnlocked (s : State) : State :=
  match s.hs.phase, s.hs.lockout with
  | .lockout, some cause => if s.hs.purgeOwed then mergeHeater (enterPurge .lockout true (some cause) s) else s
  | _, _ => s

/-- The flame sensor is FAILED: HS acts by phase (R88). -/
def flameFailed (s : State) : State :=
  match s.hs.phase with
  | .preheat | .ignite | .run => enterPurge .lockout false (some .sensor) s
  | .purge => setPending .sensor s
  | .off | .standby => enterLockout .sensor s
  | .lockout => s

/-- An overheat in PURGE: a SHORT purge becomes FULL, counted from its entry (R87). -/
def lengthenPurge (s : State) : State :=
  match s.hs.purge with
  | none => s
  | some run =>
    if run.full then s
    else
      let glow := run.entryClock + secs 30
      let lit := s.tu.clock < glow
      let run := { run with
        full := true
        due := run.entryClock + secs 180
        glowDue := if lit then some glow else none }
      let s := { s with hs.purge := some run }
      let s := if lit then setTarget 0 255 s else s
      updateGrant .heater .purge (fun g => { g with endTime := some (plusSecs run.entryRtc 180) }) s

/-- An overheat: HS acts by phase (R87). -/
def heaterOverheats (s : State) : State :=
  match s.hs.phase with
  | .preheat | .ignite | .run => enterPurge .lockout true (some .overheat) s
  | .purge => setPending .overheat (lengthenPurge s)
  | .off | .standby => enterLockout .overheat s
  | .lockout => s

/-- SAFE HOLD entry reaches HS (R93): `heaterHold` for cause 1 with a heater source. -/
def heaterHoldEntry (heaterHold : Bool) (s : State) : State :=
  match s.hs.phase with
  | .run => if heaterHold then enterPurge .off false none s else lowerStage { s with hs.holdLimit := true }
  | .preheat | .ignite => if heaterHold then enterPurge .off false none s else s
  | .off | .purge | .standby | .lockout => s

/-- CLEAR_LOCKOUT is taken: the flag and cause clear, and HS acts by phase; a FAILED flame sensor locks it out again
(R92): at once from LOCKOUT with nothing owed, at the purge's end where a purge runs, DESIGN CHOICE [44]. -/
def clearLockoutPhase (s : State) : State :=
  let s := notifyBoth .heaterPhase { s with hs.lockout := none }
  let follow : FollowOn := if s.hs.merged.isSome then .preheat else .off
  match s.hs.phase with
  | .lockout =>
    if s.hs.purgeOwed then
      let s := mergeHeater (enterPurge follow true none s)
      if s.hs.flame.failed then setPending .sensor s else s
    else
      let s := enterHeaterOff s
      if s.hs.flame.failed then enterLockout .sensor s
      else if s.hs.merged.isSome && s.ca.check.isNone then enterPreheat s
      else s
  | .purge =>
    let s := setFollowOn follow { s with hs.pending := none }
    if s.hs.flame.failed then setPending .sensor s else s
  | .off | .preheat | .ignite | .run | .standby => s

end Sys2Proof.Machine
end

