-- ==== Sys2Proof/Machine/Merge.lean ====
section
/-! DEFINITION. The merge of a load's grants into one output setting (R51, R52), with the flash cycle (R148), the
sunrise ramp (R151) and the loss of a pending slot run (R109). -/

namespace Sys2Proof.Machine

/-- The bunk a zone lights. -/
def zoneBunk : Load → Option Bunk
  | .zoneLower => some .lower
  | .zoneUpper => some .upper
  | _ => none

/-- The ambient zone of a bunk (R148). -/
def bunkZone : Bunk → Load
  | .lower => .zoneLower
  | .upper => .zoneUpper

/-- The reading lamp of a bunk (R188). -/
def bunkReading : Bunk → Load
  | .lower => .readLower
  | .upper => .readUpper

/-! ### Sunrise ramp (R151) -/

/-- The ramp level of a sunrise at `t`: floor(160 × e / R), clamped to 0..160 (R151). -/
def rampLevel (start endTime t : RtcTime) : Nat :=
  let r := timeDiff (minusSecs endTime 1200) start
  let e := timeDiff t start
  if r ≤ 0 then 160 else (clampInt 0 160 (160 * e / r)).toNat

/-- While the sunrise entry is ACTIVE, WU forms its ramp level (R151). -/
def formRamp (b : Bunk) (s : State) : State :=
  match findGrant (bunkZone b) .schedule s with
  | some g =>
    match g.state, g.start, g.endTime with
    | .active, some st, some e =>
      { s with wu.sunrise := s.wu.sunrise.set b { s.wu.sunrise.get b with ramp := rampLevel st e (now s) } }
    | _, _, _ => s
  | none => s

/-! ### Flash cycle (R148) -/

/-- The flash cycle runs while the bunk's WARNING entry is ACTIVE, from an on-phase (R51, R148). -/
def syncFlash (b : Bunk) (s : State) : State :=
  let f := s.wu.flash.get b
  let active : Bool := match findGrant (bunkZone b) .warning s with | some g => g.state == .active | none => false
  let cycle := if active then some (f.cycle.getD (true, s.tu.clock + secs 1)) else none
  { s with wu.flash := s.wu.flash.set b { f with cycle := cycle } }

/-- The flash of the zone's bunk is in an on-phase. -/
def flashOn (load : Load) (s : State) : Bool :=
  match zoneBunk load with
  | some b => match (s.wu.flash.get b).cycle with | some (on, _) => on | none => false
  | none => false

/-! ### Merged levels (R51) -/

/-- What an ACTIVE grant contributes: a sunrise its ramp level up to its effective level, a WARNING nothing of its
own, any other its effective level (R51). -/
def contribution (s : State) (g : Grant) : Nat :=
  match g.purpose with
  | .warning => 0
  | .schedule =>
    match zoneBunk g.load with
    | some b => min (s.wu.sunrise.get b).ramp g.eff.level
    | none => g.eff.level
  | .comfort | .courtesy | .cooling | .purge => g.eff.level

/-- The ACTIVE entries of a load. -/
def activeGrants (load : Load) (s : State) : List Grant :=
  s.au.table.filter (fun g => g.load == load && g.state == .active)

/-- The highest contribution among a load's ACTIVE grants, 0 if none (R51). -/
def highestLevel (load : Load) (s : State) : Nat :=
  (activeGrants load s).foldl (fun m g => max m (contribution s g)) 0

/-- The merged output of a load that is not HEATER or FRIDGE: 0 with a SUSPENDED entry (R51). CA holds the output of a
TRIPPED or LOCKED channel off (R57). On and lit are 255 [30]. -/
def mergedLevel (load : Load) (s : State) : Nat :=
  if hasSuspended load s then 0
  else
    match load with
    | .outlet1 | .outlet2 => if (activeGrants load s).isEmpty then 0 else 255
    | .step => if highestLevel load s = 0 then 0 else 255
    | _ => if flashOn load s then 255 else highestLevel load s

/-- The channel a merged level goes to (R57); HEATER and FRIDGE are driven by HS and CS. -/
def mergeChannel : Load → Option (Fin 12)
  | .heater | .fridge => none
  | .zoneLower => some 4 | .zoneUpper => some 5 | .readLower => some 6 | .readUpper => some 7
  | .step => some 8 | .outlet1 => some 9 | .outlet2 => some 10 | .vent => some 11

/-! ### COOLING (R52, R109) -/

/-- The COOLING entry is ACTIVE (R52). -/
def coolingActive (s : State) : Bool :=
  match findGrant .fridge .cooling s with | some g => g.state == .active | none => false

/-- The COOLING entry is SUSPENDED (R103). -/
def coolingSuspended (s : State) : Bool :=
  match findGrant .fridge .cooling s with | some g => g.state == .suspended | none => false

/-- One slot owed more, within −8 (R98). -/
def creditDown (c : Int) : Int := if -8 < c then c - 1 else c

/-- One slot owed less, within +8 (R98). -/
def creditUp (c : Int) : Int := if c < 8 then c + 1 else c

/-- With the COOLING entry SUSPENDED, a pending slot run is cut short (R109). -/
def cutPending (s : State) : State :=
  if s.cs.slotPending && coolingSuspended s then
    { s with cs.c := creditDown s.cs.c, cs.slotPending := false }
  else s

/-! ### The merge -/

/-- AU forms the merge of a load again and hands it on (R51, R52). -/
def mergeLoad (load : Load) (s : State) : State :=
  match load with
  | .heater => mergeHeater s
  | .fridge => cutPending s
  | _ =>
    let s := match zoneBunk load with | some b => formRamp b (syncFlash b s) | none => s
    match mergeChannel load with
    | some n => setTarget n (mergedLevel load s) s
    | none => s

/-- Every load, in the order of R25. -/
def allLoads : List Load :=
  [.heater, .fridge, .zoneLower, .zoneUpper, .readLower, .readUpper, .step, .outlet1, .outlet2, .vent]

/-- The merge of several loads, one after another. -/
def mergeLoads (loads : List Load) (s : State) : State := loads.foldl (fun s l => mergeLoad l s) s

/-- The merge of every load. -/
def mergeAll (s : State) : State := mergeLoads allLoads s

/-- CS takes a slot run in progress, or a pending one, as cut short (R109). -/
def fridgeLocked (s : State) : State :=
  match s.cs.run with
  | none => s
  | some k =>
    setTarget 3 0
      { s with
        cs.c := if k = .slot then creditDown s.cs.c else s.cs.c
        cs.run := none
        cs.runDue := none
        cs.minOffDue := some (s.tu.clock + mins 3) }

end Sys2Proof.Machine
end

