-- ==== Sys2Proof/Machine/Admission.lean ====
section
/-! DEFINITION. The Admission Unit's work on the grant table: admission and reduction (R32 to R36), quiet caps (R43,
R44), revalidation (R45, R46), suspension and release (R49), SAFE HOLD shedding (R50), and the review's shedding and
restoring (R38 to R42). -/

namespace Sys2Proof.Machine

/-- A grant request as it reaches AU (R32). -/
structure GrantAsk where
  load : Load
  purpose : Purpose
  requester : Requester
  origin : Origin
  level : Level
  start : Option RtcTime
  endTime : Option RtcTime
  deriving DecidableEq, Repr

/-- AU's answer: the state it leaves, the status, and the figures of the response (R36). -/
structure Admitted where
  state : State
  status : Status
  projected : Nat
  headroom : Int
  shortfall : Int

/-! ### Quiet limits (R43) -/

/-- A grant whose origin is a bunk with a rest in progress is exempt (R43). -/
def isExempt (s : State) : Origin → Bool
  | .lower => resting .lower s
  | .upper => resting .upper s
  | .cab => false

/-- The quiet limit on the effective level of a grant, or none (R43). -/
def quietLimit (s : State) (load : Load) (purpose : Purpose) (origin : Origin) : Option Nat :=
  if purpose == .comfort && anyQuiet s && !isExempt s origin then
    match load with
    | .zoneLower | .zoneUpper | .step => some s.policy.p23
    | .vent => some s.policy.p24
    | .heater | .fridge | .readLower | .readUpper | .outlet1 | .outlet2 => none
  else none

/-- A level under a limit. -/
def capLevel (limit : Option Nat) (v : Level) : Level :=
  match limit with
  | none => v
  | some k => { v with level := min v.level k }

/-- The requested level of a grant as the caps in force leave it (R43). -/
def cappedRequest (s : State) (g : Grant) : Level :=
  capLevel (quietLimit s g.load g.purpose g.origin) g.req

/-! ### Admission (R33 to R36) -/

/-- The tests of R33 in their order: the code of the first condition that holds. -/
def refusalOf (r : GrantAsk) (s : State) : Option Status :=
  let entry := findGrant r.load r.purpose s
  if inHold s then some .hold
  else if s.ca.check.isSome then some .testing
  else if loadLocked r.load s || isSuspended r.load s ||
      (match entry with | some g => g.state == .suspended | none => false) then some .loadLocked
  else if r.load == .heater && s.hs.lockout.isSome then some .lockout
  else if entry.isNone && 12 ≤ externalCount s then some .noRoom
  else none

/-- The highest number from `lo` to the given one that passes the test. -/
def findDown (test : Nat → Bool) (lo : Nat) : Nat → Option Nat
  | 0 => none
  | k + 1 => if k + 1 < lo then none else if test (k + 1) then some (k + 1) else findDown test lo k

/-- Whether a grant at an effective level fits: `rest` is the demand without its projection (R34). -/
def fitsAt (s : State) (h rest : Nat) (free : Int) (g : Grant) (v : Level) : Bool :=
  ((rest + projection s h { g with eff := v } : Nat) : Int) ≤ free

/-- The search for less: a level of 26 or more, a stage of 1 or more, nothing for outlets and STEP (R35). -/
def reduced (s : State) (h rest : Nat) (free : Int) (g : Grant) : Option Level :=
  if isLevelled g.load then
    (findDown (fun k => fitsAt s h rest free g { g.eff with level := k }) 26 (g.eff.level - 1)).map
      (fun k => { g.eff with level := k })
  else if g.load == .heater then
    (findDown (fun k => fitsAt s h rest free g { g.eff with maxStage := k }) 1 (g.eff.maxStage - 1)).map
      (fun k => { g.eff with maxStage := k })
  else none

/-- A grant is put into the table; one that was SHED leaves the shed list (R36). -/
def placeGrant (g : Grant) (s : State) : State :=
  unlist g.pos { s with au.table := putAt g s.au.table }

/-- An admitted request is applied at once, and the load's merge is formed again (R36). -/
def accept (g : Grant) (st : Status) (s : State) : Admitted :=
  let s := placeGrant g s
  { state := mergeLoad g.load s, status := st, projected := projection s (horizon s) g
    headroom := headroom s, shortfall := 0 }

/-- The entry a request asks for: its pair's position or the lowest free one, its requested level under the quiet
cap, ACTIVE or WAITING by its start (R32, R36, R43). -/
def askedGrant (r : GrantAsk) (s : State) : Grant :=
  let limit := quietLimit s r.load r.purpose r.origin
  { pos := match findGrant r.load r.purpose s with | some g => g.pos | none => freePosition s.au.table
    load := r.load, purpose := r.purpose, requester := r.requester, origin := r.origin
    req := r.level, eff := capLevel limit r.level, start := r.start, endTime := r.endTime
    state := liveState s r.start, shedTime := none, quietLimit := limit }

/-- Admission of a request of an external purpose (R33 to R36). -/
def judgeAsk (r : GrantAsk) (s : State) : Admitted :=
  match refusalOf r s with
  | some st => ⟨s, st, 0, 0, 0⟩
  | none =>
    let g := askedGrant r s
    if s.au.surplus then accept g .ok s
    else
      let h := horizon s
      let free := freeCharge s
      let p := demandOf s h (putAt g s.au.table)
      if (p : Int) ≤ free then accept g .ok s
      else
        match reduced s h (p - projection s h g) free g with
        | some v => accept { g with eff := v } .reduced s
        | none => ⟨s, .noHeadroom, 0, 0, (p : Int) - free⟩

/-- A removal that no owner is told of: a COMFORT or COURTESY entry, or an owner's own withdrawal (R37, R47). -/
def withdraw (load : Load) (purpose : Purpose) (s : State) : State :=
  match findGrant load purpose s with
  | none => s
  | some _ => mergeLoad load (dropGrant load purpose s)

/-- The figures of a request normalised for its load (R32). -/
def normalLevel (load : Load) (level setpoint maxStage : Nat) : Level :=
  match load with
  | .heater => { level := 0, setpoint := clampNat 5 30 setpoint, maxStage := clampNat 1 4 maxStage }
  | .step => { level := 255, setpoint := 0, maxStage := 0 }
  | .fridge | .outlet1 | .outlet2 => { level := 0, setpoint := 0, maxStage := 0 }
  | .zoneLower | .zoneUpper | .readLower | .readUpper | .vent => { level := min level 255, setpoint := 0, maxStage := 0 }

/-- A COMFORT or COURTESY request: level 0 on a lamp or the vent, and an end at or before now, remove the entry; any
other is admitted or not (R32). -/
def grantAsk (r : GrantAsk) (s : State) : Admitted :=
  let ended := match r.endTime with | some e => atOrAfter (now s) e | none => false
  if (isLevelled r.load && r.level.level = 0) || ended then
    match findGrant r.load r.purpose s with
    | some _ => ⟨withdraw r.load r.purpose s, .ok, 0, 0, 0⟩
    | none => ⟨s, .notFound, 0, 0, 0⟩
  else judgeAsk r s

/-! ### Quiet caps applied again (R43, R44) -/

/-- A limit has risen or gone (R43). -/
def limitRises : Option Nat → Option Nat → Bool
  | some _, none => true
  | some a, some b => a < b
  | none, _ => false

/-- The effective level of a grant under its limit of now. -/
def lowerGrant (s : State) (g : Grant) : Grant :=
  { g with eff := capLevel (quietLimit s g.load g.purpose g.origin) g.eff }

/-- The level a grant is raised to (R44): the requested level under its limit for a SHED or SUSPENDED grant and in
surplus, else the highest level that fits and never less than the present one. -/
def raisedLevel (s : State) (g : Grant) : Level :=
  let want := cappedRequest s g
  match g.state with
  | .shed | .suspended => want
  | .active | .waiting =>
    if s.au.surplus then want
    else
      let h := horizon s
      let rest := demandOf s h s.au.table - projection s h g
      match findDown (fun k => fitsAt s h rest (freeCharge s) g { g.eff with level := k }) (g.eff.level + 1) want.level with
      | some k => { g.eff with level := k }
      | none => g.eff

/-- Raise one grant whose limit has risen. -/
def raiseGrant (s : State) (g : Grant) : State :=
  match findGrant g.load g.purpose s with
  | some x =>
    if limitRises x.quietLimit (quietLimit s x.load x.purpose x.origin) then
      updateGrant g.load g.purpose (fun y => { y with eff := raisedLevel s x }) s
    else s
  | none => s

/-- The limits of now are those last applied. -/
def recordLimits (s : State) : State :=
  { s with au.table := s.au.table.map (fun g => { g with quietLimit := quietLimit s g.load g.purpose g.origin }) }

/-- AU applies the caps again: lowers first, then raises in order of position (R43, R44). -/
def applyCaps (s : State) : State :=
  let s := { s with au.table := s.au.table.map (lowerGrant s) }
  let s := s.au.table.foldl raiseGrant s
  mergeLoads [.zoneLower, .zoneUpper, .step, .vent] (recordLimits s)

/-! ### Revalidation (R45, R46) -/

/-- The grants that pass the test, in order of class and then of position (R46). -/
def inClassOrder (keep : Grant → Bool) (s : State) : List Grant :=
  [0, 1, 2, 3].flatMap (fun k => s.au.table.filter (fun g => keep g && shedClass g.load g.purpose == k))

/-- One grant re-admitted against the running P: the new P, and whether it was shed (R46). -/
def readmit (h : Nat) (free : Int) (acc : State × Nat × Bool) (g : Grant) : State × Nat × Bool :=
  match acc with
  | (s, p, shed) =>
    if shedClass g.load g.purpose = 0 then (s, p + projection s h g, shed)
    else
      let g := { g with eff := cappedRequest s g }
      let place := fun (v : Level) =>
        (updateGrant g.load g.purpose (fun x => { x with eff := v }) s, p + projection s h { g with eff := v }, shed)
      if s.au.surplus || fitsAt s h p free g g.eff then place g.eff
      else
        match reduced s h p free g with
        | some v => place v
        | none => (shedGrant (now s) g s, p, true)

/-- AU revalidates the table (R46). -/
def revalidate (s : State) : State :=
  let s := { s with au.pointer := 0 }
  let p0 := purgeCharge s + startCharge s s.au.table
  let live := inClassOrder (fun g => g.state == .active || g.state == .waiting) s
  let r := live.foldl (readmit (horizon s) (freeCharge s)) (s, p0, false)
  mergeAll (if r.2.2 then notifyBoth .grantShed r.1 else r.1)

/-! ### Suspension and release (R49) -/

/-- Every entry of the load becomes SUSPENDED (R49). -/
def suspendLoad (load : Load) (s : State) : State :=
  let gone := (s.au.table.filter (fun g => g.load == load)).map (·.pos)
  mergeLoad load
    { s with
      au.table := s.au.table.map (fun g => if g.load == load then { g with state := .suspended, shedTime := none } else g)
      au.shedList := s.au.shedList.filter (fun p => !gone.contains p) }

/-- One SUSPENDED entry of a restartable release (R49); the demand is formed with the entry in place [14]. -/
def readmitSuspended (acc : State × Bool) (g : Grant) : State × Bool :=
  match acc with
  | (s, shed) =>
    if shedClass g.load g.purpose = 0 then
      (updateGrant g.load g.purpose (fun x => { x with state := .active }) s, shed)
    else if inHold s then (shedGrant (now s) g s, true)
    else
      let live := { g with eff := cappedRequest s g, state := liveState s g.start }
      let h := horizon s
      let p := demandOf s h (putAt live s.au.table)
      let rest := p - projection s h live
      if s.au.surplus || (p : Int) ≤ freeCharge s then (placeGrant live s, shed)
      else
        match reduced s h rest (freeCharge s) live with
        | some v => (placeGrant { live with eff := v } s, shed)
        | none => (shedGrant (now s) g s, true)

/-- The release of a restartable suspension: the load's SUSPENDED entries are re-admitted (R49). -/
def releaseRestartable (load : Load) (s : State) : State :=
  let back := inClassOrder (fun g => g.load == load && g.state == .suspended) s
  let r := back.foldl readmitSuspended (s, false)
  mergeLoad load (if r.2 then notifyBoth .grantShed r.1 else r.1)

/-! ### Shedding (R40, R50) -/

/-- The first grant that passes the test at or after the shed pointer, going on from 0 after 15 (R40). -/
def fromPointer (test : Grant → Bool) (s : State) : Option Grant :=
  match s.au.table.find? (fun g => s.au.pointer ≤ g.pos && test g) with
  | some g => some g
  | none => s.au.table.find? test

/-- Shed one grant and move the pointer past it (R40). -/
def shedVictim (t : RtcTime) (g : Grant) (s : State) : State :=
  let s := shedGrant t g s
  { s with au.pointer := (g.pos + 1) % 16 }

/-- The next victim among grants that pass the test: class 3, then 2, then 1 (R40, R50). -/
def nextVictim (test : Grant → Bool) (s : State) : Option Grant :=
  match fromPointer (fun g => test g && shedClass g.load g.purpose == 3) s with
  | some g => some g
  | none =>
    match fromPointer (fun g => test g && shedClass g.load g.purpose == 2) s with
    | some g => some g
    | none => fromPointer (fun g => test g && shedClass g.load g.purpose == 1) s

/-- Shed while the condition holds and a victim is left; the count of grants shed with it (R40, R50). -/
def shedWhile (cond : State → Bool) (test : Grant → Bool) (t : RtcTime) : Nat → State × Nat → State × Nat
  | 0, acc => acc
  | k + 1, (s, n) =>
    if cond s then
      match nextVictim test s with
      | some g => shedWhile cond test t k (shedVictim t g s, n + 1)
      | none => (s, n)
    else (s, n)

/-- AU sheds every ACTIVE or WAITING external entry at SAFE HOLD entry (R50). -/
def holdShed (t : RtcTime) (s : State) : State :=
  let r := shedWhile (fun _ => true)
    (fun g => isExternal g.purpose && (g.state == .active || g.state == .waiting)) t 16 (s, 0)
  mergeAll (if r.2 = 0 then r.1 else notifyBoth .grantShed r.1)

/-! ### The review's table work (R38 to R42) -/

/-- A SHED grant that may not be restored now (R42). -/
def isBlocked (g : Grant) (s : State) : Bool :=
  inHold s || s.ca.check.isSome || loadLocked g.load s || (g.load == .heater && s.hs.lockout.isSome)

/-- The SHED grants in the order of the shed list (R40). -/
def shedGrants (s : State) : List Grant := s.au.shedList.filterMap (fun p => grantAt p s)

/-- Every SHED grant that is not blocked is restored, oldest shed first (R39). -/
def restoreAll (s : State) : State × Nat :=
  (shedGrants s).foldl (fun acc g => if isBlocked g acc.1 then acc else (restoreGrant g acc.1, acc.2 + 1)) (s, 0)

/-- The first restorable grant: the lowest class, and within it the earliest in the shed list (R42). -/
def firstRestorable (s : State) : Option Grant :=
  ([1, 2, 3].flatMap (fun k =>
    (shedGrants s).filter (fun g => !isBlocked g s && shedClass g.load g.purpose == k))).head?

/-- The projection a SHED grant would have if restored (R42). -/
def restoredProjection (s : State) (h : Nat) (g : Grant) : Nat :=
  projection s h { g with state := liveState s g.start }

/-- One restore outside surplus, where the margin allows it (R42) and projected demand with the grant restored, its start
charge among it, stays within free charge (R31, R40) [32]. -/
def restoreOne (h : Nat) (free : Int) (s : State) : State × Nat :=
  match firstRestorable s with
  | none => (s, 0)
  | some g =>
    let t := restoreGrant g s
    if ((s.policy.p11 + restoredProjection s h g : Nat) : Int) ≤ free - (demandOf s h s.au.table : Int) ∧
      (demandOf t h t.au.table : Int) ≤ free
    then (t, 1) else (s, 0)

/-- The table work of a review: the state, the number shed, the number restored (R39, R40, R42). -/
def reviewTable (h : Nat) (free : Int) (s : State) : State × Nat × Nat :=
  if s.au.surplus then
    let r := restoreAll { s with au.deficit := false }
    (r.1, 0, r.2)
  else
    let exceeds := fun (x : State) => decide (free < (demandOf x h x.au.table : Int))
    let s := { s with au.deficit := exceeds s }
    let r := shedWhile exceeds (fun g => g.state == .active) (now s) 16 (s, 0)
    if r.2 = 0 && !exceeds r.1 then
      let q := restoreOne h free r.1
      (q.1, 0, q.2)
    else (r.1, r.2, 0)

/-- BREACH, its time and the reserve-low condition at the end of a review (R39, R41). -/
def settleBreach (h : Nat) (free : Int) (s : State) : State :=
  let p := demandOf s h s.au.table
  let breach := !s.au.surplus && decide (free < (p : Int))
  { s with
    au.breach := breach
    au.breachTime := if breach then (if s.au.breach then s.au.breachTime else some (now s)) else none
    au.reserveLow := breach || decide (free - (p : Int) < (s.policy.p64 : Int)) }

/-- AU's part of a review: the flags, the table, the merges and the last review figures (R38 to R42). -/
def reviewAdmission (mean : Int) (s : State) : State :=
  let s := { s with au.surplus := decide ((s.policy.p12 : Int) ≤ mean) }
  let h := horizon s
  let free := freeCharge s
  let r := reviewTable h free s
  let s := settleBreach h free r.1
  let p := demandOf s h s.au.table
  let s := { s with au.last :=
    { time := now s, mean := mean, free := free, horizon := h, demand := p, headroom := free - (p : Int)
      surplus := s.au.surplus, deficit := s.au.deficit, breach := s.au.breach, nShed := r.2.1, nRestored := r.2.2 } }
  let s := if r.2.1 = 0 then s else notifyBoth .grantShed s
  let s := if r.2.2 = 0 then s else notifyBoth .grantRestored s
  mergeAll s

end Sys2Proof.Machine
end

