-- ==== Sys2Proof/Machine/FaultOps.lean ====
section
/-! DEFINITION. The Fault Unit: suspension, captures, double faults, hold causes and SAFE HOLD entry (R156 to R164). -/

namespace Sys2Proof.Machine

/-- The load a source suspends, or none (R157). -/
def sourceLoad : FaultSource → Option Load
  | .channel n => some (channelLoad n)
  | .heater | .flameTemp => some .heater
  | .charge | .battTemp | .cabinTemp | .cabinetTemp | .timebase => none

/-- A source that makes a hold of cause 1 a heater hold (R93). -/
def isHeaterSource : FaultSource → Bool
  | .channel n => n.val < 3
  | .heater | .flameTemp => true
  | .charge | .battTemp | .cabinTemp | .cabinetTemp | .timebase => false

/-- A fault that names a load already suspended changes its entry (R159). -/
def joinSuspension (r : FaultReport) (tied : Bool) (e : Suspension) : Suspension :=
  { e with restartable := e.restartable && r.restartable, tied := e.tied || tied, source := r.source, code := r.code }

/-- A fault that names a load suspends it (R159). That a new entry joins the list at its end is a DESIGN CHOICE [10]. -/
def suspend (load : Load) (r : FaultReport) (tied : Bool) (s : State) : State :=
  if isSuspended load s then
    { s with fu.susp := s.fu.susp.map (fun e => if e.load == load then joinSuspension r tied e else e) }
  else
    let e : Suspension :=
      { load := load, restartable := r.restartable, tied := tied, source := r.source, code := r.code }
    suspendLoad load { s with fu.susp := s.fu.susp ++ [e] }

/-- The suspension of a fault's load, if it names one (R159). -/
def suspendFor (r : FaultReport) (tied : Bool) (s : State) : State :=
  match sourceLoad r.source with
  | none => s
  | some load => suspend load r tied s

/-- The hold causes (R163). -/
inductive HoldCause where | doubleFault | chargePathLost | holdRequest | voltageCollapse
  deriving DecidableEq, Repr

def holdCause (c : HoldCause) (s : State) : Option RtcTime :=
  match c with
  | .doubleFault => s.fu.cause1
  | .chargePathLost => s.fu.cause2
  | .holdRequest => s.fu.cause3
  | .voltageCollapse => s.fu.cause4

def recordCause (c : HoldCause) (s : State) : State :=
  match c with
  | .doubleFault => { s with fu.cause1 := some (now s) }
  | .chargePathLost => { s with fu.cause2 := some (now s) }
  | .holdRequest => { s with fu.cause3 := some (now s) }
  | .voltageCollapse => { s with fu.cause4 := some (now s) }

/-- SAFE HOLD is entered: HOLD on both links, a wake request, and the entry handed to HS and AU; CS and CA read the
hold itself (R93, R110, R163, R164). -/
def enterHold (heaterHold : Bool) (s : State) : State :=
  let s := wake .hold (notifyBoth .hold { s with fu.entryTime := some (now s) })
  holdShed (now s) (mergeHeater (heaterHoldEntry heaterHold s))

/-- A hold cause is added: it enters SAFE HOLD on an empty set, sets HOLD on another, and changes nothing when it is
in the set already (R163). -/
def addCause (c : HoldCause) (heaterHold : Bool) (s : State) : State :=
  match holdCause c s with
  | some _ => s
  | none =>
    if inHold s then notifyBoth .hold (recordCause c s)
    else enterHold heaterHold (recordCause c s)

/-- The hold cause 2 of a CHARGE_PATH fault (R163). -/
def chargePathHold (r : FaultReport) (s : State) : State :=
  if r.code == .chargePath then addCause .chargePathLost false s else s

/-- A captured fault (R158). Its wake request comes before that of the hold a CHARGE_PATH fault enters (R164), so that DOZE
records CAPTURE: DESIGN CHOICE [16]. -/
def capture (r : FaultReport) (s : State) : State :=
  let s := wake .capture (notifyBoth .fault { s with fu.record := some ⟨r, now s⟩ })
  chargePathHold r (suspendFor r true s)

/-- A fault taken without capture in SAFE HOLD (R164). -/
def takeUncaptured (r : FaultReport) (s : State) : State :=
  chargePathHold r (suspendFor r false (notifyBoth .fault s))

/-- A double fault (R162). Which wake cause a part in DOZE records is left open [8]. -/
def doubleFault (r : FaultReport) (s : State) : State :=
  let s := notifyBoth .fault { s with fu.holdRecord := some ⟨r.source, r.code, now s⟩ }
  let s := wake (if Config.doubleFaultWakesAsHold s.tu.clock then .hold else .capture) s
  chargePathHold r (addCause .doubleFault (isHeaterSource r.source) (suspendFor r false s))

/-- A fault reaches FU (R157, R158, R162, R164). -/
def takeFault (r : FaultReport) (s : State) : State :=
  match s.fu.record with
  | none => capture r s
  | some _ => if inHold s then takeUncaptured r s else doubleFault r s

/-! ### Faults of the sensors and the channels (R64, R157) -/

/-- A channel's trip in ON or its second in STARTING, as FU takes it (R64). -/
def tripReport (n : Fin 12) (code : FaultCode) (current : Nat) (st : ChanState) : FaultReport :=
  { source := .channel n, code := code, measured := current, detect := .channel st
    restartable := code == .overcurrent && st == .on }

/-- A sensor's failure, as FU takes it (R3, R76, R100). -/
def sensorReport (source : FaultSource) (code : FaultCode) (detect : DetectState) (restartable : Bool) : FaultReport :=
  { source := source, code := code, measured := 0, detect := detect, restartable := restartable }

/-- A trip (R62 to R64): the first in STARTING earns a retry; any other locks the channel, its driver acts, and FU takes
the fault. -/
def tripOn (n : Fin 12) (code : FaultCode) (current : Nat) (s : State) : State :=
  let c := chan n s
  if c.state == .starting && c.tripCount == 0 then
    notifyBoth .channelRetry (setChan n (tripChannel s.tu.clock current c) s)
  else
    let s := setChan n (lockChannel current c) s
    let s := heaterLocked n s
    let s := if n.val = 3 then fridgeLocked s else s
    takeFault (tripReport n code current c.state) s

end Sys2Proof.Machine
end

