-- ==== Sys2Proof/Machine/WarningOps.lean ====
section
/-! DEFINITION. The Warning Unit's list, its levels and escalation, the flash, and the chime's cut-off (R138 to R149). -/

namespace Sys2Proof.Machine

/-! ### Delivery (R139) -/

/-- The links an entry with this target is delivered to (R139). -/
def deliveredV : WarnTarget → Bool
  | .record _ => true | .bunk _ => false | .cab => true
def deliveredB : WarnTarget → Bool
  | .record _ => false | .bunk _ => true | .cab => true

/-- WARNING in the notice set of each link the entry is delivered to. -/
def notifyWarning (t : WarnTarget) (s : State) : State :=
  let s := if deliveredV t then notify .v .warning s else s
  if deliveredB t then notify .b .warning s else s

/-- The kinds that escalate after P60 (R139). -/
def escalatesByTime : WarnKind → Bool
  | .restShort | .restBroken | .reserveLow | .cabinetWarm => true
  | .breakSoon | .breakDue | .daySoon | .dayDue | .wake => false

/-- The chime pattern of a kind and target (R139). -/
def patternOf : WarnKind → WarnTarget → Option ChimePattern
  | .restShort, .bunk _ | .restBroken, .bunk _ => some .double
  | .wake, .bunk _ => some .triad
  | .reserveLow, .cab | .cabinetWarm, .cab => some .triple
  | _, _ => none

/-- The tones of a pattern in turn: a frequency in Hz, or silence, and how many ms it lasts (R147). -/
def patternTones : ChimePattern → List (Option Nat × Nat)
  | .double => [(some 2800, 200), (none, 200), (some 2800, 200)]
  | .triple => [(some 3300, 150), (none, 150), (some 3300, 150), (none, 150), (some 3300, 150)]
  | .triad => [(some 2000, 250), (some 2500, 250), (some 3100, 250)]

/-- The duration of a pattern (R147). -/
def patternLength (p : ChimePattern) : Nat := millis ((patternTones p).map (·.2)).sum

/-- The tone this many µs into a pattern; silence from its end on (R147). -/
def toneAt (elapsed : Nat) : List (Option Nat × Nat) → Option Nat
  | [] => none
  | (tone, ms) :: rest => if elapsed < millis ms then tone else toneAt (elapsed - millis ms) rest

/-- The tone on the piezo sounder, in Hz, or none while it is silent (R146, R147). -/
def chimeTone (s : State) : Option Nat :=
  match s.wu.chime with
  | .idle _ => none
  | .playing p _ _ due => toneAt (s.tu.clock + patternLength p - due) (patternTones p)

/-! ### The list (R138) -/

/-- The entry is that of the kind and target. -/
def isWarning (k : WarnKind) (t : WarnTarget) (w : Warning) : Bool := w.kind == k && w.target == t

def findWarning (k : WarnKind) (t : WarnTarget) (s : State) : Option Warning := s.wu.list.find? (isWarning k t)

/-- Entries are kept in order of raise time, equal times in the order of their raising (R138). -/
def insertWarning (w : Warning) : List Warning → List Warning
  | [] => [w]
  | x :: xs => if isBefore w.raiseTime x.raiseTime then w :: x :: xs else x :: insertWarning w xs

def updateWarning (k : WarnKind) (t : WarnTarget) (f : Warning → Warning) (s : State) : State :=
  { s with wu.list := s.wu.list.map (fun w => if isWarning k t w then f w else w) }

/-! ### Flash (R148, R149) -/

/-- The list holds an unacknowledged ALERT entry with this bunk as target (R148). -/
def flashWanted (b : Bunk) (s : State) : Bool :=
  s.wu.list.any (fun w => w.target == .bunk b && w.level == .alert && !w.acked)

/-- WU's flash entry is in place for the bunk (R148). -/
def flashPlaced (b : Bunk) (s : State) : Bool := (findGrant (bunkZone b) .warning s).isSome

def setGivenUp (b : Bunk) (x : Bool) (s : State) : State :=
  { s with wu.flash := s.wu.flash.set b { s.wu.flash.get b with givenUp := x } }

/-- WU reconsiders the flash of a bunk: it places or withdraws the WARNING entry, and the given-up mark clears when the
flash is no longer wanted (R148, R149). -/
def reconsiderFlash (b : Bunk) (s : State) : State :=
  if flashWanted b s then
    if flashPlaced b s || (s.wu.flash.get b).givenUp then s
    else mergeLoad (bunkZone b) (internalRequest (bunkZone b) .warning (bunkOrigin b) none s)
  else withdraw (bunkZone b) .warning (setGivenUp b false s)

/-- The flash of an entry's bunk, if it has one. -/
def reconsiderTarget (t : WarnTarget) (s : State) : State :=
  match t with
  | .bunk b => reconsiderFlash b s
  | .record _ | .cab => s

/-! ### Raising, removing, escalating (R140 to R144) -/

/-- The chime pattern of an entry is cut off if it is playing; the 1 s gap follows (R146, R147). -/
def cutChime (k : WarnKind) (t : WarnTarget) (s : State) : State :=
  match s.wu.chime with
  | .playing _ k' t' _ => if k' = k && t' = t then { s with wu.chime := .idle (s.tu.clock + secs 1) } else s
  | .idle _ => s

/-- WU raises an entry: a pair that is present is left as it stands (R140). -/
def raiseWarning (k : WarnKind) (t : WarnTarget) (level : WarnLevel) (s : State) : State :=
  match findWarning k t s with
  | some _ => s
  | none =>
    let w : Warning :=
      { kind := k, target := t, raiseTime := now s, level := level, acked := false, lastPlay := none
        raisedAt := s.tu.clock }
    let s := { s with wu.list := insertWarning w s.wu.list }
    reconsiderTarget t (wake .warning (notifyWarning t s))

/-- WU removes an entry; a pair that is absent changes nothing (R140). -/
def removeWarning (k : WarnKind) (t : WarnTarget) (s : State) : State :=
  match findWarning k t s with
  | none => s
  | some _ =>
    let s := { s with wu.list := s.wu.list.filter (fun w => !isWarning k t w) }
    reconsiderTarget t (cutChime k t (notifyWarning t s))

/-- An escalation: ALERT, due for the chime at once (R143, R146). -/
def escalateWarning (k : WarnKind) (t : WarnTarget) (s : State) : State :=
  let s := updateWarning k t (fun w => { w with level := .alert, lastPlay := none }) s
  reconsiderTarget t (wake .warning (notifyWarning t s))

/-- The entry is acknowledged (R144), but for what RM does with a WAKE. -/
def markAcked (k : WarnKind) (t : WarnTarget) (s : State) : State :=
  let s := updateWarning k t (fun w => { w with acked := true }) s
  reconsiderTarget t (notifyWarning t (cutChime k t s))

/-! ### The chime arbiter (R146) -/

/-- 10 s have passed since the entry's last play time, which is an RTC time (R146, R168) [25]. -/
def playDue (s : State) (w : Warning) : Bool :=
  match w.lastPlay with
  | none => true
  | some t => w.level == .alert && atOrAfter (now s) (plusSecs t 10)

/-- The entry wants the chime (R146). -/
def wantsChime (s : State) (w : Warning) : Bool :=
  (patternOf w.kind w.target).isSome && !w.acked &&
  (w.kind != .reserveLow || !(resting .lower s || resting .upper s) || s.policy.p63 == 1) && playDue s w

/-- The entry the chime goes to: ALERT before NOTICE, then the first in the list (R146). -/
def chimeChoice (s : State) : Option Warning :=
  match s.wu.list.find? (fun w => w.level == .alert && wantsChime s w) with
  | some w => some w
  | none => s.wu.list.find? (fun w => w.level == .notice && wantsChime s w)

end Sys2Proof.Machine
end

