-- ==== Sys2Proof/Machine/RestOps.lean ====
section
/-! DEFINITION. The Rest Monitor's identity records: accumulation, breaks, daily rests, driver warning conditions, and
slot loss (R114 to R126, R134). -/

namespace Sys2Proof.Machine

/-! ### Classes and segments (R120, R121) -/

/-- P59's settings: bit 0 is "moving rest counts", bit 1 "available counts as break" (R204). -/
def movingRestCounts (p59 : Nat) : Bool := p59 % 2 == 1
def availableCounts (p59 : Nat) : Bool := p59 / 2 % 2 == 1

/-- The effective class of an activity (R120). -/
def effectiveClass (p59 : Nat) (moving : Bool) : Activity → Activity
  | .rest => if moving && !movingRestCounts p59 then .available else .rest
  | a => a

/-- The class feeds the break segment (R120). -/
def feedsBreak (p59 : Nat) : Activity → Bool
  | .rest => true
  | .available => availableCounts p59
  | .drive | .work => false

/-- A break segment qualifies (R123). -/
def breakReached (p : Policy) (r : Identity) : Bool :=
  p.p51 * 60 ≤ r.breakSeg || (r.firstPart && (p.p51 - p.p52) * 60 ≤ r.breakSeg)

/-- The test of the break segment after an addition to it (R123); the flag tells a qualification. -/
def testBreak (p : Policy) (r : Identity) : Identity × Bool :=
  if !r.breakQualified && breakReached p r then
    ({ r with continuous := 0, firstPart := false, breakQualified := true }, true)
  else (r, false)

/-- What one accumulation or one judgement did beside the counters. -/
structure RestNews where
  /-- ACCOUNT is due on Link V. -/
  account : Bool
  /-- The short-rest condition ended. -/
  shortEnds : Bool
  deriving DecidableEq, Repr

/-- The tests of the rest segment after an addition to it, at `t`: regular daily rest and weekly rest (R124). -/
def testRest (p : Policy) (t : RtcTime) (r : Identity) : Identity × RestNews :=
  let regular := p.p54 * 60 ≤ r.restSeg
  let first := !r.restRegular && regular
  let r' := if first then
      { r with daily := 0, continuous := 0, firstPart := false, lastRestEnd := some t, restRegular := true, shortRest := none }
    else if r.restRegular then { r with lastRestEnd := some t }
    else r
  let weekly := !r.restWeekly && decide (p.p57 * 60 ≤ r.restSeg)
  let r' := if weekly then { r' with reducedUsed := 0, restWeekly := true } else r'
  (r', ⟨first || weekly, first && r.shortRest.isSome⟩)

/-- An addition of `e` seconds under a class (R120). -/
def addTime (p59 : Nat) (cls : Activity) (e : Nat) (r : Identity) : Identity :=
  { r with
    continuous := if cls = .drive then r.continuous + e else r.continuous
    daily := if cls = .drive then r.daily + e else r.daily
    breakSeg := if feedsBreak p59 cls then r.breakSeg + e else r.breakSeg
    restSeg := if cls = .rest then r.restSeg + e else r.restSeg }

/-- The seconds an accumulation at `t` adds (R119). -/
def elapsedSince (t last : RtcTime) : Nat := (timeDiff t last).toNat

/-- One record accumulated at `t` (R119, R120, R123, R124). -/
def accumulated (p : Policy) (moving : Bool) (t : RtcTime) (r : Identity) : Identity × RestNews :=
  let cls := effectiveClass p.p59 moving r.activity
  let r := { addTime p.p59 cls (elapsedSince t r.lastUpdate) r with lastUpdate := t }
  let b := if feedsBreak p.p59 cls then testBreak p r else (r, false)
  let q := if cls = .rest then testRest p t b.1 else (b.1, ⟨false, false⟩)
  (q.1, ⟨b.2 || q.2.account, q.2.shortEnds⟩)

/-! ### Records in State -/

def record (i : Fin 4) (s : State) : Option Identity := s.rm.recs[i]

def setRecord (i : Fin 4) (r : Option Identity) (s : State) : State :=
  { s with rm.recs := s.rm.recs.set i r }

def allRecords : List (Fin 4) := [0, 1, 2, 3]

/-- The index of the record in use that passes the test, the lowest first. -/
def findRecord (test : Identity → Bool) (s : State) : Option (Fin 4) :=
  allRecords.find? (fun i => match record i s with | some r => test r | none => false)

/-- The record that holds a slot. -/
def slotHolder (d : DriverSlot) (s : State) : Option (Fin 4) := findRecord (fun r => r.slot == some d) s

/-- The bunk whose rest is bound to the record. -/
def boundBunk (i : Fin 4) (s : State) : Option Bunk :=
  if (s.rm.rests.lower.map (·.record)) == some i then some .lower
  else if (s.rm.rests.upper.map (·.record)) == some i then some .upper
  else none

/-! ### Driver warning conditions (R126) -/

/-- The conditions that hold for a record: none without a slot (R126). -/
def condsOf (p : Policy) (r : Option Identity) : DriverConds :=
  match r with
  | none => {}
  | some r =>
    if r.slot.isNone then {}
    else
      { breakSoon := (p.p50 - p.p58) * 60 ≤ r.continuous && r.continuous < p.p50 * 60
        breakDue := p.p50 * 60 ≤ r.continuous
        daySoon := (p.p53 - p.p58) * 60 ≤ r.daily && r.daily < p.p53 * 60
        dayDue := p.p53 * 60 ≤ r.daily }

/-- One condition's beginning or end is handed to WU (R126, R140). -/
def handCond (k : WarnKind) (level : WarnLevel) (i : Fin 4) (was is : Bool) (s : State) : State :=
  if was && !is then removeWarning k (.record i) s
  else if !was && is then raiseWarning k (.record i) level s
  else s

/-- RM evaluates the conditions of a record and hands WU each that has begun or ended (R126). -/
def evaluateConds (i : Fin 4) (s : State) : State :=
  let was := s.rm.conds[i]
  let is := condsOf s.policy (record i s)
  let s := { s with rm.conds := s.rm.conds.set i is }
  let s := handCond .breakSoon .notice i was.breakSoon is.breakSoon s
  let s := handCond .breakDue .alert i was.breakDue is.breakDue s
  let s := handCond .daySoon .notice i was.daySoon is.daySoon s
  handCond .dayDue .alert i was.dayDue is.dayDue s

/-! ### Short rests (R125) -/

def shortKind (broken : Bool) : WarnKind := if broken then .restBroken else .restShort

def shortTarget (i : Fin 4) : ShortTarget → WarnTarget
  | .record => .record i
  | .bunk b => .bunk b

/-- The end of a record's short-rest condition is handed to WU. -/
def endShort (i : Fin 4) (c : Option (Bool × ShortTarget)) (s : State) : State :=
  match c with
  | none => s
  | some (broken, t) => removeWarning (shortKind broken) (shortTarget i t) s

/-- What an accumulation or a judgement of record `i` means to the others. -/
def tellNews (i : Fin 4) (before : Identity) (n : RestNews) (s : State) : State :=
  let s := if n.account then notify .v .account s else s
  if n.shortEnds then endShort i before.shortRest s else s

/-- RM accumulates a record at `t` (R119). -/
def accumulate (i : Fin 4) (t : RtcTime) (s : State) : State :=
  match record i s with
  | none => s
  | some r =>
    let q := accumulated s.policy s.rm.moving t r
    evaluateConds i (tellNews i r q.2 (setRecord i (some q.1) s))

/-- RM accumulates every record in use, in order of index (R119). -/
def accumulateAll (t : RtcTime) (s : State) : State := allRecords.foldl (fun s i => accumulate i t s) s

/-! ### The end of a segment (R123, R125) -/

/-- A break segment ends: a first part is judged where it had not qualified (R123). -/
def endBreak (p : Policy) (r : Identity) : Identity × Bool :=
  let first := !r.breakQualified && !r.firstPart && decide (p.p52 * 60 ≤ r.breakSeg)
  ({ r with firstPart := r.firstPart || first, breakSeg := 0, breakQualified := false }, first)

/-- How the end of a rest segment is judged (R125). -/
inductive RestVerdict where | nothing | reduced | short (broken : Bool)
  deriving DecidableEq, Repr

/-- The judgement of an ended rest segment; `report` for a leaving of REST by report, `bound` where a bunk rest is
bound to the record (R125). -/
def judgeRest (p : Policy) (report bound : Bool) (r : Identity) : RestVerdict :=
  if r.restRegular then .nothing
  else if p.p55 * 60 ≤ r.restSeg && r.reducedUsed < p.p56 then .reduced
  else if report && p.p51 * 60 ≤ r.restSeg then .short (bound && r.restSeg < p.p55 * 60)
  else .nothing

/-- A rest segment ends at `t` (R125): the record it leaves, with the segment at 0 and its flags clear. -/
def restEnded (t : RtcTime) (target : ShortTarget) (v : RestVerdict) (r : Identity) : Identity :=
  let r := { r with restSeg := 0, restRegular := false, restWeekly := false }
  match v with
  | .nothing => r
  | .reduced =>
    { r with
      reducedUsed := r.reducedUsed + 1, daily := 0, continuous := 0, firstPart := false
      lastRestEnd := some t, shortRest := none }
  | .short broken => { r with shortRest := some (broken, target) }

/-- What WU and the gateway hear of a judgement (R125, R140). -/
def tellVerdict (i : Fin 4) (before : Identity) (target : ShortTarget) (v : RestVerdict) (s : State) : State :=
  match v with
  | .nothing => s
  | .reduced => notify .v .account (endShort i before.shortRest s)
  | .short broken => raiseWarning (shortKind broken) (shortTarget i target) .notice (endShort i before.shortRest s)

/-- The class of a record goes from one to another: each segment the new class does not continue ends (R121). The old
and new P59 differ at a change of P59 alone (R136). -/
def changeClass (i : Fin 4) (report : Bool) (oldP59 newP59 : Nat) (oldCls newCls : Activity) (s : State) : State :=
  match record i s with
  | none => s
  | some r =>
    let b := if feedsBreak oldP59 oldCls && !feedsBreak newP59 newCls then endBreak s.policy r else (r, false)
    let s := if b.2 then notify .v .account s else s
    let r := b.1
    let s := setRecord i (some r) s
    let s :=
      if oldCls == .rest && newCls != .rest then
        let target : ShortTarget := match boundBunk i s with | some bk => .bunk bk | none => .record
        let v := judgeRest s.policy report (boundBunk i s).isSome r
        tellVerdict i r target v (setRecord i (some (restEnded (now s) target v r)) s)
      else s
    evaluateConds i s

/-- A record's activity changes, with the segment changes of its class (R121). -/
def changeActivity (i : Fin 4) (act : Activity) (report : Bool) (s : State) : State :=
  match record i s with
  | none => s
  | some r =>
    let old := effectiveClass s.policy.p59 s.rm.moving r.activity
    let new := effectiveClass s.policy.p59 s.rm.moving act
    changeClass i report s.policy.p59 s.policy.p59 old new
      (setRecord i (some { r with activity := act, activityStart := now s }) s)

/-- A record loses its slot (R117). -/
def loseSlot (i : Fin 4) (s : State) : State :=
  let s := accumulate i (now s) s
  let s :=
    match record i s with
    | some r => if r.activity == .drive || r.activity == .work then changeActivity i .available false s else s
    | none => s
  let s :=
    match record i s with
    | some r => setRecord i (some { r with slot := none }) s
    | none => s
  notify .v .account (evaluateConds i s)

/-- Time-uncertain is set or cleared on every record in use, with ACCOUNT on Link V (R134) only where a flag changed: DESIGN
CHOICE [52]. -/
def markUncertain (x : Bool) (s : State) : State :=
  let changes := s.rm.recs.toList.any (fun r => match r with | some q => q.timeUncertain != x | none => false)
  let s := { s with rm.recs := s.rm.recs.map (fun r => r.map (fun q => { q with timeUncertain := x })) }
  if changes then notify .v .account s else s

/-- A free record taken into use, or a record replaced, with this key (R115, R116, R134). -/
def freshRecord (key : DriverKey) (s : State) : Identity :=
  { key := key, activityStart := now s, lastUpdate := now s, lastActivity := now s
    timeUncertain := s.tu.degraded || !s.tu.timeSet }

/-- The record to replace: in use with no slot and no bunk, the oldest last activity time, the lowest index (R116). -/
def replaceable (s : State) : Option (Fin 4) :=
  allRecords.foldl (fun best i =>
    match record i s with
    | none => best
    | some r =>
      if r.slot.isSome || (boundBunk i s).isSome then best
      else
        match best.bind (fun j => record j s) with
        | none => some i
        | some q => if isBefore r.lastActivity q.lastActivity then some i else best) none

end Sys2Proof.Machine
end

