-- ==== Sys2Proof/Machine/BunkOps.lean ====
section
/-! DEFINITION. Bunk rests and what they give the other blocks: quiet hours, the pre-warm, WAKE and the sunrise (R94,
R127 to R133, R141, R150 to R152), and the reports AU makes of an entry it removes. -/

namespace Sys2Proof.Machine

def setRest (b : Bunk) (r : Option BunkRest) (s : State) : State :=
  { s with rm.rests := s.rm.rests.set b r }

/-- The planned end of the rest in progress in a bunk. -/
def plannedEnd (b : Bunk) (s : State) : Option RtcTime := (s.rm.rests.get b).bind (·.plannedEnd)

/-! ### Quiet hours (R131) -/

/-- The start of the pre-warm, which is the end of quiet hours: planned end − P37 (R94, R131). -/
def quietEnd (s : State) (planned : RtcTime) : RtcTime := minusSecs planned (s.policy.p37 * 60)

/-- Quiet hours are in force for a bunk at this moment (R131). -/
def quietNow (b : Bunk) (s : State) : Bool :=
  match s.rm.rests.get b with
  | none => false
  | some r =>
    match r.plannedEnd with
    | none => true
    | some p => isBefore (now s) (quietEnd s p) && isBefore r.start (quietEnd s p)

/-- RM reports quiet hours of both bunks to AU, HS and CS (R131): AU applies its caps again (R43), HS lowers its stage
where its limit has fallen (R81); CS reads them at its tests (R103). -/
def reportQuiet (s : State) : State :=
  let s := { s with rm.quiet := ⟨quietNow .lower s, quietNow .upper s⟩ }
  lowerStage (applyCaps s)

/-! ### WAKE (R141) -/

/-- The WAKE condition of a bunk at this moment, with the planned end (R141). -/
def wakeHolds (b : Bunk) (s : State) : Option RtcTime :=
  match plannedEnd b s with
  | none => none
  | some p => if atOrAfter (now s) (minusSecs p (s.policy.p61 * 60)) then some p else none

/-- WU tests the WAKE condition of a bunk (R141). -/
def testWake (b : Bunk) (s : State) : State :=
  match wakeHolds b s with
  | none => removeWarning .wake (.bunk b) s
  | some p =>
    let late := atOrAfter (now s) p
    match findWarning .wake (.bunk b) s with
    | none => raiseWarning .wake (.bunk b) (if late then .alert else .notice) s
    | some w => if late && !w.acked && w.level == .notice then escalateWarning .wake (.bunk b) s else s

/-- RM hands WU a new planned end (R141). -/
def newPlannedEnd (b : Bunk) (s : State) : State := testWake b (removeWarning .wake (.bunk b) s)

/-! ### Sunrise (R150, R152) -/

/-- The sunrise state of a bunk, with the planned end it is set for. -/
def setSunrise (b : Bunk) (st : SunriseState) (planned : Option RtcTime) (s : State) : State :=
  { s with wu.sunrise := s.wu.sunrise.set b { s.wu.sunrise.get b with state := st, plannedEnd := planned } }

/-- The sunrise request of a bunk (R150). -/
def sunriseAsk (b : Bunk) (planned : RtcTime) (s : State) : GrantAsk :=
  { load := bunkZone b, purpose := .schedule, requester := .internal, origin := bunkOrigin b
    level := { level := 160 }, start := some (minusSecs planned (s.policy.p62 * 60))
    endTime := some (plusSecs planned 1200) }

/-- An admission succeeded. -/
def admittedOk (a : Admitted) : Bool := a.status == .ok || a.status == .reduced

/-- WU reconciles the sunrise of a bunk (R150). -/
def reconcileSunrise (b : Bunk) (s : State) : State :=
  match plannedEnd b s with
  | none => clear s
  | some p =>
    if s.policy.p62 = 0 then clear s
    else
      let ask := sunriseAsk b p s
      let x := s.wu.sunrise.get b
      if atOrAfter (now s) (plusSecs p 1200) then setSunrise b .done (some p) s
      else if (x.state == .withdrawn || x.state == .done) && x.plannedEnd == some p then s
      else
        match findGrant (bunkZone b) .schedule s with
        | some g => if g.start = ask.start && g.endTime = ask.endTime then s else place ask p s
        | none => place ask p s
where
  /-- No rest, no planned end or no ramp: the entry is withdrawn; DONE stands after a rest's end. -/
  clear (s : State) : State :=
    let s := withdraw (bunkZone b) .schedule s
    let done := (s.wu.sunrise.get b).state == .done && !resting b s
    setSunrise b (if done then .done else .none) none s
  place (ask : GrantAsk) (p : RtcTime) (s : State) : State :=
    let a := judgeAsk ask s
    setSunrise b (if admittedOk a then .placed else .refused) (some p) a.state

/-! ### Pre-warm (R94, R132, R133) -/

/-- The pre-warm state of a rest; a change into or out of REFUSED sets ACCOUNT on Link B (R132). -/
def setPrewarm (b : Bunk) (st : PrewarmState) (s : State) : State :=
  match s.rm.rests.get b with
  | none => s
  | some r =>
    let s' := setRest b (some { r with prewarmState := st }) s
    if (r.prewarmState == .refused) == (st == .refused) then s' else notify .b .account s'

/-- The planned end of a rest that is a candidate for the pre-warm (R132). -/
def candidateEnd (b : Bunk) (s : State) : Option RtcTime :=
  match s.rm.rests.get b with
  | none => none
  | some r =>
    if s.policy.p37 = 0 then none
    else if r.prewarmState == .wanted || r.prewarmState == .placed || r.prewarmState == .refused then r.plannedEnd
    else none

/-- The pre-warm holder: the earliest planned end, LOWER among equals (R132). -/
def prewarmHolder (s : State) : Option (Bunk × RtcTime) :=
  match candidateEnd .lower s, candidateEnd .upper s with
  | none, none => none
  | some p, none => some (.lower, p)
  | none, some q => some (.upper, q)
  | some p, some q => if isBefore q p then some (.upper, q) else some (.lower, p)

/-- The figures HS forms for a pre-warm (R94). -/
def prewarmAsk (b : Bunk) (planned : RtcTime) (s : State) : GrantAsk :=
  { load := .heater, purpose := .schedule, requester := .internal, origin := bunkOrigin b
    level :=
      { level := 0
        setpoint := match findGrant .heater .comfort s with | some g => g.req.setpoint | none => 20
        maxStage := 2 }
    start := some (quietEnd s planned), endTime := some (plusSecs planned 900) }

/-- A rest that had been the entry's rest and is still in progress goes back to WANTED, whatever its state (R132). -/
def releaseEntryRest (new : Bunk) (s : State) : State :=
  match s.rm.entryRest with
  | some e =>
    if e.bunk = new || e.ended then s else setPrewarm e.bunk .wanted s
  | none => s

/-- RM places the figures of the holder (R132). -/
def placePrewarm (b : Bunk) (ask : GrantAsk) (s : State) : State :=
  let a := judgeAsk ask s
  if admittedOk a then
    let s := releaseEntryRest b a.state
    setPrewarm b .placed { s with rm.entryRest := some ⟨b, false⟩ }
  else setPrewarm b .refused a.state

/-- RM reconciles the pre-warm (R132). A holder that turns DONE here stays the holder, and the next candidate is placed at
the next reconcile: DESIGN CHOICE [38]. -/
def reconcilePrewarm (s : State) : State :=
  let s := { s with rm.holder := (prewarmHolder s).map (·.1) }
  let entry := findGrant .heater .schedule s
  match prewarmHolder s with
  | some (b, p) =>
    let ask := prewarmAsk b p s
    let same := match entry with | some g => g.start = ask.start && g.endTime = ask.endTime | none => false
    let servesEnded := match entry, s.rm.entryRest with
      | some g, some e => g.state == .active && e.ended
      | _, _ => false
    if same || servesEnded then s
    else if atOrAfter (now s) (plusSecs p 900) then setPrewarm b .done s
    else placePrewarm b ask s
  | none =>
    match entry with
    | some g => if g.state == .active then s else { withdraw .heater .schedule s with rm.entryRest := none }
    | none => s

/-! ### Removals AU reports to the owners (R49, R133, R149, R152) -/

/-- Why AU removed an entry. -/
inductive Removal where | revoked | endReached | nonRestartable
  deriving DecidableEq, Repr

/-- AU reports the removal of the pre-warm entry to RM (R133). -/
def prewarmRemoved (c : Removal) (s : State) : State :=
  let er := s.rm.entryRest
  let s := { s with rm.entryRest := none }
  let s := match er with
    | some e =>
      if e.ended then s
      else setPrewarm e.bunk (match c with | .revoked => .withdrawn | .endReached => .done | .nonRestartable => .wanted) s
    | none => s
  reconcilePrewarm s

/-- AU reports the removal of a sunrise entry to WU (R152). -/
def sunriseRemoved (b : Bunk) (c : Removal) (s : State) : State :=
  setSunrise b (match c with | .revoked => .withdrawn | .endReached => .done | .nonRestartable => .refused)
    (plannedEnd b s) s

/-- AU reports the removal of a WARNING entry to WU: the flash is given up at a non-restartable release (R149). -/
def flashRemoved (b : Bunk) (c : Removal) (s : State) : State :=
  match c with
  | .nonRestartable => reconsiderFlash b (setGivenUp b true s)
  | .revoked | .endReached => reconsiderFlash b s

/-- The owner of a removed entry hears of it (R49, R99, R133, R149, R152). -/
def reportRemoval (load : Load) (purpose : Purpose) (c : Removal) (s : State) : State :=
  match load, purpose with
  | .heater, .schedule => prewarmRemoved c s
  | .zoneLower, .schedule => sunriseRemoved .lower c s
  | .zoneUpper, .schedule => sunriseRemoved .upper c s
  | .zoneLower, .warning => flashRemoved .lower c s
  | .zoneUpper, .warning => flashRemoved .upper c s
  | .fridge, .cooling => if s.cs.enable then mergeLoad .fridge (internalRequest .fridge .cooling .cab none s) else s
  | _, _ => s

/-- AU removes an entry whatever its state, forms the merge again and tells the owner (R47 to R49). -/
def removeEntry (load : Load) (purpose : Purpose) (c : Removal) (s : State) : State :=
  match findGrant load purpose s with
  | none => s
  | some _ => reportRemoval load purpose c (mergeLoad load (dropGrant load purpose s))

/-! ### The end of a suspension (R49, R160, R161) -/

/-- The release of a suspension that is not restartable: the SUSPENDED entries are removed, then their owners told
(R49). -/
def releaseNonRestartable (load : Load) (s : State) : State :=
  let gone := s.au.table.filter (fun g => g.load == load && g.state == .suspended)
  let s := gone.foldl (fun s g => dropGrant g.load g.purpose s) s
  gone.foldl (fun s g => reportRemoval g.load g.purpose .nonRestartable s) (mergeLoad load s)

/-- FU releases a load's suspension by its entry's restartable flag; the entry leaves the list (R160). -/
def releaseSuspension (e : Suspension) (s : State) : State :=
  let s := { s with fu.susp := s.fu.susp.filter (fun x => x.load != e.load) }
  if e.restartable then releaseRestartable e.load s else releaseNonRestartable e.load s

/-! ### The end of a bunk rest (R129, R133) -/

/-- RM looks at the pre-warm entry of a rest that ends: WAITING or SHED it is withdrawn, ACTIVE it stays (R133). That a
SUSPENDED one stays too, as the entry of an ended rest, is a DESIGN CHOICE [54]. -/
def leavePrewarm (b : Bunk) (s : State) : State :=
  match s.rm.entryRest with
  | some e =>
    if e.bunk = b && !e.ended then
      match findGrant .heater .schedule s with
      | some g =>
        if g.state == .waiting || g.state == .shed then { withdraw .heater .schedule s with rm.entryRest := none }
        else { s with rm.entryRest := some ⟨b, true⟩ }
      | none => { s with rm.entryRest := none }
    else s
  | none => s

/-- A bunk rest ends (R129): the pre-warm entry is handled, the record emptied, and AU, HS, CS and WU are told. That the
reconcile of R133 comes after these is a DESIGN CHOICE [16]. -/
def endRest (b : Bunk) (s : State) : State :=
  match s.rm.rests.get b with
  | none => s
  | some _ =>
    let s := reportQuiet (setRest b none (leavePrewarm b s))
    let s := removeWarning .wake (.bunk b) s
    let s := setSunrise b .done none (withdraw (bunkZone b) .schedule s)
    notify .b .account (reconcilePrewarm s)

/-- A rest whose wake timeout has passed ends (R129). -/
def timeoutRest (b : Bunk) (s : State) : State :=
  match plannedEnd b s with
  | none => s
  | some p => if atOrAfter (now s) (plusSecs p 1800) then endRest b s else s

/-! ### Acknowledgement (R144, R145) -/

/-- An unacknowledged entry is acknowledged; a WAKE's acknowledgement ends the rest (R129, R144). -/
def ackEntry (k : WarnKind) (t : WarnTarget) (s : State) : State :=
  let s := markAcked k t s
  match k, t with
  | .wake, .bunk b => endRest b s
  | _, _ => s

/-- A bunk acknowledgement: each unacknowledged entry of the bunk and of CAB, in list order, with their count (R145). -/
def bunkAck (b : Bunk) (s : State) : State × Nat :=
  let ws := s.wu.list.filter (fun w => !w.acked && (w.target == .bunk b || w.target == .cab))
  (ws.foldl (fun s w => ackEntry w.kind w.target s) s, ws.length)

/-! ### SNOOZE (R130) -/

/-- A time later than now + 24 h is taken as now + 24 h; later is R169's order (R128, R130). -/
def within24h (s : State) (t : RtcTime) : RtcTime :=
  let limit := plusSecs (now s) 86400
  if isBefore limit t then limit else t

/-- The planned end after a snooze: max(planned end, now) + 600 s (R130). -/
def snoozedEnd (s : State) (p : RtcTime) : RtcTime :=
  within24h s (plusSecs (if atOrAfter p (now s) then p else now s) 600)

/-- The other blocks hear of a planned end that may have moved: WU first, then quiet hours, then the pre-warm (R128,
R130) [16]. -/
def tellPlannedEnd (b : Bunk) (moved : Bool) (s : State) : State :=
  let s := if moved then newPlannedEnd b s else testWake b s
  reconcilePrewarm (reportQuiet (reconcileSunrise b s))

/-- SNOOZE (R130). -/
def snoozeRest (b : Bunk) (s : State) : State × Status :=
  match s.rm.rests.get b with
  | none => (s, .condition)
  | some r =>
    match r.plannedEnd with
    | none => (s, .condition)
    | some p =>
      if 3 ≤ r.snoozes then (s, .condition)
      else
        let s := setRest b (some { r with plannedEnd := some (snoozedEnd s p), snoozes := r.snoozes + 1 }) s
        (notify .b .account (tellPlannedEnd b true s), .ok)

end Sys2Proof.Machine
end

