-- ==== Sys2Proof/Machine/FridgeOps.lean ====
section
/-! DEFINITION. The end of the wiring check (R70, R71) and the Cold Store Controller: rate mode, slot dues, runs, enable
(R98 to R110). -/

namespace Sys2Proof.Machine

/-! ### The end of the wiring check (R70, R71, R77) -/

/-- The check ends, completed or aborted: every channel returns to OFF, CHECK_DONE is set, AU revalidates, HS starts
from a merged grant that is present, and every channel with a non-zero target leaves OFF (R70, R71, R77). -/
def finishCheck (completed : Bool) (run : WiringRun) (results : Vector WiringResult 12) (s : State) : State :=
  let report : WiringReport :=
    { completed := completed, startTime := run.startTime, endTime := now s, results := results }
  let s := notifyBoth .checkDone (endTest { s with ca.check := none, ca.results := some report })
  let s := revalidate s
  let s := if s.hs.phase == .off && s.hs.merged.isSome && mayStart s then enterPreheat s else s
  syncDoze (startAllFromTargets s)

/-- A forced run aborts a running check (R71, R105). -/
def abortCheck (s : State) : State :=
  match s.ca.check with
  | none => s
  | some run => finishCheck false run run.results s

/-! ### Postponement (R103) -/

/-- Each ground for postponement: deficit, quiet hours, wiring check, SAFE HOLD, suspension (R103, R111). -/
def postponeGrounds (s : State) : List Bool :=
  [s.cs.deficit, anyQuiet s && decide (-(s.policy.p46 : Int) < s.cs.c), s.ca.check.isSome, inHold s, coolingSuspended s]

/-- Postponement is wanted (R103). -/
def postponeWanted (s : State) : Bool := (postponeGrounds s).any id

/-! ### Slot dues (R102, R104) -/

/-- The slot interval of the mode in force in minutes (R101). -/
def slotInterval (s : State) : Nat := modeInterval s.policy s.cs.mode

/-- Step 4 of R104: a slot run is decided; a forced one aborts a running check, and one decided while the COOLING
entry is SUSPENDED is cut short at once (R104, R105, R109). -/
def decideRun (s : State) : State :=
  let forced := s.cs.c = -8
  let s := { s with cs.slotPending := true }
  cutPending (if forced then abortCheck s else s)

/-- The decision of a slot due with its own time (R104). -/
def recordDecision (d : SlotDecision) (due : RtcTime) (c : Int) (s : State) : State :=
  { s with cs.c := c, cs.lastDecision := some (d, due, c) }

/-- A slot due is decided by the first step that applies (R104). -/
def decideSlot (due : RtcTime) (s : State) : State :=
  let c := s.cs.c
  if 0 < c then recordDecision .banked due (c - 1) s
  else if s.cs.slotPending then recordDecision .alreadyPending due (creditDown c) s
  else if postponeWanted s && decide (-8 < c) then recordDecision .postponed due (c - 1) s
  else decideRun (recordDecision .counted due c s)

/-- A slot falls due: the next-due time is set first, then the due is decided (R102). -/
def slotFallsDue (due next : RtcTime) (s : State) : State :=
  decideSlot due { s with cs.nextDue := next, cs.formed := slotInterval s }

/-- A slot falls due at once: its own time is now (R102, R113). -/
def slotAtOnce (s : State) : State :=
  slotFallsDue (now s) (plusSecs (now s) (slotInterval s * 60)) s

/-- The next-due time has been reached (R102). -/
def slotReached (s : State) : Bool := s.cs.enable && atOrAfter (now s) s.cs.nextDue

/-! ### Rate mode (R101, R102) -/

/-- The AUTO rule: a move to NORMAL goes on where the temperature asks for it (R101), and the mode is the last of the two
[55]. -/
def autoMode (m : RateMode) (tc : Int) : RateMode :=
  match m with
  | .normal => fromNormal
  | .warm => if tc ≤ 28 then fromNormal else .warm
  | .cool => if 12 ≤ tc then fromNormal else .cool
where
  fromNormal : RateMode := if 30 ≤ tc then .warm else if tc ≤ 10 then .cool else .normal

/-- The next-due time is formed again at the interval of the mode in force (R102). -/
def reformDue (s : State) : State :=
  if s.cs.enable then
    let next := plusSecs (minusSecs s.cs.nextDue (s.cs.formed * 60)) (slotInterval s * 60)
    if atOrAfter (now s) next then slotAtOnce s
    else { s with cs.nextDue := next, cs.formed := slotInterval s }
  else s

/-- The rate mode in force changes, and the next-due time is formed again once, for the mode that a cabin result ends in
(R101, R102) [55]. -/
def setMode (m : RateMode) (s : State) : State :=
  if m = s.cs.mode then s else reformDue { s with cs.mode := m }

/-- The mode a fixed P40 puts in force; AUTO leaves the mode to the cabin temperature (R101). -/
def fixedMode (p40 : Nat) : Option RateMode :=
  match p40 with
  | 1 => some .normal
  | 2 => some .warm
  | 3 => some .cool
  | _ => none

/-- A cabin result reaches CS under AUTO (R101). -/
def cabinToFridge (tc : Int) (s : State) : State :=
  match fixedMode s.policy.p40 with
  | some _ => s
  | none => setMode (autoMode s.cs.mode tc) s

/-! ### Runs (R106 to R108) -/

/-- The conditions of every start (R106). -/
def mayRun (s : State) : Bool :=
  s.cs.enable && coolingActive s && s.cs.run.isNone && s.cs.minOffDue.isNone && s.ca.check.isNone

/-- Tk is present and was at or above T_high at its cabinet result: a change of P45 applies at the next one (R108, R112). -/
def cabinetHot (s : State) : Bool := s.cs.tk.isSome && s.cs.hot

/-- The run that is wanted first (R106 to R108). -/
def wantedRun (s : State) : Option RunKind :=
  if s.cs.slotPending then some .slot
  else if cabinetHot s then some .override_
  else if s.cs.c < 0 && !postponeWanted s then some .catchUp
  else if 0 ≤ s.cs.c && s.cs.c < 8 && s.cs.surplus && !postponeWanted s then some .pullIn
  else none

/-- CS starts a run (R106). -/
def beginRun (k : RunKind) (s : State) : State :=
  setTarget 3 255
    { s with
      cs.run := some k
      cs.slotPending := if k = .slot then false else s.cs.slotPending
      cs.runDue := some (s.tu.clock + mins s.policy.p41) }

/-- A run ends, and the min-off timer starts (R106). -/
def endRun (s : State) : State :=
  setTarget 3 0
    { s with cs.run := none, cs.runDue := none, cs.minOffDue := some (s.tu.clock + mins 3) }

/-- CS sets CABINET_WARM and hands it to WU (R108, R142). -/
def setWarm (s : State) : State := raiseWarning .cabinetWarm .cab .notice { s with cs.warm := true }

/-- CS clears CABINET_WARM and hands the clearing to WU (R108, R142). -/
def clearWarm (s : State) : State := removeWarning .cabinetWarm .cab { s with cs.warm := false }

/-- The change of the credit at a run's completion (R106 to R108). -/
def completedCredit (k : RunKind) (c : Int) : Int :=
  match k with
  | .slot | .override_ => c
  | .catchUp | .pullIn => creditUp c

/-- The run completes (R106 to R108). -/
def completeRun (k : RunKind) (s : State) : State :=
  let s := endRun { s with cs.c := completedCredit k s.cs.c }
  if k = .override_ && cabinetHot s then setWarm s else s

/-! ### Enable (R99) -/

/-- CS places its COOLING request (R99). -/
def placeCooling (s : State) : State := mergeLoad .fridge (internalRequest .fridge .cooling .cab none s)

/-- FRIDGE_SET (R99). -/
def setFridge (on : Bool) (s : State) : State :=
  if on = s.cs.enable then s
  else if on then
    placeCooling
      { s with
        cs.enable := true, cs.c := 0
        cs.nextDue := plusSecs (now s) (slotInterval s * 60), cs.formed := slotInterval s }
  else
    let s := if s.cs.run.isSome then endRun s else s
    clearWarm (withdraw .fridge .cooling { s with cs.enable := false, cs.slotPending := false })

end Sys2Proof.Machine
end

