-- ==== Sys2Proof/Machine/ChargeOps.lean ====
section
/-! DEFINITION. The Charge Monitor's conversion: path check, integration, window and detectors (R1 to R20), and the
seeding of the count (R10). -/

namespace Sys2Proof.Machine

/-! ### Samples and integration (R2, R4, R5) -/

/-- The sample charge in mC (R4). -/
def sampleCharge (i : Int) (w eta : Nat) : Int :=
  if i ≤ 0 then i * w else i * w * eta / 256

/-- Q and r after a sample charge: the floor quotient within 0..C_nom (R5). -/
def integrate (cnom q r : Nat) (charge : Int) : Nat × Nat :=
  let sum : Int := r + charge
  let q' : Int := q + sum / 3600
  if (cnom : Int) < q' then (cnom, 0)
  else if q' < 0 then (0, 0)
  else (q'.toNat, (sum % 3600).toNat)

/-- The weight of a sample: by the part mode at the conversion's completion (R4). -/
def sampleWeight (m : PartMode) : Nat := match m with | .awake => 1 | .doze => 10

/-- The interval to the next conversion: by the part mode at the completion (R1). -/
def conversionInterval (m : PartMode) : Nat := match m with | .awake => millis 100 | .doze => secs 1

/-! ### Detectors (R12) -/

/-- A detector at a conversion that completes at `t`: its running flag with its start time, and whether it fires (R12). -/
def detect (start : Option Nat) (meets : Bool) (duration t : Nat) : Option Nat × Bool :=
  if meets then
    match start with
    | none => (some t, false)
    | some st => if st + duration ≤ t then (none, true) else (some st, false)
  else (none, false)

/-- The engine-run input, debounced (R14). -/
def engineRuns (s : State) : Bool := (input 0 s).active

/-- The full condition (R13). -/
def fullMet (p : Policy) (i : Int) (v : Nat) : Bool :=
  p.p05 ≤ v && decide (0 ≤ i) && decide (i ≤ (p.p06 : Int))

/-- The floor condition, but for EV0 (R14). -/
def floorMet (p : Policy) (i : Int) (v : Nat) : Bool := v < p.p07 && decide (i < 0)

/-- The floor-clear condition (R16). -/
def clearMet (p : Policy) (v : Nat) : Bool := p.p07 + 500 ≤ v

/-- The full detector fires (R13). -/
def fullFires (s : State) : State :=
  notifyBoth .chargeFull
    { s with
      cm.q := s.policy.p01, cm.r := 0, cm.seeded := true, cm.qStale := false
      cm.fullLatched := true, cm.fullStart := none }

/-- The full detector at an integrated conversion (R13). -/
def fullDetector (i : Int) (v : Nat) (s : State) : State :=
  let meets := fullMet s.policy i v
  if s.cm.fullLatched then
    if meets then s else { s with cm.fullLatched := false, cm.fullStart := none }
  else
    let d := detect s.cm.fullStart meets (secs 600) s.tu.clock
    if d.2 then fullFires s else { s with cm.fullStart := d.1 }

/-- The floor detector fires: the correction, VOLTAGE_FLOOR, and the revalidation where Q was lowered (R15). -/
def floorFires (s : State) : State :=
  let qf := floorCount s
  let corrects := decide (qf < s.cm.q)
  let s := { s with cm.voltageFloor := true, cm.floorStart := none, cm.clearStart := none }
  if corrects then revalidate { s with cm.q := qf, cm.r := 0 } else s

/-- The floor detector at an integrated conversion: held at zero while EV0 is active or VOLTAGE_FLOOR is set (R14). -/
def floorDetector (i : Int) (v : Nat) (s : State) : State :=
  if s.cm.voltageFloor || engineRuns s then { s with cm.floorStart := none }
  else
    let d := detect s.cm.floorStart (floorMet s.policy i v) (secs 30) s.tu.clock
    if d.2 then floorFires s else { s with cm.floorStart := d.1 }

/-- The floor-clear detector: every conversion while VOLTAGE_FLOOR is set (R16). -/
def clearDetector (v : Nat) (s : State) : State :=
  if s.cm.voltageFloor then
    let d := detect s.cm.clearStart (clearMet s.policy v) (secs 60) s.tu.clock
    if d.2 then { s with cm.voltageFloor := false, cm.clearStart := none } else { s with cm.clearStart := d.1 }
  else s

/-- A sample that passed the path check is integrated and enters the window (R4, R5, R20). -/
def integrateSample (i : Int) (s : State) : State :=
  let n := integrate s.policy.p01 s.cm.q s.cm.r (sampleCharge i (sampleWeight s.tu.mode) s.policy.p04)
  { s with cm.q := n.1, cm.r := n.2, cm.winSum := s.cm.winSum + i, cm.winCount := s.cm.winCount + 1 }

/-- The whole work on a sample that passed (R12 to R15). -/
def goodSample (i : Int) (v : Nat) (s : State) : State :=
  floorDetector i v (fullDetector i v (integrateSample i s))

/-- The CHARGE_PATH fault (R17). Its state at detection is LOST, as the third FAIL leaves the path: DESIGN CHOICE [33]. -/
def chargePathReport : FaultReport :=
  { source := .charge, code := .chargePath, measured := 0, detect := .chargePath true, restartable := false }

/-- A FAIL outcome: the sample is discarded and the detectors' running flags clear; the third in GOOD loses the path
(R17, R18). The full-latched flag stands, whatever the sample: DESIGN CHOICE [49]. -/
def failedCheck (s : State) : State :=
  let n := s.cm.failCount + 1
  let s := { s with cm.failCount := n, cm.passCount := 0, cm.fullStart := none, cm.floorStart := none }
  if !s.cm.pathLost && 3 ≤ n then takeFault chargePathReport { s with cm.pathLost := true } else s

/-- A PASS outcome: integrated in GOOD; while LOST the tenth restores the path and sets Q_STALE (R17 to R19), and one
before it leaves the full-latched flag: DESIGN CHOICE [49]. -/
def passedCheck (i : Int) (v : Nat) (s : State) : State :=
  let n := s.cm.passCount + 1
  let s := { s with cm.failCount := 0, cm.passCount := n }
  if s.cm.pathLost then
    if n < 10 then { s with cm.fullStart := none, cm.floorStart := none }
    else goodSample i v { s with cm.pathLost := false, cm.qStale := true }
  else goodSample i v s

/-- The current sample of a shunt input: clamped to its range (R2). -/
def shuntSample (shunt : Int) : Int := clampInt (-32768) 32767 shunt

/-- The voltage sample: clamped to 0..40,000 (R1). -/
def voltSample (volt : Int) : Nat := (clampInt 0 40000 volt).toNat

/-- One conversion that completes at `t` or, where the clock has passed it, now (R1 to R20). -/
def conversionAt (t : Nat) (shunt volt : Int) (pass : Bool) (s : State) : State :=
  let s := reach t s
  let i := shuntSample shunt
  let v := voltSample volt
  let s := { s with
    cm.convDue := s.tu.clock + conversionInterval s.tu.mode
    cm.overRange := s.cm.overRange || shunt != i
    cm.latestI := i
    cm.latestV := v }
  clearDetector v (if pass then passedCheck i v s else failedCheck s)

/-- The window mean handed at a review: truncated toward zero, 0 for an empty window (R20). -/
def windowMean (s : State) : Int := if s.cm.winCount = 0 then 0 else Int.tdiv s.cm.winSum s.cm.winCount

/-- SEED_CHARGE (R10). -/
def seed (q : Nat) (s : State) : State :=
  revalidate { s with cm.q := min q s.policy.p01, cm.r := 0, cm.seeded := true, cm.qStale := false }

end Sys2Proof.Machine
end

