-- ==== Sys2Proof/Machine/InputOps.lean ====
section
/-! DEFINITION. The Handset Receiver's frames, pairing, repeats and keys (R183 to R189), and the Event Inputs with their
fixed functions (R190 to R193). -/

namespace Sys2Proof.Machine

/-! ### Keys (R188, R189) -/

/-- A COMFORT request of a handset key or a bunk button (R188). That a heat key's request has no end either is a DESIGN
CHOICE [53]. -/
def comfortAsk (load : Load) (who : Requester) (b : Bunk) (level : Level) : GrantAsk :=
  { load := load, purpose := .comfort, requester := who, origin := bunkOrigin b, level := level, start := none
    endTime := none }

/-- A request placed, with its status. -/
def placeAsk (r : GrantAsk) (s : State) : State × ActionOutcome :=
  let a := grantAsk r s
  (a.state, ⟨a.status, none⟩)

/-- The load's COMFORT entry is ACTIVE. -/
def comfortActive (load : Load) (s : State) : Bool :=
  match findGrant load .comfort s with | some g => g.state == .active | none => false

/-- A toggle: revoke an ACTIVE COMFORT entry, otherwise request it (R188). -/
def toggle (r : GrantAsk) (s : State) : State × ActionOutcome :=
  if comfortActive r.load s then (withdraw r.load .comfort s, ⟨.ok, none⟩) else placeAsk r s

/-- LIGHT_TOGGLE on a bunk's zone (R188). -/
def lightToggle (who : Requester) (b : Bunk) (s : State) : State × ActionOutcome :=
  toggle (comfortAsk (bunkZone b) who b { level := 160 }) s

/-- LIGHT_UP and LIGHT_DOWN: a step of 16 from the requested level; a level equal to the base places no request (R188). -/
def lightStep (up : Bool) (b : Bunk) (s : State) : State × ActionOutcome :=
  let base := match findGrant (bunkZone b) .comfort s with | some g => g.req.level | none => 0
  let level := if up then min 255 (base + 16) else base - 16
  if level = base then (s, ⟨.ok, none⟩)
  else placeAsk (comfortAsk (bunkZone b) .handset b { level := level }) s

/-- HEAT_TOGGLE (R188). -/
def heatToggle (b : Bunk) (s : State) : State × ActionOutcome :=
  let setpoint := match findGrant .heater .comfort s with | some g => g.req.setpoint | none => 20
  toggle (comfortAsk .heater .handset b { level := 0, setpoint := setpoint, maxStage := 4 }) s

/-- HEAT_UP and HEAT_DOWN: a step of one degree, clamped to 5..30 (R188). -/
def heatStep (up : Bool) (b : Bunk) (s : State) : State × ActionOutcome :=
  match findGrant .heater .comfort s with
  | none => (s, ⟨.notFound, none⟩)
  | some g =>
    let t := clampNat 5 30 (if up then g.req.setpoint + 1 else g.req.setpoint - 1)
    placeAsk (comfortAsk .heater .handset b { level := 0, setpoint := t, maxStage := g.req.maxStage }) s

/-- The action of a key for a bunk; a code the table does not name is no action (R188). -/
def keyAction (b : Bunk) (key : Byte) (s : State) : State × ActionOutcome :=
  match key.toNat with
  | 0x01 => lightToggle .handset b s
  | 0x02 => lightStep true b s
  | 0x03 => lightStep false b s
  | 0x04 => toggle (comfortAsk (bunkReading b) .handset b { level := 255 }) s
  | 0x05 => heatToggle b s
  | 0x06 => heatStep true b s
  | 0x07 => heatStep false b s
  | 0x08 => let r := snoozeRest b s; (r.1, ⟨r.2, none⟩)
  | 0x09 => let r := bunkAck b s; (r.1, ⟨.ok, some r.2⟩)
  | _ => (s, ⟨.ok, none⟩)

/-- A key action that HR applies is recorded, with HANDSET_ACTION on Link B (R189). -/
def applyKey (b : Bunk) (id key : Byte) (s : State) : State :=
  let r := keyAction b key s
  notify .b .handsetAction
    { r.1 with hr.lastAction := some { bunk := b, id := id, key := key, outcome := r.2, time := now s } }

/-! ### Frames and repeats (R183 to R187) -/

/-- The bunk a handset id is paired to (R185). -/
def pairedBunk (id : Byte) (s : State) : Option Bunk :=
  if s.hr.paired.lower == some id then some .lower
  else if s.hr.paired.upper == some id then some .upper
  else none

/-- The bits of a field, most significant first. -/
def bitsValue (bits : List Bool) : Nat := bits.foldl (fun n b => 2 * n + (if b then 1 else 0)) 0

/-- The check of an id and a key: the sum of their four nibbles modulo 16 (R183). -/
def frameCheck (id key : Byte) : Nat :=
  (id.toNat / 16 + id.toNat % 16 + key.toNat / 16 + key.toNat % 16) % 16

/-- The id, the key and the check of 20 received bits (R183). -/
def frameFields (bits : List Bool) : Byte × Byte × Nat :=
  (BitVec.ofNat 8 (bitsValue (bits.take 8)), BitVec.ofNat 8 (bitsValue ((bits.drop 8).take 8)),
    bitsValue ((bits.drop 16).take 4))

/-- The receiver can complete this frame: the frame stands in STOP, or the whole reception is in the command [18]. -/
def frameArrives (id key : Byte) (rx : RxState) : Bool :=
  match rx with
  | .idle | .repeatWindow => true
  | .stop (some bits) true => frameFields bits == (id, key, frameCheck id key)
  | _ => false

/-- The receiver can complete a repeat: in REPEAT_WINDOW with the whole reception in the command, or in STOP (R184). -/
def repeatArrives (rx : RxState) : Bool :=
  match rx with
  | .repeatWindow | .stop none true => true
  | _ => false

/-- The receiver can complete a frame with a check error (R184). -/
def badFrameArrives (rx : RxState) : Bool :=
  match rx with
  | .idle | .repeatWindow => true
  | .stop (some bits) true =>
    let f := frameFields bits
    f.2.2 != frameCheck f.1 f.2.1
  | _ => false

/-- The line's next event, `elapsed` µs after the last one [18]. -/
def lineEvent (elapsed : Nat) (s : State) : State :=
  let s := reach (s.hr.edgeAt + elapsed) s
  { s with hr.edgeAt := s.tu.clock }

/-- A frame or a repeat is complete: REPEAT_WINDOW, 120 ms from the end of its stop mark (R184). -/
def enterRepeatWindow (s : State) : State :=
  { s with hr.rx := .repeatWindow, hr.windowDue := some (s.tu.clock - millis 8 + millis 120) }

/-- A complete frame with a valid check is ignored: its repeats are ignored as it was (R185, R187). -/
def ignoreFrame (s : State) : State := { s with hr.repeatable := false }

/-- The frame pairs its handset to the window's bunk (R186). -/
def pairHandset (b : Bunk) (id : Byte) (s : State) : State :=
  let s := notify .b .paired
    { s with hr.paired := s.hr.paired.set b (some id), hr.window := none, hr.repeatable := false }
  wake .handset s

/-- A complete frame with a valid check (R185). -/
def takeFrame (id key : Byte) (s : State) : State :=
  if id = 0#8 then ignoreFrame s
  else
    match pairedBunk id s with
    | some b =>
      let s := applyKey b id key s
      wake .handset
        { s with hr.lastFrame := some { id := id, key := key, stepAt := s.tu.clock }, hr.repeatable := true }
    | none =>
      match s.hr.window with
      | some (b, _) => pairHandset b id s
      | none => ignoreFrame s

/-- The keys whose repeats apply a further step (R187). -/
def stepsOnRepeat (key : Byte) : Bool := key == 0x02#8 || key == 0x03#8

/-- A complete repeat of the last frame (R187). -/
def takeRepeat (s : State) : State :=
  match s.hr.repeatable, s.hr.lastFrame with
  | true, some f =>
    let s := wake .handset s
    match pairedBunk f.id s with
    | some b =>
      if stepsOnRepeat f.key && f.stepAt + millis 200 ≤ s.tu.clock then
        applyKey b f.id f.key { s with hr.lastFrame := some { f with stepAt := s.tu.clock } }
      else s
    | none => s
  | _, _ => s

/-- A measured duration in µs lies in an accepted range (R183). -/
def inRange (lo hi t : Nat) : Bool := lo ≤ t && t ≤ hi

/-- The bit a space stands for (R183, R184). -/
def spaceBit (t : Nat) : Option Bool :=
  if inRange 300 500 t then some false else if inRange 900 1500 t then some true else none

/-- The receiver at the end of a mark of this duration (R184). -/
def markEnds (rx : RxState) (t : Nat) : RxState :=
  match rx with
  | .leader r false => if inRange 2400 4000 t then .leader r true else .idle
  | .bits xs false => if inRange 300 500 t then .bits xs true else .idle
  | .stop f false => if inRange 300 500 t then .stop f true else .idle
  | rx => rx

/-- The receiver at the start of a mark, after a space of this duration; `open_` while the repeat window lasts (R184). -/
def markStarts (rx : RxState) (open_ : Bool) (t : Nat) : RxState :=
  match rx with
  | .idle => .leader false false
  | .repeatWindow => .leader open_ false
  | .leader r true =>
    if inRange 1200 2000 t then .bits [] false
    else if r && inRange 600 1000 t then .stop none false
    else .idle
  | .bits xs true =>
    match spaceBit t with
    | none => .idle
    | some b => if xs.length + 1 = 20 then .stop (some (xs ++ [b])) false else .bits (xs ++ [b]) false
  | .stop f true => if t < 8000 then .idle else .stop f true
  | rx => rx

/-- The repeat window has not passed. -/
def repeatOpen (s : State) : Bool :=
  match s.hr.windowDue with | some d => s.tu.clock ≤ d | none => false

/-- A mark or a space passes the top of its accepted range (R184); the idle line, the repeat window and the 8 ms gap have
none, and the command leaves them: DESIGN CHOICE [18]. -/
def passesTop (rx : RxState) : RxState :=
  match rx with
  | .leader _ _ | .bits _ _ | .stop _ false => .idle
  | .idle => .idle
  | .repeatWindow => .repeatWindow
  | .stop f true => .stop f true

/-! ### Event inputs (R190 to R193) -/

/-- The raw state of an input: the pin's level through the polarity (R190). -/
def rawActive (x : EventInput) : Bool :=
  match x.config.polarity with
  | .activeHigh => x.pin
  | .activeLow => !x.pin

/-- The overheat of EV1 or of the flame temperature (R87). -/
def overheat (s : State) : State :=
  let r : FaultReport :=
    { source := .heater, code := .overheat, measured := s.hs.tf.getD 0, detect := .heater s.hs.phase
      restartable := false }
  takeFault r (heaterOverheats s)

/-- The COURTESY request of a door opening (R26, R192). -/
def courtesyAsk (s : State) : GrantAsk :=
  { load := .step, purpose := .courtesy, requester := .input, origin := .cab, level := { level := 255 }
    start := none, endTime := some (plusSecs (now s) 120) }

/-- The press of a bunk button: an acknowledgement, and a light toggle where it acknowledged none (R192). -/
def buttonPress (b : Bunk) (s : State) : State × ActionOutcome :=
  let r := bunkAck b s
  if r.2 = 0 then lightToggle .input b r.1 else (r.1, ⟨.ok, some r.2⟩)

/-- The fixed function of an input at a change to active, but for EV0's wake (R192). -/
def fixedFunction (n : Fin 8) (s : State) : State :=
  match n.val with
  | 0 => { s with cm.floorStart := none }
  | 1 => overheat s
  | 2 =>
    let r := placeAsk (courtesyAsk s) s
    { r.1 with ei.doorOutcome := some (r.2, now s) }
  | 3 =>
    let r := buttonPress .lower s
    { r.1 with ei.lowerOutcome := some (r.2, now s) }
  | 4 =>
    let r := buttonPress .upper s
    { r.1 with ei.upperOutcome := some (r.2, now s) }
  | _ => s

/-- The wake requests of an input event: the routed one, and EV0's own; which of the two comes first is left open
(R191, R192) [9]. -/
def inputWakes (n : Fin 8) (routed : Bool) (s : State) : State :=
  if n.val = 0 then
    if Config.engineRunWakesFirst s.tu.clock then
      let s := wake .engineRun s
      if routed then wake .input s else s
    else
      let s := if routed then wake .input s else s
      wake .engineRun s
  else if routed then wake .input s else s

/-- An input event: a change of the debounced state to active (R191, R192). The routed wake comes before the fixed function,
so that EV1's INPUT precedes the CAPTURE of its overheat: DESIGN CHOICE [16]. -/
def inputEvent (n : Fin 8) (s : State) : State :=
  let x := input n s
  let s := setInput n { x with active := true, lastEvent := some (now s) } s
  let s := if x.config.noticeV then notify .v .input s else s
  let s := if x.config.noticeB then notify .b .input s else s
  fixedFunction n (inputWakes n x.config.wake s)

/-- The debounced state takes the raw state (R190, R191). -/
def takeRaw (n : Fin 8) (s : State) : State :=
  let x := input n s
  if rawActive x == x.active then s
  else if x.active then setInput n { x with active := false } s
  else inputEvent n s

/-- An input is judged afresh, as after a main reset (R190, R193). At INPUT_CONFIG the time of its last event stands: DESIGN
CHOICE [51]. -/
def restartInput (n : Fin 8) (s : State) : State :=
  let x := input n s
  let timer := if x.config.debounce && rawActive x then some (s.tu.clock + millis 20) else none
  let s := setInput n { x with active := false, debounceDue := timer } s
  if x.config.debounce then s else takeRaw n s

/-- For a LEVEL input that is still active, INPUT is set again on a link that routes it (R191, R200). -/
def levelInputs (l : Link) (s : State) : Bool :=
  s.ei.inputs.toList.any (fun x =>
    x.config.kind == .level && x.active &&
      (match l with | .v => x.config.noticeV | .b => x.config.noticeB))

end Sys2Proof.Machine
end

