-- ==== Sys2Proof/Machine/DomainOps.lean ====
section
/-! DEFINITION. The Time Unit's clock source and TIME_SET (R169 to R172), the keep-alive and the main domain at their
resets (R173 to R175), and the whole of a review (R38 to R42, R142, R163, R181). -/

namespace Sys2Proof.Machine

/-! ### Clock source (R170, R171) -/

/-- The SLOW_OSC_STOP fault (R170, R175). -/
def slowOscReport (m : PartMode) : FaultReport :=
  { source := .timebase, code := .slowOscStop, measured := 0, detect := .mode m, restartable := true }

/-- TU reports the degradation of the RTC: the notice, RM's marks, the fault (R170, R175). -/
def reportDegraded (s : State) : State :=
  takeFault (slowOscReport s.tu.mode) (markUncertain true (notifyBoth .rtcDegraded s))

/-- The stop detector reports the crystal stopped: a failover from CRYSTAL; in SLOW only the stable-edge timer stops
(R170, R171). -/
def stopCrystal (s : State) : State :=
  match s.tu.source with
  | .crystal =>
    unlessReset reportDegraded { s with tu.source := .slow, tu.degraded := true, tu.stableDue := none }
  | .slow => { s with tu.stableDue := none }

/-- Crystal edges arrive again while the source is SLOW: the stable-edge timer starts afresh (R171). -/
def startStable (s : State) : State :=
  match s.tu.source with
  | .crystal => s
  | .slow => { s with tu.stableDue := some (s.tu.clock + secs 1) }

/-- The stable-edge timer reaches 1 s: the count returns to the crystal, the RTC as it stands (R171). -/
def returnCrystal (s : State) : State :=
  match s.tu.source, s.tu.stableDue with
  | .slow, some due =>
    let s := reach due s
    unlessReset (notifyBoth .rtcDegraded)
      { s with tu.source := .crystal, tu.degraded := false, tu.stableDue := none }
  | _, _ => s

/-- A second of the clock source completes (R169). -/
def countSecond (s : State) : State := { s with tu.rtc := s.tu.rtc + 1, tu.subSecond := 0 }

/-! ### Stored times and the RTC (R48) -/

/-- The entry's end is at or before now. -/
def grantEnded (s : State) (g : Grant) : Bool :=
  match g.endTime with | some e => atOrAfter (now s) e | none => false

/-- The entry's start is at or before now. -/
def grantStarted (s : State) (g : Grant) : Bool :=
  match g.start with | some t => atOrAfter (now s) t | none => true

/-- The RTC has reached the end of an entry: AU removes it whatever its state (R48). -/
def expireGrant (load : Load) (purpose : Purpose) (s : State) : State :=
  match findGrant load purpose s with
  | some g => if grantEnded s g then removeEntry load purpose .endReached s else s
  | none => s

/-- The RTC has reached the start of a WAITING entry: it becomes ACTIVE without a new admission (R48). -/
def startGrant (load : Load) (purpose : Purpose) (s : State) : State :=
  match findGrant load purpose s with
  | some g =>
    if g.state == .waiting && grantStarted s g then
      mergeLoad load (updateGrant load purpose (fun x => { x with state := .active }) s)
    else s
  | none => s

/-- A set forward: every end passed and every start passed, in order of position (R48). -/
def passStoredTimes (s : State) : State :=
  let s := s.au.table.foldl (fun s g => expireGrant g.load g.purpose s) s
  s.au.table.foldl (fun s g => startGrant g.load g.purpose s) s

/-! ### TIME_SET (R172) -/

/-- RM takes the set: last updates at the new time, the marks cleared, quiet hours, timeouts, the pre-warm (R119, R129,
R131, R132, R134) [16]. -/
def restTimeSet (s : State) : State :=
  let t := now s
  let s := { s with rm.recs := s.rm.recs.map (fun r => r.map (fun q => { q with lastUpdate := t })) }
  reconcilePrewarm (timeoutRest .upper (timeoutRest .lower (reportQuiet (markUncertain false s))))

/-- TIME_SET is taken (R172): the RTC is set, then RM, AU, CS and WU take the set in turn, RM with its records accumulated
at the old time, so that a warning raised there has the new time as its raise time (R119, R140). -/
def setTime (t : RtcTime) (s : State) : State :=
  let old := now s
  let s := restTimeSet (accumulateAll old { s with tu.rtc := t, tu.subSecond := 0, tu.timeSet := true })
  let forward := decide (0 < timeDiff t old)
  let s := if forward then passStoredTimes s else s
  let s := if forward && slotReached s then slotAtOnce s else s
  testWake .upper (testWake .lower s)

/-! ### The resets of the domains (R173, R174) -/

/-- A port at the end of a main reset; a transfer met by the reset is lost (R208, R209). -/
def resetPort (p : Port) : Port :=
  { transfer := (match p.transfer with | .none => .none | _ => .lost), out := p.out }

def resetPorts (s : State) : State := { s with portV := resetPort s.portV, portB := resetPort s.portB }

/-- The main domain takes the values of the reset tables (R23, R55, R74, R97, R113, R137, R155, R167, R175, R194, R209);
the keep-alive items of R173 stand. The sunrise ramp level 0 is a DESIGN CHOICE [46]. -/
def resetMainDomain (s : State) : State :=
  let t := s.tu.clock
  resetPorts
    { s with
      tu := { s.tu with mode := .awake, exitDue := none, postExit := false, dozeDue := none, lastWake := none }
      cm := { q := s.cm.q, r := s.cm.r, seeded := s.cm.seeded, convDue := t + millis 100, tempDue := t + secs 1 }
      au := { reviewDue := t + secs 60 }
      ca := {}
      hs := { purgeOwed := s.hs.purgeOwed, lockout := s.hs.lockout, cabinDue := t + secs 1, flameDue := t + secs 1 }
      cs :=
        { enable := s.cs.enable, c := s.cs.c, nextDue := s.cs.nextDue, formed := s.cs.formed, run := s.cs.run
          slotPending := s.cs.slotPending, mode := (fixedMode s.policy.p40).getD .normal
          minOffDue := some (t + mins 3), tempDue := t + secs 1 }
      rm := { recs := s.rm.recs, rests := s.rm.rests, accountDue := t + secs 60 }
      wu := { chime := .idle (t + secs 1) }
      fu := {}
      hr := { paired := s.hr.paired, edgeAt := s.hr.edgeAt }
      ei := { inputs := s.ei.inputs.map (fun x => { config := x.config, pin := x.pin }) } }

/-- The keep-alive domain takes its KPOR values (R173). -/
def resetKeepAlive (s : State) : State :=
  { s with
    tu := { s.tu with
      rtc := 0, subSecond := 0, timeSet := false, source := .crystal, degraded := false, stableDue := none
      lastCause := .power, kporFlag := true }
    policy := {}
    policyLock := false
    ei.inputs := s.ei.inputs.map (fun x => { x with config := InputConfig.initial })
    cm := { s.cm with q := 112500, r := 0, seeded := false }
    hs := { s.hs with purgeOwed := false, lockout := none }
    cs := { s.cs with enable := false, c := 0, nextDue := 1800, formed := 30, run := none, slotPending := false }
    rm := { s.rm with recs := Vector.replicate 4 none, rests := ⟨none, none⟩ }
    hr.paired := ⟨none, none⟩ }

/-- The causes of a main reset being held, none where no reset is held. -/
def heldCauses (s : State) : ResetHold := s.tu.resetHold.getD ⟨false, false, false, false, none⟩

/-- A cause of main reset arises (R174). -/
def addResetCause (cause : ResetCause) (t : Nat) (h : ResetHold) : ResetHold :=
  match cause with
  | .power => { h with power := true }
  | .pin => { h with pin := true }
  | .restart => { h with restart := true, restartDue := some (t + millis 1) }

/-- The main domain goes into reset, or the reset it is in lengthens (R174). -/
def mainReset (cause : ResetCause) (s : State) : State :=
  let h := addResetCause cause s.tu.clock (heldCauses s)
  resetMainDomain { s with tu.resetHold := some h }

/-- KPOR (R173): the keep-alive domain takes its values and the main domain is held in reset with cause POWER. -/
def powerOnReset (s : State) : State :=
  let h := { heldCauses s with power := true, kpor := true }
  resetMainDomain (resetKeepAlive { s with tu.resetHold := some h })

/-- The cause recorded at the end of a main reset (R174). -/
def recordedCause (h : ResetHold) : ResetCause :=
  if h.power then .power else if h.pin then .pin else .restart

/-- HS takes its keep-alive items and enters a phase by them (R97). -/
def restartHeater (s : State) : State :=
  if s.hs.purgeOwed then enterPurge .off true s.hs.lockout s
  else if s.hs.lockout.isSome then { s with hs.phase := .lockout }
  else s

/-- CS applies the cut-short rule to the run flag, places COOLING and takes a due that has passed (R113). -/
def restartFridge (s : State) : State :=
  let cut := s.cs.slotPending || s.cs.run == some .slot
  let s := { s with
    cs.c := if cut then creditDown s.cs.c else s.cs.c
    cs.run := none
    cs.slotPending := false }
  let s := if s.cs.enable then placeCooling s else s
  if slotReached s then slotAtOnce s else s

/-- A pre-warm state of PLACED becomes WANTED, since the grant table is empty (R137). -/
def unplacePrewarm (r : BunkRest) : BunkRest :=
  { r with prewarmState := if r.prewarmState = .placed then .wanted else r.prewarmState }

/-- The short-rest condition of a record is handed to WU (R137). -/
def handShort (i : Fin 4) (s : State) : State :=
  match (record i s).bind (·.shortRest) with
  | some (broken, t) => raiseWarning (shortKind broken) (shortTarget i t) .notice s
  | none => s

/-- RM reports its rests and conditions as at their beginnings, and WU forms WAKE and the sunrises (R137, R155) [16]. -/
def restartRests (s : State) : State :=
  let s := { s with rm.rests :=
    ⟨s.rm.rests.lower.map unplacePrewarm, s.rm.rests.upper.map unplacePrewarm⟩ }
  let s := reconcilePrewarm (timeoutRest .upper (timeoutRest .lower (reportQuiet s)))
  let s := allRecords.foldl (fun s i => handShort i (evaluateConds i s)) s
  let s := testWake .upper (testWake .lower s)
  reconcileSunrise .upper (reconcileSunrise .lower s)

/-- Every event input is judged afresh (R190). -/
def restartInputs (s : State) : State :=
  [0, 1, 2, 3, 4, 5, 6, 7].foldl (fun s n => restartInput n s) s

/-- The main reset ends (R174, R175): every block starts from its reset table, and the owners of keep-alive items act on
them. The phase HS takes sets no notice: the set holds RESET alone (R209). The order of the hand-overs, a degraded RTC
reported last, is the model's [16]. -/
def endMainReset (h : ResetHold) (s : State) : State :=
  let s := reach (h.restartDue.getD 0) s
  let s := resetMainDomain
    { s with tu.resetHold := none, tu.lastCause := recordedCause h, tu.kporFlag := h.kpor }
  let s := resetPorts (restartHeater s)
  let s := restartInputs (restartRests (restartFridge s))
  if s.tu.degraded then reportDegraded s else s

/-! ### The review (R38 to R42) -/

/-- CS hears of the flags and WU of the reserve-low condition (R38, R142). -/
def handReview (s : State) : State :=
  let s := { s with cs.deficit := s.au.deficit, cs.surplus := s.au.surplus }
  if s.au.reserveLow then raiseWarning .reserveLow .cab .notice s else removeWarning .reserveLow .cab s

/-- BREACH and VOLTAGE_FLOOR have lasted 300 s at a review's end (R163). -/
def voltageCollapsed (s : State) : Bool :=
  s.au.breach && s.cm.voltageFloor &&
    (match s.au.breachTime with | some t => decide (300 ≤ timeDiff (now s) t) | none => false)

/-- TU hears that a review has completed (R176, R181). -/
def markReviewed (s : State) : State := syncDoze { s with tu.postExit := true }

/-- CM hands the window mean and starts a new window (R20). -/
def takeWindow (s : State) : State :=
  { s with cm.winMean := windowMean s, cm.winSum := 0, cm.winCount := 0 }

/-- A review, whole (R20, R38 to R42, R142, R150, R163, R181). That the sunrises are reconciled after hold cause 4 is added
is a DESIGN CHOICE [16]. -/
def review (s : State) : State :=
  let s := reach s.au.reviewDue s
  let s := takeWindow { s with au.reviewDue := s.tu.clock + secs 60 }
  let s := handReview (reviewAdmission s.cm.winMean s)
  let s := if voltageCollapsed s then addCause .voltageCollapse false s else s
  markReviewed (reconcileSunrise .upper (reconcileSunrise .lower s))

end Sys2Proof.Machine
end

