-- ==== Sys2Proof/Machine/PolicyOps.lean ====
section
/-! DEFINITION. The policy items: their stored values, their ranges, and what their owners do at a change (R8, R22, R53,
R96, R112, R136, R154, R204 to R206). -/

namespace Sys2Proof.Machine

/-- The stored value of an item; an id that names no item has none (R204, R205). -/
def policyItem? (p : Policy) (id : Nat) : Option Nat :=
  match id with
  | 1 => some p.p01 | 2 => some p.p02 | 3 => some p.p03 | 4 => some p.p04 | 5 => some p.p05 | 6 => some p.p06
  | 7 => some p.p07 | 10 => some p.p10 | 11 => some p.p11 | 12 => some p.p12 | 13 => some p.p13
  | 14 => some p.p14 | 15 => some p.p15 | 16 => some p.p16 | 17 => some p.p17 | 18 => some p.p18
  | 19 => some p.p19 | 20 => some p.p20 | 21 => some p.p21 | 23 => some p.p23 | 24 => some p.p24
  | 30 => some p.p30 | 31 => some p.p31 | 32 => some p.p32 | 33 => some p.p33 | 34 => some p.p34
  | 35 => some p.p35 | 36 => some p.p36 | 37 => some p.p37 | 40 => some p.p40 | 41 => some p.p41
  | 42 => some p.p42 | 43 => some p.p43 | 44 => some p.p44 | 45 => some p.p45 | 46 => some p.p46
  | 50 => some p.p50 | 51 => some p.p51 | 52 => some p.p52 | 53 => some p.p53 | 54 => some p.p54
  | 55 => some p.p55 | 56 => some p.p56 | 57 => some p.p57 | 58 => some p.p58 | 59 => some p.p59
  | 60 => some p.p60 | 61 => some p.p61 | 62 => some p.p62 | 63 => some p.p63 | 64 => some p.p64
  | _ => none

/-- Storing a value for an item. -/
def storeItem (id v : Nat) (p : Policy) : Policy :=
  match id with
  | 1 => { p with p01 := v } | 2 => { p with p02 := v } | 3 => { p with p03 := v } | 4 => { p with p04 := v }
  | 5 => { p with p05 := v } | 6 => { p with p06 := v } | 7 => { p with p07 := v } | 10 => { p with p10 := v }
  | 11 => { p with p11 := v } | 12 => { p with p12 := v } | 13 => { p with p13 := v } | 14 => { p with p14 := v }
  | 15 => { p with p15 := v } | 16 => { p with p16 := v } | 17 => { p with p17 := v } | 18 => { p with p18 := v }
  | 19 => { p with p19 := v } | 20 => { p with p20 := v } | 21 => { p with p21 := v } | 23 => { p with p23 := v }
  | 24 => { p with p24 := v } | 30 => { p with p30 := v } | 31 => { p with p31 := v } | 32 => { p with p32 := v }
  | 33 => { p with p33 := v } | 34 => { p with p34 := v } | 35 => { p with p35 := v } | 36 => { p with p36 := v }
  | 37 => { p with p37 := v } | 40 => { p with p40 := v } | 41 => { p with p41 := v } | 42 => { p with p42 := v }
  | 43 => { p with p43 := v } | 44 => { p with p44 := v } | 45 => { p with p45 := v } | 46 => { p with p46 := v }
  | 50 => { p with p50 := v } | 51 => { p with p51 := v } | 52 => { p with p52 := v } | 53 => { p with p53 := v }
  | 54 => { p with p54 := v } | 55 => { p with p55 := v } | 56 => { p with p56 := v } | 57 => { p with p57 := v }
  | 58 => { p with p58 := v } | 59 => { p with p59 := v } | 60 => { p with p60 := v } | 61 => { p with p61 := v }
  | 62 => { p with p62 := v } | 63 => { p with p63 := v } | 64 => { p with p64 := v }
  | _ => p

/-- The lower and the upper end of an item's range as they stand (R22, R53, R96, R112, R136, R154). -/
def itemRange (p : Policy) (id : Nat) : Nat × Nat :=
  match id with
  | 1 => (20000, 800000) | 2 => (0, p.p01 / 2) | 3 => (0, 6) | 4 => (200, 256) | 5 => (24000, 30000)
  | 6 => (10, 1000) | 7 => (20000, 25000) | 10 => (60, 720) | 11 => (0, 20000) | 12 => (50, 2000)
  | 13 | 14 | 15 | 16 | 17 | 18 | 19 | 20 | 21 => (100, 10000)
  | 23 | 24 => (0, 255)
  | 30 | 31 | 32 | 33 => (300, 5000)
  | 34 | 35 => (0, 2000) | 36 => (1, 4) | 37 => (0, 120) | 40 => (0, 3) | 41 => (2, 15)
  | 42 | 43 | 44 => (20, 120)
  | 45 => (2, 20) | 46 => (0, 8) | 50 => (120, 360) | 51 => (30, 90) | 52 => (5, p.p51 - 5) | 53 => (240, 900)
  | 54 => (480, 900) | 55 => (360, p.p54) | 56 => (0, 5) | 57 => (1440, 4320) | 58 => (5, 60) | 59 => (0, 3)
  | 60 => (30, 600) | 61 => (0, 30) | 62 => (0, 60) | 63 => (0, 1) | 64 => (0, 20000)
  | _ => (0, 0)

/-- A written value clamped to the item's range as it stands (R205). -/
def clampItem (p : Policy) (id v : Nat) : Nat := clampNat (itemRange p id).1 (itemRange p id).2 v

/-! ### What the owners do at a change -/

/-- CM applies a new C_nom (R8). -/
def applyCapacity (s : State) : State :=
  let s := if s.policy.p01 < s.cm.q then { s with cm.q := s.policy.p01, cm.r := 0 } else s
  if s.policy.p01 < 2 * s.policy.p02 then { s with policy.p02 := s.policy.p01 / 2 } else s

/-- A change of P40, P42, P43 or P44 (R101, R102, R112). -/
def applyRate (id : Nat) (s : State) : State :=
  match id, s.cs.mode with
  | 40, _ => match fixedMode s.policy.p40 with | some m => setMode m s | none => s
  | 42, .normal | 43, .warm | 44, .cool => reformDue s
  | _, _ => s

/-- A record's classes and segments go from the old settings of P59 to the new (R121, R136). -/
def applySettings (old : Nat) (s : State) : State :=
  allRecords.foldl (fun s i =>
    match record i s with
    | none => s
    | some r =>
      changeClass i false old s.policy.p59 (effectiveClass old s.rm.moving r.activity)
        (effectiveClass s.policy.p59 s.rm.moving r.activity) s) s

/-- An unacknowledged entry at NOTICE whose kind escalates after P60 and whose time has come (R143). -/
def escalationDue (s : State) (w : Warning) : Bool :=
  !w.acked && w.level == .notice && escalatesByTime w.kind && w.raisedAt + secs s.policy.p60 ≤ s.tu.clock

/-- A change of P60 (R143). -/
def applyEscalation (s : State) : State :=
  s.wu.list.foldl (fun s w => if escalationDue s w then escalateWarning w.kind w.target s else s) s

/-- The owner of an item applies a changed value, which is stored already (R8, R53, R96, R112, R136, R154). -/
def applyItem (id old : Nat) (s : State) : State :=
  match id with
  | 1 => revalidate (applyCapacity s)
  | 2 | 3 | 13 | 14 | 15 | 16 | 17 | 18 | 19 | 20 | 21 | 30 | 31 | 32 | 33 => revalidate s
  | 23 | 24 => applyCaps s
  | 36 => lowerStage s
  | 37 => reconcilePrewarm (reportQuiet s)
  | 40 | 42 | 43 | 44 => applyRate id s
  | 51 => { s with policy.p52 := min s.policy.p52 (s.policy.p51 - 5) }
  | 54 => { s with policy.p55 := min s.policy.p55 s.policy.p54 }
  | 59 => applySettings old s
  | 60 => applyEscalation s
  | 61 => testWake .upper (testWake .lower s)
  | 62 => reconcileSunrise .upper (reconcileSunrise .lower s)
  | _ => s

/-- A stored value changes: it is stored and handed to its owner; a change of P59 first accumulates every record under
the old settings (R136, R205). -/
def changeItem (id old new : Nat) (s : State) : State :=
  let s := if id = 59 then accumulateAll (now s) s else s
  applyItem id old { s with policy := storeItem id new s.policy }

/-- POLICY_SET reaches policy storage (R205, R206). -/
def setPolicy (id v : Nat) (s : State) : Reply :=
  match policyItem? s.policy id with
  | none => refuse .notFound s
  | some old =>
    let new := clampItem s.policy id v
    if s.policyLock && !(id == 2 && decide (old < new)) then refuse .locked s
    else ⟨if new = old then s else changeItem id old new s, .ok, encNat32 new⟩

/-- POLICY_GET: the stored value, the ends of the range as they stand, the policy lock (R205). -/
def getPolicy (id : Nat) (s : State) : Reply :=
  match policyItem? s.policy id with
  | none => refuse .notFound s
  | some v =>
    let r := itemRange s.policy id
    ⟨s, .ok, encNat32 v ++ encNat32 r.1 ++ encNat32 r.2 ++ encFlag s.policyLock⟩

end Sys2Proof.Machine
end

