-- ==== Sys2Proof/Machine/Report.lean ====
section
/-! DEFINITION. The payloads of the reports (R21, R47, R54, R72, R73, R95, R111, R135, R153, R166, R182, R194, R207), in the
encodings of R197. Where a rule's list leaves a field's bytes open, the choice is that of log entry 10. -/

namespace Sys2Proof.Machine

/-- GOOD or FAILED (R3). -/
def encSensor (x : Sensor) : List Byte := encU8 (if x.failed then 1 else 0)

/-- A set of values: bit i for the value at position i (R197). -/
def encSet (bits : List Bool) : List Byte :=
  encU8 (bits.foldr (fun b n => (if b then 1 else 0) + 2 * n) 0)

/-! ### STATUS_READ (R207) -/

/-- The common header (R207). -/
def statusHeader (s : State) : List Byte :=
  encU8 (resetCauseCode s.tu.lastCause) ++ encFlag s.tu.kporFlag ++ encU8 (modeCode s.tu.mode) ++ encFlag (inHold s) ++
  encFlag s.fu.record.isSome ++ encFlag s.policyLock ++ encFlag s.cm.seeded ++ encFlag s.cm.qStale

/-- Section CHARGE (R21). -/
def chargeSection (s : State) : List Byte :=
  encFlag s.cm.pathLost ++ encCount s.cm.failCount ++ encCount s.cm.passCount ++ encFlag s.cm.overRange ++
  encSensor s.cm.sensor ++ encFlag s.cm.seeded ++ encFlag s.cm.qStale ++ encFlag s.cm.voltageFloor

def encChannel (c : Channel) : List Byte :=
  encU8 (chanStateCode c.state) ++ encU8 c.target ++ encU8 c.output ++ encU8 c.tripCount ++ encFlag c.openLoad ++
  encNat32 c.lastCurrent

/-- Section CHANNELS (R73). -/
def channelSection (s : State) : List Byte :=
  s.ca.chans.toList.flatMap encChannel ++ encOpt (fun r => encU8 r.underTest.val) s.ca.check

/-- Section HEATER (R95). The lockout flag and lockout pending are the presence bytes of their causes: DESIGN CHOICE [10]. -/
def heaterSection (s : State) : List Byte :=
  let h := s.hs
  encU8 (heaterPhaseCode h.phase) ++ encOpt encU8 h.stage ++ encOpt encU8 h.demand ++
  encOpt (fun m => encTemp m.setpoint ++ encU8 m.maxStage) h.merged ++ encOpt encTemp h.tc ++ encOpt encTemp h.tf ++
  encSensor h.cabin ++ encSensor h.flame ++ encFlag h.purgeOwed ++ encOpt (fun c => encU8 (lockCauseCode c)) h.lockout ++
  encOpt (fun c => encU8 (lockCauseCode c)) h.pending ++ encOpt (fun r => encU8 (if r.full then 0 else 1)) h.purge ++
  encNat32 (secondsLeft (h.purge.map (·.due)) s) ++
  encOpt (fun r => encU8 (heaterPhaseCode (followOnPhase r.followOn))) h.purge ++ encCount h.attempts ++
  encCount h.flameOuts

/-- The run the flag marks: the run in progress, or a pending slot run (R98); with both, the run in progress: DESIGN CHOICE
[45]. -/
def markedRun (s : State) : Option RunKind :=
  match s.cs.run with
  | some k => some k
  | none => if s.cs.slotPending then some .slot else none

/-- A signed count in one byte. -/
def encCredit (c : Int) : List Byte := [BitVec.ofInt 8 c]

/-- Section FRIDGE (R111). The run-in-progress flag is the presence byte of its kind: DESIGN CHOICE [10]. -/
def fridgeSection (s : State) : List Byte :=
  encFlag s.cs.enable ++ encNat32 s.policy.p40 ++ encU8 (rateModeCode s.cs.mode) ++ encNat32 (slotInterval s) ++
  encCredit s.cs.c ++ enc32 s.cs.nextDue ++ encOpt (fun k => encU8 (runKindCode k)) (markedRun s) ++
  encFlag s.cs.slotPending ++ encNat32 (secondsLeft s.cs.runDue s) ++ encNat32 (secondsLeft s.cs.minOffDue s) ++
  encFlag (postponeWanted s) ++ encSet (postponeGrounds s) ++
  encOpt (fun d => encU8 (slotDecisionCode d.1) ++ enc32 d.2.1 ++ encCredit d.2.2) s.cs.lastDecision ++
  encOpt encTemp s.cs.tk ++ encSensor s.cs.sensor ++ encFlag s.cs.warm

/-- Section TIME (R182). The stable-edge timer is a running flag, DESIGN CHOICE [10]; the link's own released flag is clear
by now, DESIGN CHOICE [47]. -/
def timeSection (s : State) : List Byte :=
  enc32 s.tu.rtc ++ encFlag s.tu.timeSet ++ encU8 (sourceClockCode s.tu.source) ++ encFlag s.tu.degraded ++
  encFlag s.tu.stableDue.isSome ++ encU8 (resetCauseCode s.tu.lastCause) ++ encFlag s.tu.kporFlag ++
  encU8 (modeCode s.tu.mode) ++ encFlag s.portV.released ++ encFlag s.portB.released ++ encFlag s.tu.postExit ++
  encFlag s.tu.dozeDue.isSome ++ encNat32 (secondsLeft s.tu.dozeDue s) ++
  encOpt (fun w => encU8 (wakeCauseCode w.1) ++ enc32 w.2) s.tu.lastWake

/-- An outcome: its status code, and the count of an acknowledgement (R189, R192). -/
def encOutcome (o : ActionOutcome) : List Byte := [statusCode o.status] ++ encOpt encCount o.count

/-- The last action (R189), its handset id and key as the bytes received: DESIGN CHOICE [10]. -/
def encLastAction (a : LastAction) : List Byte :=
  encU8 (bunkCode a.bunk) ++ [a.id, a.key] ++ encOutcome a.outcome ++ enc32 a.time

/-- Section HANDSET (R194). A handset id and a key are the bytes received: DESIGN CHOICE [10]. -/
def handsetSection (s : State) : List Byte :=
  encU8 (rxCode s.hr.rx) ++ encOpt (fun i => [i]) s.hr.paired.lower ++ encOpt (fun i => [i]) s.hr.paired.upper ++
  encOpt (fun w => encU8 (bunkCode w.1)) s.hr.window ++ encNat32 (secondsLeft (s.hr.window.map (·.2)) s) ++
  encOpt (fun f => [f.id, f.key]) s.hr.lastFrame ++ encOpt encLastAction s.hr.lastAction

/-- The debounced state is ACTIVE or INACTIVE, in that order (R190). -/
def encInput (x : EventInput) : List Byte :=
  encU8 (polarityCode x.config.polarity) ++ encU8 (inputKindCode x.config.kind) ++ encFlag x.config.debounce ++
  encSet [x.config.noticeV, x.config.noticeB, x.config.wake] ++ encU8 (if x.active then 0 else 1) ++
  encOpt enc32 x.lastEvent

def encFixed (o : Option (ActionOutcome × RtcTime)) : List Byte := encOpt (fun x => encOutcome x.1 ++ enc32 x.2) o

/-- Section INPUTS (R194). -/
def inputSection (s : State) : List Byte :=
  s.ei.inputs.toList.flatMap encInput ++ encFixed s.ei.doorOutcome ++ encFixed s.ei.lowerOutcome ++
  encFixed s.ei.upperOutcome

/-- The contents of a section; there are seven (R207). -/
def statusSection (n : Nat) (s : State) : Option (List Byte) :=
  match n with
  | 0 => some (chargeSection s)
  | 1 => some (channelSection s)
  | 2 => some (heaterSection s)
  | 3 => some (fridgeSection s)
  | 4 => some (timeSection s)
  | 5 => some (handsetSection s)
  | 6 => some (inputSection s)
  | _ => none

/-- STATUS_READ: a response of section CHARGE clears the over-range flag (R2, R207). -/
def readStatus (n : Nat) (s : State) : Reply :=
  match statusSection n s with
  | none => refuse .notFound s
  | some body => ⟨if n = 0 then { s with cm.overRange := false } else s, .ok, statusHeader s ++ body⟩

/-! ### BUDGET_READ (R21, R54) -/

def encReview (f : ReviewFigures) : List Byte :=
  enc32 f.time ++ encInt32 f.mean ++ encInt32 f.free ++ encNat32 f.horizon ++ encNat32 f.demand ++ encInt32 f.headroom ++
  encFlag f.surplus ++ encFlag f.deficit ++ encFlag f.breach ++ encCount f.nShed ++ encCount f.nRestored

def chargeFigures (s : State) : List Byte :=
  encNat32 s.cm.q ++ encNat32 s.cm.r ++ encFlag s.cm.seeded ++ encFlag s.cm.qStale ++ encTemp (tbInUse s) ++
  encSensor s.cm.sensor ++ encNat32 (factor s) ++ encNat32 (usable s) ++ encNat32 s.policy.p02 ++
  encInt32 (freeCharge s) ++ encInt32 s.cm.latestI ++ encNat32 s.cm.latestV ++ encInt32 s.cm.winMean ++
  encFlag s.cm.voltageFloor

/-- The number of SHED entries. -/
def shedCount (s : State) : Nat := s.au.table.countP (fun g => g.state == .shed)

def tableFigures (s : State) : List Byte :=
  encReview s.au.last ++ encNat32 (demand s) ++ encInt32 (headroom s) ++ encNat32 (horizon s) ++
  encCount s.au.table.length ++ encCount (externalCount s) ++ encCount (shedCount s) ++ encU8 s.au.pointer ++
  encFlag s.au.deficit ++ encFlag s.au.breach ++ encOpt enc32 s.au.breachTime ++ encFlag s.au.reserveLow

def readBudget (s : State) : Reply := ⟨s, .ok, chargeFigures s ++ tableFigures s⟩

/-! ### GRANT_PROBE (R25, R47) -/

def encGrant (s : State) (g : Grant) : List Byte :=
  encU8 g.pos ++ encU8 (loadCode g.load) ++ encU8 (purposeCode g.purpose) ++ encU8 (requesterCode g.requester) ++
  encU8 (originCode g.origin) ++ encLevel g.req ++ encLevel g.eff ++ encNat32 (drawRate s g) ++ encOpt enc32 g.start ++
  encOpt enc32 g.endTime ++ encU8 (shedClass g.load g.purpose) ++ encU8 (grantStateCode g.state) ++
  encOpt enc32 g.shedTime ++ encNat32 (projection s (horizon s) g)

/-! ### CHECK_READ (R72) -/

def encWiring (r : WiringReport) : List Byte :=
  encU8 (if r.completed then 0 else 1) ++ enc32 r.startTime ++ enc32 r.endTime ++
  r.results.toList.flatMap (fun x => encU8 (wiringClassCode x.cls)) ++
  r.results.toList.flatMap (fun x => encNat32 x.peak)

/-! ### ACCOUNT_READ (R114, R127, R135) -/

def encIdentity (r : Identity) (i : Fin 4) : List Byte :=
  enc16 r.key ++ encU8 (slotCode r.slot) ++ encU8 (activityCode r.activity) ++ enc32 r.activityStart ++
  enc32 r.lastUpdate ++ encNat32 r.continuous ++ encNat32 r.daily ++ encNat32 r.breakSeg ++ encFlag r.breakQualified ++
  encFlag r.firstPart ++ encNat32 r.restSeg ++ encFlag r.restRegular ++ encFlag r.restWeekly ++
  encOpt enc32 r.lastRestEnd ++ encCount r.reducedUsed ++
  encOpt (fun c => encU8 (warnKindCode (shortKind c.1)) ++ encU8 (warnTargetCode (shortTarget i c.2))) r.shortRest ++
  encFlag r.timeUncertain ++ enc32 r.lastActivity

def encConds (c : DriverConds) : List Byte := encSet [c.breakSoon, c.breakDue, c.daySoon, c.dayDue]

/-- A record, its conditions and the moving flag (R135); the segments stand once, among the fields of R114: DESIGN
CHOICE [10]. -/
def accountFigures (i : Fin 4) (s : State) : List Byte :=
  (match record i s with | some r => encIdentity r i | none => []) ++ encConds s.rm.conds[i] ++ encFlag s.rm.moving

def encRest (b : Bunk) (r : BunkRest) (s : State) : List Byte :=
  encU8 r.record.val ++ enc32 r.start ++ encOpt enc32 r.plannedEnd ++ encFlag r.prewarm ++ encCount r.snoozes ++
  encU8 (prewarmCode r.prewarmState) ++ encFlag (quietNow b s) ++
  encOpt (fun p => enc32 (plusSecs p 1800)) r.plannedEnd ++ encFlag (s.rm.holder == some b)

/-! ### WARNING_LIST (R153) -/

def encWarning (w : Warning) : List Byte :=
  encU8 (warnKindCode w.kind) ++ encU8 (warnTargetCode w.target) ++ enc32 w.raiseTime ++
  encU8 (warnLevelCode w.level) ++ encFlag w.acked ++ encOpt enc32 w.lastPlay ++
  encSet [deliveredV w.target, deliveredB w.target]

/-- The chime: idle, or playing with the pattern and its entry after that byte (R153): DESIGN CHOICE [10]. -/
def encChime : Chime → List Byte
  | .idle _ => encU8 0
  | .playing p k t _ => encU8 1 ++ encU8 (chimePatternCode p) ++ encU8 (warnKindCode k) ++ encU8 (warnTargetCode t)

/-- The flash of a bunk (R153): the entry's state and the phase, on before off, are optional fields: DESIGN CHOICE [10]. -/
def encFlash (b : Bunk) (s : State) : List Byte :=
  encFlag (flashWanted b s) ++ encFlag (flashPlaced b s) ++
  encOpt (fun g => encU8 (grantStateCode g.state)) (findGrant (bunkZone b) .warning s) ++
  encOpt (fun c => encU8 (if c.1 then 0 else 1)) (s.wu.flash.get b).cycle ++ encFlag (s.wu.flash.get b).givenUp

def encSunrise (b : Bunk) (s : State) : List Byte :=
  encU8 (sunriseCode (s.wu.sunrise.get b).state) ++ encU8 (s.wu.sunrise.get b).ramp

def warningFigures (s : State) : List Byte :=
  encList encWarning s.wu.list ++ encChime s.wu.chime ++ encFlash .lower s ++ encFlash .upper s ++ encSunrise .lower s ++
  encSunrise .upper s

/-! ### FAULT_READ (R166) -/

/-- A capture; its measured value takes 4 bytes, signed, whatever its source (R156, R166): DESIGN CHOICE [10]. -/
def encCapture (c : Capture) : List Byte :=
  encU8 (sourceCode c.report.source) ++ encU8 (faultCodeCode c.report.code) ++ encInt32 c.report.measured ++
  encU8 (detectCode c.report.detect) ++ encFlag c.report.restartable ++
  encOpt (fun l => encU8 (loadCode l)) (sourceLoad c.report.source) ++ enc32 c.time

/-- Whether the condition of a recorded cause still holds (R165). -/
def causeHolds (c : HoldCause) (s : State) : Bool :=
  match c with
  | .doubleFault | .holdRequest => false
  | .chargePathLost => s.cm.pathLost
  | .voltageCollapse => s.cm.voltageFloor

def allCauses : List HoldCause := [.doubleFault, .chargePathLost, .holdRequest, .voltageCollapse]

/-- The set of the hold causes (R197); that the time of each cause in it, with whether its condition still holds, follows the
set in the causes' order is a DESIGN CHOICE [10]. -/
def encCauses (s : State) : List Byte :=
  encSet (allCauses.map (fun c => (holdCause c s).isSome)) ++
  allCauses.flatMap (fun c => match holdCause c s with | some t => enc32 t ++ encFlag (causeHolds c s) | none => [])

def encHoldRecord (h : HoldRecord) : List Byte :=
  encU8 (sourceCode h.source) ++ encU8 (faultCodeCode h.code) ++ enc32 h.time

def encSuspension (e : Suspension) : List Byte :=
  encU8 (loadCode e.load) ++ encFlag e.restartable ++ encFlag e.tied ++ encU8 (sourceCode e.source) ++
  encU8 (faultCodeCode e.code)

def faultFigures (s : State) : List Byte :=
  encOpt encCapture s.fu.record ++ encFlag s.fu.record.isSome ++ encFlag (inHold s) ++ encOpt enc32 s.fu.entryTime ++
  encCauses s ++ encOpt encHoldRecord s.fu.holdRecord ++ encList encSuspension s.fu.susp

end Sys2Proof.Machine
end

