-- ==== Sys2Proof/Machine/LinkCmds.lean ====
section
/-! DEFINITION. The commands of the link ports (R176, R180, R195 to R202, R207, R208). -/

namespace Sys2Proof.Machine

/-- Every command of this part goes on: its outcome is a next state. -/
abbrev Result := Host.Outcome State Fault Refusal

/-- The transfer that is open ends without an answer and without output. -/
def dropTransfer (l : Link) (s : State) : State := mapPort l (fun p => { p with transfer := .none }) s

/-- A host asserts the select line (R176, R180, R195); one transfer at a time on a link. -/
def transferStart (l : Link) (s : State) : State :=
  match (port l s).transfer with
  | .none => beginTransfer l s
  | .open_ _ | .lost => s

def execTransferStart (l : Link) (s : State) : Result := .next (transferStart l s)

/-- A transfer that carries no byte: no response, and the released flag stands (R195). -/
def emptyTransfer (l : Link) (s : State) : State :=
  let s := openTransfer l s
  match (port l s).transfer with
  | .open_ _ => endTransfer l (mapPort l (fun p => { p with out := [] }) s)
  | .none | .lost => dropTransfer l s

/-- A request transfer that the port answers by itself with this status, or WAKING (R180, R196, R198, R208). -/
def answerPort (l : Link) (kind : Byte) (st : Status) (s : State) : State :=
  let s := openTransfer l s
  match (port l s).transfer with
  | .open_ waking => answer l kind (refuse (if waking then .waking else st) (clearReleased l s))
  | .none | .lost => dropTransfer l s

/-- The response a FETCH clocks out of a slot (R199). -/
def fetchedResponse (slot : Option Response) : Response := slot.getD ⟨.empty, 0x01#8, []⟩

/-- The port at the end of a FETCH: the bytes clocked out, and the slot emptied if the whole response was (R199). -/
def fetchPort (clocked : Nat) (p : Port) : Port :=
  let r := fetchedResponse p.slot
  { p with
    out := (p.out.take 1 ++ encResponse r).take clocked
    slot := if r.payload.length + 5 ≤ clocked then none else p.slot }

/-- FETCH (R180, R199). -/
def fetch (l : Link) (clocked : Nat) (s : State) : State :=
  let s := openTransfer l s
  match (port l s).transfer with
  | .open_ waking => endTransfer l (if waking then s else mapPort l (fetchPort clocked) s)
  | .none | .lost => dropTransfer l s

def execFetch (l : Link) (clocked : Nat) (s : State) : Result := .next (fetch l clocked s)

/-- NOTICES: the mask is reported and cleared, and a LEVEL input sets INPUT again (R191, R200). -/
def readNotices (l : Link) (s : State) : Reply :=
  let p := port l s
  let cleared := mapPort l (fun p => { p with notices := 0#32 }) s
  let s' := if hasNotice .input p && levelInputs l s then notify l .input cleared else cleared
  ⟨s', .ok, enc32 p.notices⟩

def execNotices (l : Link) (s : State) : Result := .next (serve l 0x02#8 (readNotices l) s)

/-- NOTICE_ENABLE (R201). -/
def enableNotices (l : Link) (mask : BitVec 32) (s : State) : Reply :=
  let m := mask &&& allNotices
  ⟨mapPort l (fun p => { p with enables := m }) s, .ok, enc32 m⟩

def execNoticeEnable (l : Link) (mask : BitVec 32) (s : State) : Result :=
  .next (serve l 0x03#8 (enableNotices l mask) s)

/-- The other link. -/
def otherLink : Link → Link
  | .v => .b
  | .b => .v

/-- RELEASE (R176, R202). -/
def releaseLink (l : Link) (s : State) : Reply :=
  ⟨mapPort l (fun p => { p with released := true }) s, .ok,
    encFlag true ++ encFlag (port (otherLink l) s).released⟩

def execRelease (l : Link) (s : State) : Result := .next (serve l 0x04#8 (releaseLink l) s)

def execStatusRead (l : Link) (section_ : Byte) (s : State) : Result :=
  .next (serve l 0x05#8 (readStatus section_.toNat) s)

/-- RESTART, taken at the end of its transfer, keeps no response: the main reset begins (R208). Where it is not taken it
is answered like any request. -/
def restartPart (l : Link) (s : State) : State :=
  let s := openTransfer l s
  match (port l s).transfer with
  | .open_ false => if permitted l 0x5F#8 then mainReset .restart (dropTransfer l s) else serve l 0x5F#8 taken s
  | .open_ true | .none | .lost => serve l 0x5F#8 taken s

def execRestart (l : Link) (s : State) : Result := .next (restartPart l s)

end Sys2Proof.Machine
end

