-- ==== Sys2Proof/Machine/ChargeCmds.lean ====
section
/-! DEFINITION. The commands of the Charge Monitor (R1 to R21) and BUDGET_READ (R21, R54). -/

namespace Sys2Proof.Machine

def execBudgetRead (l : Link) (s : State) : Result := .next (serve l 0x06#8 readBudget s)

def execSeedCharge (l : Link) (q : BitVec 32) (s : State) : Result :=
  .next (serve l 0x38#8 (fun s => taken (seed q.toNat s)) s)

def execConversion (shunt volt : Int) (pass : Bool) (s : State) : Result :=
  .next (unlessReset (fun s => conversionAt s.cm.convDue shunt volt pass s) s)

/-- The full detector fires at this conversion, 600 s after its start time or later (R12, R13) [5]. -/
def fullDetection (shunt volt : Int) (s : State) : State :=
  match s.cm.fullStart with
  | some st =>
    if !s.cm.pathLost && !s.cm.fullLatched && fullMet s.policy (shuntSample shunt) (voltSample volt) then
      conversionAt (max s.cm.convDue (st + secs 600)) shunt volt true s
    else s
  | none => s

def execFullDetection (shunt volt : Int) (s : State) : Result := .next (unlessReset (fullDetection shunt volt) s)

/-- The floor detector fires at this conversion, 30 s after its start time or later (R12, R14, R15) [5]. -/
def floorCorrection (shunt volt : Int) (s : State) : State :=
  match s.cm.floorStart with
  | some st =>
    if !s.cm.pathLost && !s.cm.voltageFloor && !engineRuns s &&
        floorMet s.policy (shuntSample shunt) (voltSample volt) then
      conversionAt (max s.cm.convDue (st + secs 30)) shunt volt true s
    else s
  | none => s

def execFloorCorrection (shunt volt : Int) (s : State) : Result := .next (unlessReset (floorCorrection shunt volt) s)

/-- The floor-clear detector fires at this conversion, 60 s after its start time or later (R12, R16) [5]. -/
def floorClear (shunt volt : Int) (pass : Bool) (s : State) : State :=
  match s.cm.clearStart with
  | some st =>
    if s.cm.voltageFloor && clearMet s.policy (voltSample volt) then
      conversionAt (max s.cm.convDue (st + secs 60)) shunt volt pass s
    else s
  | none => s

def execVoltageFloorClear (shunt volt : Int) (pass : Bool) (s : State) : Result :=
  .next (unlessReset (floorClear shunt volt pass) s)

/-- A battery temperature result (R3). -/
def battTemp (result : TempResult) (s : State) : State :=
  let s := reach s.cm.tempDue s
  let x := sensorStep (-40) 85 s.cm.sensor result
  let s := { s with cm.tempDue := s.tu.clock + secs 1, cm.sensor := x.1 }
  match x.2 with
  | .value t => { s with cm.tb := t }
  | .keep => s
  | .failed code => takeFault (sensorReport .battTemp code (.chargePath s.cm.pathLost) true) s

def execBattTempConversion (result : TempResult) (s : State) : Result := .next (unlessReset (battTemp result) s)

end Sys2Proof.Machine
end

