-- ==== Sys2Proof/Machine/GrantCmds.lean ====
section
/-! DEFINITION. The commands of the Admission Unit (R32 to R48). -/

namespace Sys2Proof.Machine

def linkRequester : Link → Requester
  | .v => .linkV
  | .b => .linkB

/-- AU's answer as the host gets it (R35, R36): the figures of an admitted entry, the shortfall of NO_HEADROOM. -/
def grantReply (load : Load) (purpose : Purpose) (a : Admitted) : Reply :=
  match a.status with
  | .noHeadroom => ⟨a.state, .noHeadroom, encInt32 a.shortfall⟩
  | .ok | .reduced =>
    match findGrant load purpose a.state with
    | some g =>
      ⟨a.state, a.status, encU8 g.pos ++ encLevel g.eff ++ encNat32 (drawRate a.state g) ++ encNat32 a.projected ++
        encInt32 a.headroom⟩
    | none => ⟨a.state, a.status, []⟩
  | st => ⟨a.state, st, []⟩

/-- GRANT_REQUEST from a link (R32). -/
def requestGrant (l : Link) (load : Load) (purpose : Purpose) (origin : Origin) (level : Level)
    (endTime : Option RtcTime) (s : State) : Reply :=
  if purpose ≠ .comfort ∨ load = .fridge then refuse .notPermitted s
  else
    grantReply load purpose (grantAsk
      { load := load, purpose := purpose, requester := linkRequester l, origin := origin, level := level
        start := none, endTime := endTime } s)

def execGrantRequest (l : Link) (load : Load) (purpose : Purpose) (origin : Origin)
    (level setpoint maxStage : Byte) (endTime : Option RtcTime) (s : State) : Result :=
  .next (serve l 0x10#8
    (requestGrant l load purpose origin (normalLevel load level.toNat setpoint.toNat maxStage.toNat) endTime) s)

/-- GRANT_PROBE (R47). -/
def probeGrant (load : Load) (purpose : Purpose) (s : State) : Reply :=
  match findGrant load purpose s with
  | some g => ⟨s, .ok, encGrant s g⟩
  | none => refuse .notFound s

def execGrantProbe (l : Link) (load : Load) (purpose : Purpose) (s : State) : Result :=
  .next (serve l 0x11#8 (probeGrant load purpose) s)

/-- Who may revoke a purpose (R47). -/
def mayRevoke (l : Link) : Purpose → Bool
  | .comfort => true
  | .schedule | .courtesy => match l with | .v => true | .b => false
  | .cooling | .purge | .warning => false

/-- GRANT_REVOKE (R47). -/
def revokeGrant (l : Link) (load : Load) (purpose : Purpose) (s : State) : Reply :=
  if mayRevoke l purpose then
    match findGrant load purpose s with
    | some _ => taken (removeEntry load purpose .revoked s)
    | none => refuse .notFound s
  else refuse .notPermitted s

def execGrantRevoke (l : Link) (load : Load) (purpose : Purpose) (s : State) : Result :=
  .next (serve l 0x12#8 (revokeGrant l load purpose) s)

def execReview (s : State) : Result := .next (unlessReset review s)

def execGrantEndReached (load : Load) (purpose : Purpose) (s : State) : Result :=
  .next (unlessReset (expireGrant load purpose) s)

def execGrantStartReached (load : Load) (purpose : Purpose) (s : State) : Result :=
  .next (unlessReset (startGrant load purpose) s)

end Sys2Proof.Machine
end

