-- ==== Sys2Proof/Machine/ChannelCmds.lean ====
section
/-! DEFINITION. The commands of the Channel Array (R56 to R73). -/

namespace Sys2Proof.Machine

/-! ### CLEAR_CHANNEL (R66, R67, R161) -/

/-- The LOCKED channel returns to OFF, and its driver hears of it (R66, R90). -/
def returnChannel (n : Fin 12) (s : State) : State :=
  let s := setChan n (unlockChannel n s.tu.clock (chan n s)) s
  if n.val = 1 then fanUnlocked s else s

/-- The suspension entry of a load. -/
def suspensionOf (load : Load) (s : State) : Option Suspension := s.fu.susp.find? (fun e => e.load == load)

/-- FU releases an untied suspension whose cause is cleared (R161). -/
def releaseUntied (load : Load) (cleared : FaultSource → Bool) (s : State) : State :=
  match suspensionOf load s with
  | some e => if !e.tied && cleared e.source then releaseSuspension e s else s
  | none => s

/-- The record holds an unacknowledged capture whose source passes the test. -/
def captureFrom (test : FaultSource → Bool) (s : State) : Bool :=
  match s.fu.record with | some c => test c.report.source | none => false

/-- CLEAR_CHANNEL (R67). -/
def clearChannel (ch : Nat) (s : State) : Reply :=
  if h : ch < 12 then
    let n : Fin 12 := ⟨ch, h⟩
    if (chan n s).state != .locked || captureFrom (· == .channel n) s then refuse .condition s
    else taken (releaseUntied (channelLoad n) (fun _ => true) (returnChannel n s))
  else refuse .notFound s

def execClearChannel (l : Link) (channel : Byte) (s : State) : Result :=
  .next (serve l 0x53#8 (clearChannel channel.toNat) s)

/-! ### Wiring check (R68 to R72) -/

/-- The conditions of WIRING_CHECK (R68). -/
def mayCheck (s : State) : Bool :=
  s.ca.chans.toList.all (fun c => c.state == .off) && (s.hs.phase == .off || s.hs.phase == .lockout) &&
  !s.hs.purgeOwed && s.cs.run.isNone

/-- The step of a channel begins (R69). -/
def beginStep (n : Fin 12) (start : RtcTime) (results : Vector WiringResult 12) (s : State) : State :=
  let run : WiringRun :=
    { underTest := n, rating := rating s.policy n, stepDue := s.tu.clock + millis 100, startTime := start
      results := results }
  testChannels n { s with ca.check := some run }

/-- WIRING_CHECK (R68). -/
def startCheck (s : State) : Reply :=
  if mayCheck s then taken (syncDoze (beginStep 0 (now s) notTested { s with ca.results := none }))
  else refuse .condition s

def execWiringCheck (l : Link) (s : State) : Result := .next (serve l 0x54#8 startCheck s)

/-- CHECK_READ (R72). -/
def readCheck (s : State) : Reply :=
  if s.ca.check.isSome then refuse .testing s
  else
    match s.ca.results with
    | some r => ⟨s, .ok, encWiring r⟩
    | none => refuse .notFound s

def execCheckRead (l : Link) (s : State) : Result := .next (serve l 0x55#8 readCheck s)

/-- The step ends with this result: the next begins, or the check is completed (R69, R70). -/
def endStep (cls : WiringClass) (peak : Nat) (run : WiringRun) (s : State) : State :=
  let results := run.results.set run.underTest ⟨cls, peak⟩
  let c := chan run.underTest s
  let s := setChan run.underTest { c with lastCurrent := peak } s
  if h : run.underTest.val + 1 < 12 then beginStep ⟨run.underTest.val + 1, h⟩ run.startTime results s
  else finishCheck true run results s

/-- A trip of the channel under test (R69). -/
def tripStep (n : Fin 12) (current : Nat) (s : State) : State :=
  match s.ca.check with
  | some run => if run.underTest = n then endStep .short current run s else s
  | none => s

/-- The step ends by a trip, whose current is above the inrush limit, or by its 100 ms (R69). -/
def wiringStepEnd (tripped : Bool) (peak : Nat) (s : State) : State :=
  match s.ca.check with
  | none => s
  | some run =>
    if tripped then (if inrushLimit run.rating < peak then endStep .short (senseReading peak) run s else s)
    else if peak < shortThreshold run.rating then
      endStep (classifyPeak run.rating peak) peak run (reach run.stepDue s)
    else s

def execWiringStepEnd (tripped : Bool) (peak : Nat) (s : State) : Result :=
  .next (unlessReset (wiringStepEnd tripped peak) s)

/-! ### Trips (R62 to R64) -/

/-- The rated current the limits of a channel come from: in TEST that of the step's start (R56, R69). -/
def ratingInForce (n : Fin 12) (s : State) : Nat :=
  match (chan n s).state, s.ca.check with
  | .test, some run => run.rating
  | _, _ => rating s.policy n

/-- The short detector fires in every driving state (R62, R69). -/
def channelShort (n : Fin 12) (current : Nat) (s : State) : State :=
  let i := senseReading current
  if shortThreshold (ratingInForce n s) ≤ i then
    match (chan n s).state with
    | .starting | .on => tripOn n .short i s
    | .test => tripStep n i s
    | .off | .tripped | .locked => s
  else s

def execChannelShort (ch : Fin 12) (current : Nat) (s : State) : Result :=
  .next (unlessReset (channelShort ch current) s)

/-- The overcurrent detector fires above the limit of the state; at the short threshold the short detector has fired
already (R62). -/
def channelOvercurrent (n : Fin 12) (current : Nat) (s : State) : State :=
  let i := senseReading current
  let r := ratingInForce n s
  if i < shortThreshold r then
    match (chan n s).state with
    | .starting => if inrushLimit r < i then tripOn n .overcurrent i s else s
    | .on => if runLimit r < i then tripOn n .overcurrent i s else s
    | .test => if inrushLimit r < i then tripStep n i s else s
    | .off | .tripped | .locked => s
  else s

def execChannelOvercurrent (ch : Fin 12) (current : Nat) (s : State) : Result :=
  .next (unlessReset (channelOvercurrent ch current) s)

/-! ### Timers of a channel (R58, R59, R63) -/

/-- The inrush window ends with the channel in STARTING: ON, trip count 0 (R59). -/
def inrushEnd (n : Fin 12) (s : State) : State :=
  let c := chan n s
  match c.state, c.inrushDue with
  | .starting, some due =>
    setChan n { c with state := .on, tripCount := 0, inrushDue := none } (reach due s)
  | _, _ => s

def execInrushWindowEnd (ch : Fin 12) (s : State) : Result := .next (unlessReset (inrushEnd ch) s)

/-- The retry timer expires: STARTING with a non-zero target, OFF with a zero one, the trip count kept (R63). -/
def retryExpiry (n : Fin 12) (s : State) : State :=
  let c := chan n s
  match c.state, c.retryDue with
  | .tripped, some due =>
    let s := reach due s
    setChan n
      (if c.target = 0 then { c with state := .off, retryDue := none } else enterStarting n s.tu.clock c) s
  | _, _ => s

def execRetryTimerExpiry (ch : Fin 12) (s : State) : Result := .next (unlessReset (retryExpiry ch) s)

/-! ### Open load (R65) -/

/-- The open-load detector fires: the first in the activation sets the flag and the notice (R65). -/
def openLoadFires (n : Fin 12) (s : State) : State :=
  let c := chan n s
  if c.openLoad then s else notifyBoth .openLoad (setChan n { c with openLoad := true } s)

/-! ### Fades and pulses (R60) -/

/-- A level moved toward another by at most `k`. -/
def towards (target k level : Nat) : Nat :=
  if level ≤ target then min target (level + k) else max target (level - k)

/-- The distance of two levels. -/
def levelGap (a b : Nat) : Nat := (a - b) + (b - a)

/-- The output level of a faded lamp moves at 255 levels per 300 ms, which is 17 levels in 20 ms (R60); the time of a
step is rounded up to a microsecond, DESIGN CHOICE [50]. -/
def fade (n : Fin 12) (levels : Nat) (s : State) : State :=
  let c := chan n s
  let k := min levels (levelGap c.output c.target)
  if isFaded n ∧ (c.state = .starting ∨ c.state = .on) ∧ 0 < k then
    let s := reach (c.fadeAt + ceilDiv (k * 20000) 17) s
    setChan n { c with output := towards c.target k c.output, fadeAt := s.tu.clock } s
  else s

def execFade (ch : Fin 12) (levels : Nat) (s : State) : Result := .next (unlessReset (fade ch levels) s)

/-- A time in the 39ths of a microsecond in which pump pulses are timed, since the pulse periods of R79 and R80 (30, 40, 45,
65 and 90 a minute) are whole numbers of them: DESIGN CHOICE [50]. -/
def pumpTime (t : Nat) : Nat := 39 * t

/-- The internal-clock time at or after a pump time. -/
def clockOfPump (p : Nat) : Nat := ceilDiv p 39

/-- The pump time of the next pulse: one period of the rate in force after the last, and not before the clock `t` (R60). The
first pulse of a drive comes at once: DESIGN CHOICE [50]. -/
def nextPulse (c : Channel) (t : Nat) : Nat :=
  match c.pulseAt with
  | some p => max (pumpTime t) (p + pumpTime (mins 1) / c.output)
  | none => pumpTime t

/-- The open-load timing of CH2 judges a pulse at pump time `p` (R65). -/
def judgePulse (low : Bool) (p : Nat) (c : Channel) : Option Nat × Bool :=
  if c.state = .on ∧ low then
    match c.lowSince with
    | none => (some p, false)
    | some st => (some st, decide (st + pumpTime (secs 2) ≤ p))
  else (none, false)

/-- CH2 drives its next pulse, at the rate last handed from this pulse on (R60, R65). -/
def fuelPumpPulse (current : Nat) (s : State) : State :=
  let c := chan 2 s
  if c.state = .starting ∨ c.state = .on then
    let i := senseReading current
    let p := nextPulse c s.tu.clock
    let s := reach (clockOfPump p) s
    let j := judgePulse (decide (i < openLimit (rating s.policy 2))) p c
    let s := setChan 2 { c with output := c.target, pulseAt := some p, lastCurrent := i, lowSince := j.1 } s
    if j.2 then openLoadFires 2 s else s
  else s

def execFuelPumpPulse (current : Nat) (s : State) : Result := .next (unlessReset (fuelPumpPulse current) s)

/-! ### The open-load detector's firing (R65) -/

/-- CH2's detector fires at a pulse: the next one is low, and 2 s or more after the timing began (R65). -/
def pumpFires (s : State) : Bool :=
  let c := chan 2 s
  match c.lowSince with
  | some st => st + pumpTime (secs 2) ≤ nextPulse c s.tu.clock
  | none => false

/-- A channel in ON with a non-zero target has drawn below its limit for 2 s (R65). For CH2 the command is the pulse at
which the detector fires, with that pulse's current; it changes nothing where the next pulse is no such pulse [2]. -/
def openLoad (n : Fin 12) (current : Nat) (s : State) : State :=
  let c := chan n s
  if c.state = .on ∧ c.target ≠ 0 ∧ current < openLimit (rating s.policy n) then
    if n.val = 2 then (if pumpFires s then fuelPumpPulse current s else s)
    else openLoadFires n (setChan n { c with lastCurrent := current } s)
  else s

def execOpenLoadDetected (ch : Fin 12) (current : Nat) (s : State) : Result :=
  .next (unlessReset (openLoad ch current) s)

end Sys2Proof.Machine
end

