-- ==== Sys2Proof/Machine/HeaterCmds.lean ====
section
/-! DEFINITION. The commands of the Heater Sequencer (R76 to R92). -/

namespace Sys2Proof.Machine

/-! ### CLEAR_LOCKOUT (R92, R161) -/

/-- The sources whose unacknowledged capture holds CLEAR_LOCKOUT back (R92); they make a heater hold too (R93). -/
def holdsLockout (s : State) : Bool := captureFrom isHeaterSource s

/-- The sources whose untied suspension a CLEAR_LOCKOUT releases (R161). -/
def clearedByLockout : FaultSource → Bool
  | .heater | .flameTemp => true
  | .channel _ | .charge | .battTemp | .cabinTemp | .cabinetTemp | .timebase => false

/-- CLEAR_LOCKOUT (R92): HS acts by phase, then FU releases the untied suspension (R161), an order of the model's [16]. -/
def clearLockout (s : State) : Reply :=
  if s.hs.lockout.isNone || holdsLockout s || (s.hs.purgeOwed && (chan 1 s).state == .locked) then
    refuse .condition s
  else taken (releaseUntied .heater clearedByLockout (clearLockoutPhase s))

def execClearLockout (l : Link) (s : State) : Result := .next (serve l 0x52#8 clearLockout s)

/-! ### Purges that follow a phase (R79, R82, R83) -/

/-- HS enters PURGE, and AU forms the merged heater grant again with the PURGE entry in the table (R52, R84). -/
def purgeAndMerge (follow : FollowOn) (cause : Option LockCause) (s : State) : State :=
  mergeHeater (enterPurge follow false cause s)

/-- A fault of HS itself (R79, R83). -/
def heaterReport (code : FaultCode) (phase : HeaterPhase) (s : State) : FaultReport :=
  { source := .heater, code := code, measured := s.hs.tf.getD 0, detect := .heater phase, restartable := false }

/-! ### Temperatures (R76) -/

/-- The satisfied test at a cabin result (R82). -/
def satisfiedTest (t : Int) (s : State) : State :=
  let holds : Bool := match s.hs.stage, s.hs.merged with
    | some 1, some m => decide ((m.setpoint : Int) + 2 ≤ t)
    | _, _ => false
  { s with hs.satisfiedDue := if holds then some (s.hs.satisfiedDue.getD (s.tu.clock + mins 5)) else none }

/-- A cabin temperature in use: STANDBY, the satisfied test, and the fridge's rate mode (R82, R101). -/
def cabinValue (t : Int) (s : State) : State :=
  let s := { s with hs.tc := some t }
  let s := match s.hs.phase with
    | .standby => standbyRestart s
    | .run => satisfiedTest t s
    | .off | .preheat | .ignite | .purge | .lockout => s
  cabinToFridge t s

/-- The cabin sensor is FAILED: Tc is absent, the satisfied test stops, STANDBY restarts (R76, R82). -/
def cabinFailed (code : FaultCode) (s : State) : State :=
  let r := sensorReport .cabinTemp code (.heater s.hs.phase) true
  let s := { s with hs.tc := none, hs.satisfiedDue := none }
  let s := match s.hs.phase with
    | .standby => enterPreheat s
    | .off | .preheat | .ignite | .run | .purge | .lockout => s
  takeFault r s

/-- A cabin temperature result (R76). R82 and R101 act at a cabin result; that an OPEN or SHORT result, or one while the
sensor is FAILED, is none that judges the last Tc is a DESIGN CHOICE [42]. -/
def cabinTemp (result : TempResult) (s : State) : State :=
  let s := reach s.hs.cabinDue s
  let x := sensorStep (-40) 85 s.hs.cabin result
  let s := { s with hs.cabinDue := s.tu.clock + secs 1, hs.cabin := x.1 }
  match x.2 with
  | .value t => cabinValue t s
  | .keep => s
  | .failed code => cabinFailed code s

def execCabinTempConversion (result : TempResult) (s : State) : Result := .next (unlessReset (cabinTemp result) s)

/-- The flame-out watch judges a flame temperature in RUN: it runs while the flame is proven and the temperature is below
60 °C (R83). -/
def judgeFlame (t : Int) (s : State) : State :=
  { s with hs.flameOutDue :=
      if s.hs.proven ∧ t < 60 then some (s.hs.flameOutDue.getD (s.tu.clock + secs 10)) else none }

/-- The flame-proven flag, then the flame-out watch, at a flame result in use in RUN (R80, R83). -/
def flameWatch (t : Int) (s : State) : State :=
  let proven := s.hs.proven || decide (60 ≤ t)
  judgeFlame t
    { s with
      hs.proven := proven
      hs.provenDue := if proven then none else s.hs.provenDue }

/-- An OPEN or SHORT flame result while the sensor is GOOD leaves Tf, and in RUN the watch judges that value (R83). A result
while the sensor is FAILED judges nothing. -/
def flameKept (s : State) : State :=
  match s.hs.phase, s.hs.tf with
  | .run, some t => if s.hs.flame.failed then s else judgeFlame t s
  | _, _ => s

/-- A flame temperature in use: flame detection, the watch, then overheat (R79, R80, R83, R87). -/
def flameValue (t : Int) (s : State) : State :=
  let hot := decide (250 ≤ t)
  let rises := hot && !s.hs.flameHot
  let s := { s with hs.tf := some t, hs.flameHot := hot }
  let s := match s.hs.phase with
    | .ignite => if s.hs.entryTemp + 15 ≤ t then enterRun s else s
    | .run => flameWatch t s
    | .off | .preheat | .purge | .standby | .lockout => s
  if rises then overheat s else s

/-- A flame temperature result (R76, R83, R88). -/
def flameTemp (result : TempResult) (s : State) : State :=
  let s := reach s.hs.flameDue s
  let x := sensorStep (-40) 400 s.hs.flame result
  let s := { s with hs.flameDue := s.tu.clock + secs 1, hs.flame := x.1 }
  match x.2 with
  | .value t => flameValue t s
  | .keep => flameKept s
  | .failed code => takeFault (sensorReport .flameTemp code (.heater s.hs.phase) false) (flameFailed s)

def execFlameTempConversion (result : TempResult) (s : State) : Result := .next (unlessReset (flameTemp result) s)

/-! ### Timers of the phases (R78 to R85) -/

/-- A phase timer expires in its phase. -/
def phaseExpiry (phase : HeaterPhase) (due : Option Nat) (act : State → State) (s : State) : State :=
  match due with
  | some d => if s.hs.phase = phase then act (reach d s) else s
  | none => s

def preheatExpiry (s : State) : State := phaseExpiry .preheat s.hs.preheatDue enterIgnite s

def execPreheatTimerExpiry (s : State) : Result := .next (unlessReset preheatExpiry s)

/-- The attempt has failed (R79). -/
def ignitionFails (s : State) : State :=
  let n := s.hs.attempts + 1
  let s := { s with hs.attempts := n }
  if n = 1 then purgeAndMerge .preheat none s
  else takeFault (heaterReport .ignitionFailed .ignite s) (purgeAndMerge .lockout (some .ignitionFailed) s)

def ignitionExpiry (s : State) : State := phaseExpiry .ignite s.hs.ignitionDue ignitionFails s

def execIgnitionTimerExpiry (s : State) : Result := .next (unlessReset ignitionExpiry s)

/-- HS chooses the stage again; the limit of a SAFE HOLD that has ended lifts now (R80, R81, R93). -/
def regulate (s : State) : State :=
  chooseStage
    { s with hs.holdLimit := s.hs.holdLimit && inHold s, hs.regulationDue := some (s.tu.clock + secs 30) }

def regulationExpiry (s : State) : State := phaseExpiry .run s.hs.regulationDue regulate s

def execRegulationTimerExpiry (s : State) : Result := .next (unlessReset regulationExpiry s)

/-- 180 s after RUN entry the flame is taken as proven (R80). -/
def provenExpiry (s : State) : State :=
  phaseExpiry .run s.hs.provenDue (fun s => { s with hs.proven := true, hs.provenDue := none }) s

def execFlameProvenTimeout (s : State) : Result := .next (unlessReset provenExpiry s)

/-- The satisfied test has held for 5 min (R82). -/
def satisfiedExpiry (s : State) : State := phaseExpiry .run s.hs.satisfiedDue (purgeAndMerge .standby none) s

def execSatisfiedTimeout (s : State) : Result := .next (unlessReset satisfiedExpiry s)

/-- The flame has gone out (R83). -/
def flameGone (s : State) : State :=
  let n := s.hs.flameOuts + 1
  let s := { s with hs.flameOuts := n }
  if n = 1 then purgeAndMerge .preheat none s
  else takeFault (heaterReport .flameOutRepeat .run s) (purgeAndMerge .lockout (some .flameOutRepeat) s)

def flameOutExpiry (s : State) : State := phaseExpiry .run s.hs.flameOutDue flameGone s

def execFlameOut (s : State) : Result := .next (unlessReset flameOutExpiry s)

/-- The first 30 s of a FULL purge end: the glow plug goes off (R84). -/
def glowOff (s : State) : State :=
  match s.hs.purge with
  | some run =>
    match run.glowDue with
    | some d =>
      let s := reach d s
      setTarget 0 0 { s with hs.purge := some { run with glowDue := none } }
    | none => s
  | none => s

def execPurgeGlowOff (s : State) : Result := .next (unlessReset glowOff s)

/-- The purge time runs out (R85). -/
def purgeExpiry (s : State) : State :=
  match s.hs.purge with
  | some run => completePurge (reach run.due s)
  | none => s

def execPurgeComplete (s : State) : Result := .next (unlessReset purgeExpiry s)

end Sys2Proof.Machine
end

