-- ==== Sys2Proof/Machine/FridgeCmds.lean ====
section
/-! DEFINITION. The commands of the Cold Store Controller (R99 to R108). -/

namespace Sys2Proof.Machine

def execFridgeSet (l : Link) (enable : Bool) (s : State) : Result :=
  .next (serve l 0x24#8 (fun s => taken (setFridge enable s)) s)

/-- A cabinet temperature in use, judged against T_high as P45 stands at this result (R100, R108, R112). -/
def cabinetValue (t : Int) (s : State) : State :=
  let s := { s with cs.tk := some t, cs.hot := decide ((s.policy.p45 : Int) ≤ t) }
  if s.cs.warm ∧ t ≤ (s.policy.p45 : Int) - 2 then clearWarm s else s

/-- The cabinet sensor is FAILED: Tk is absent and CABINET_WARM clears (R100, R108). -/
def cabinetFailed (code : FaultCode) (s : State) : State :=
  let r := sensorReport .cabinetTemp code (.fridge s.cs.run) true
  takeFault r (clearWarm { s with cs.tk := none, cs.hot := false })

/-- A cabinet temperature result (R100). -/
def cabinetTemp (result : TempResult) (s : State) : State :=
  let s := reach s.cs.tempDue s
  let x := sensorStep (-40) 85 s.cs.sensor result
  let s := { s with cs.tempDue := s.tu.clock + secs 1, cs.sensor := x.1 }
  match x.2 with
  | .value t => cabinetValue t s
  | .keep => s
  | .failed code => cabinetFailed code s

def execCabinetTempConversion (result : TempResult) (s : State) : Result :=
  .next (unlessReset (cabinetTemp result) s)

/-- The RTC has reached the next-due time: the due's own time is the next-due time (R102). -/
def slotDue (s : State) : State :=
  if slotReached s then slotFallsDue s.cs.nextDue (plusSecs s.cs.nextDue (slotInterval s * 60)) s else s

def execSlotDue (s : State) : Result := .next (unlessReset slotDue s)

/-- The run that may start now and is wanted first starts (R106) [6]. -/
def runStart (s : State) : State :=
  if mayRun s then
    match wantedRun s with
    | some k => beginRun k s
    | none => s
  else s

def execRunStart (s : State) : Result := .next (unlessReset runStart s)

/-- The run timer expires (R106). -/
def runExpiry (s : State) : State :=
  match s.cs.run, s.cs.runDue with
  | some k, some d => completeRun k (reach d s)
  | _, _ => s

def execRunComplete (s : State) : Result := .next (unlessReset runExpiry s)

/-- The min-off timer expires (R106). -/
def minOffExpiry (s : State) : State :=
  match s.cs.minOffDue with
  | some d =>
    let s := reach d s
    { s with cs.minOffDue := none }
  | none => s

def execMinOffExpiry (s : State) : Result := .next (unlessReset minOffExpiry s)

end Sys2Proof.Machine
end

