-- ==== Sys2Proof/Machine/RestCmds.lean ====
section
/-! DEFINITION. The commands of the Rest Monitor (R115 to R135). -/

namespace Sys2Proof.Machine

/-! ### ACCOUNT_READ (R135) -/

/-- The identity record a selector names, with the bunk whose rest it names. -/
def selected (x : AccountSelector) (s : State) : Option (Fin 4 × Option Bunk) :=
  match x with
  | .index i => if (record i s).isSome then some (i, none) else none
  | .slot d => (slotHolder d s).map (fun i => (i, none))
  | .bunk b => (s.rm.rests.get b).map (fun r => (r.record, some b))

/-- ACCOUNT_READ: the record is accumulated before it is reported (R119, R135). -/
def readAccount (x : AccountSelector) (s : State) : Reply :=
  match selected x s with
  | none => refuse .notFound s
  | some (i, b) =>
    let s := accumulate i (now s) s
    let rest := match b with
      | none => []
      | some k => match s.rm.rests.get k with | some r => encRest k r s | none => []
    ⟨s, .ok, accountFigures i s ++ rest⟩

def execAccountRead (l : Link) (selector : AccountSelector) (s : State) : Result :=
  .next (serve l 0x20#8 (readAccount selector) s)

/-! ### CARD (R115 to R117) -/

/-- A record is taken into use or replaced with a key: the old record's conditions end first (R115, R116). -/
def useRecord (i : Fin 4) (key : DriverKey) (s : State) : State :=
  let s := match record i s with
    | some r => endShort i r.shortRest s
    | none => s
  evaluateConds i (setRecord i (some (freshRecord key s)) s)

/-- The record of a key: the one that holds it, the first free one, or the one to replace; none where CARD is refused
NO_ROOM (R115, R116). -/
def recordFor (key : DriverKey) (s : State) : Option (Fin 4 × State) :=
  match findRecord (fun r => r.key == key) s with
  | some i => some (i, accumulate i (now s) s)
  | none =>
    match allRecords.find? (fun i => (record i s).isNone) with
    | some i => some (i, useRecord i key s)
    | none => (replaceable s).map (fun i => (i, useRecord i key s))

/-- The record is bound to the slot; another record that holds it loses it first (R115). -/
def bindSlot (i : Fin 4) (d : DriverSlot) (s : State) : State :=
  let s := match slotHolder d s with
    | some j => if j = i then s else loseSlot j s
    | none => s
  let s := match record i s with
    | some r => setRecord i (some { r with slot := some d, lastActivity := now s }) s
    | none => s
  notify .v .account (evaluateConds i s)

/-- CARD (R115). -/
def useCard (d : DriverSlot) (key : DriverKey) (s : State) : Reply :=
  if key = 0#16 then
    match slotHolder d s with
    | some i => taken (loseSlot i s)
    | none => taken s
  else
    match recordFor key s with
    | none => refuse .noRoom s
    | some (i, s') => ⟨bindSlot i d s', .ok, encU8 i.val⟩

def execCard (l : Link) (slot : DriverSlot) (key : DriverKey) (s : State) : Result :=
  .next (serve l 0x40#8 (useCard slot key) s)

/-! ### ACTIVITY (R121, R129) -/

/-- A leaving of REST by report ends the bunk rest bound to the record (R129). -/
def leaveBunk (i : Fin 4) (s : State) : State :=
  match boundBunk i s with
  | some b => endRest b s
  | none => s

/-- A report of an activity for an accumulated record (R121). -/
def reportActivity (i : Fin 4) (act : Activity) (s : State) : State :=
  match record i s with
  | none => s
  | some r =>
    let s := setRecord i (some { r with lastActivity := now s }) s
    if act = r.activity then s
    else
      let left := decide (r.activity = .rest)
      let s := changeActivity i act left s
      if left then leaveBunk i s else s

/-- ACTIVITY (R121). -/
def setActivity (d : DriverSlot) (act : Activity) (s : State) : Reply :=
  match slotHolder d s with
  | none => refuse .notFound s
  | some i => taken (reportActivity i act (accumulate i (now s) s))

def execActivity (l : Link) (slot : DriverSlot) (act : Activity) (s : State) : Result :=
  .next (serve l 0x41#8 (setActivity slot act) s)

/-! ### MOTION and SLOT_SWAP (R118, R122) -/

/-- A record's class changes with the moving flag (R120, R122). -/
def moveClass (i : Fin 4) (was is : Bool) (s : State) : State :=
  match record i s with
  | none => s
  | some r =>
    changeClass i false s.policy.p59 s.policy.p59 (effectiveClass s.policy.p59 was r.activity)
      (effectiveClass s.policy.p59 is r.activity) s

/-- MOTION (R122). -/
def setMoving (moving : Bool) (s : State) : State :=
  let s := accumulateAll (now s) s
  let was := s.rm.moving
  allRecords.foldl (fun s i => moveClass i was moving s) { s with rm.moving := moving }

def execMotion (l : Link) (moving : Bool) (s : State) : Result :=
  .next (serve l 0x42#8 (fun s => taken (setMoving moving s)) s)

def otherSlot : DriverSlot → DriverSlot
  | .driver => .coDriver
  | .coDriver => .driver

/-- SLOT_SWAP (R118). -/
def swapSlots (s : State) : State :=
  let held := s.rm.recs.toList.any (fun r => match r with | some q => q.slot.isSome | none => false)
  let s := { s with rm.recs := s.rm.recs.map (fun r => r.map (fun q => { q with slot := q.slot.map otherSlot })) }
  if held then notify .v .account s else s

def execSlotSwap (l : Link) (s : State) : Result := .next (serve l 0x43#8 (fun s => taken (swapSlots s)) s)

/-! ### BUNK_REST, BUNK_WAKE, SNOOZE (R128 to R130) -/

/-- BUNK_REST is refused CONDITION (R128). -/
def restRefused (b : Bunk) (i : Fin 4) (planned : Option RtcTime) (s : State) : Bool :=
  boundBunk i s == some (otherBunk b) ||
  (match s.rm.rests.get b with | some r => r.record != i | none => false) ||
  (match planned with | some p => atOrAfter (now s) p | none => false)

/-- A short-rest condition that targets the bunk ends (R125, R128). -/
def endBunkShort (b : Bunk) (s : State) : State :=
  allRecords.foldl (fun s i =>
    match record i s with
    | some r =>
      match r.shortRest with
      | some (broken, .bunk k) =>
        if k = b then
          endShort i (some (broken, .bunk k)) (setRecord i (some { r with shortRest := none }) s)
        else s
      | _ => s
    | none => s) s

/-- The pre-warm state a request gives (R128). -/
def wantedState (planned : Option RtcTime) (prewarm : Bool) : PrewarmState :=
  if prewarm ∧ planned.isSome then .wanted else .notWanted

/-- A rest begins (R128). -/
def beginRest (b : Bunk) (i : Fin 4) (planned : Option RtcTime) (prewarm : Bool) (s : State) : State :=
  let rest : BunkRest :=
    { record := i, start := now s, plannedEnd := planned, prewarm := prewarm, snoozes := 0
      prewarmState := wantedState planned prewarm }
  notify .b .account (tellPlannedEnd b false (endBunkShort b (setRest b (some rest) s)))

/-- A rest is updated (R128). -/
def updateRest (b : Bunk) (old : BunkRest) (planned : Option RtcTime) (prewarm : Bool) (s : State) : State :=
  let s := setPrewarm b (wantedState planned prewarm) s
  let rest : BunkRest :=
    { old with plannedEnd := planned, prewarm := prewarm, prewarmState := wantedState planned prewarm }
  notify .b .account (tellPlannedEnd b (planned != old.plannedEnd) (setRest b (some rest) s))

/-- BUNK_REST (R128). -/
def bunkRest (b : Bunk) (d : DriverSlot) (planned : Option RtcTime) (prewarm : Bool) (s : State) : Reply :=
  match slotHolder d s with
  | none => refuse .condition s
  | some i =>
    if restRefused b i planned s then refuse .condition s
    else
      let planned := planned.map (within24h s)
      match s.rm.rests.get b with
      | none => taken (beginRest b i planned prewarm s)
      | some old => taken (updateRest b old planned prewarm s)

def execBunkRest (l : Link) (bunk : Bunk) (slot : DriverSlot) (plannedEnd : Option RtcTime) (prewarm : Bool)
    (s : State) : Result :=
  .next (serve l 0x60#8 (bunkRest bunk slot plannedEnd prewarm) s)

/-- BUNK_WAKE (R129). -/
def bunkWake (b : Bunk) (s : State) : Reply :=
  match s.rm.rests.get b with
  | none => refuse .notFound s
  | some _ => taken (endRest b s)

def execBunkWake (l : Link) (bunk : Bunk) (s : State) : Result := .next (serve l 0x61#8 (bunkWake bunk) s)

/-- SNOOZE (R130). -/
def snooze (b : Bunk) (s : State) : Reply :=
  let r := snoozeRest b s
  ⟨r.1, r.2, []⟩

def execSnooze (l : Link) (bunk : Bunk) (s : State) : Result := .next (serve l 0x62#8 (snooze bunk) s)

/-! ### Timers and stored times (R119, R129, R131) -/

/-- The account timer expires (R119, R132). -/
def accountExpiry (s : State) : State :=
  let s := reach s.rm.accountDue s
  let s := { s with rm.accountDue := s.tu.clock + secs 60 }
  reconcilePrewarm (accumulateAll (now s) s)

def execAccountTimer (s : State) : Result := .next (unlessReset accountExpiry s)

/-- The RTC has reached planned end − P37: quiet hours of the bunk end (R131, R132). -/
def quietEnds (b : Bunk) (s : State) : State :=
  if s.rm.quiet.get b && !quietNow b s then reconcilePrewarm (reportQuiet s) else s

def execQuietHoursEnd (bunk : Bunk) (s : State) : Result := .next (unlessReset (quietEnds bunk) s)

def execWakeTimeout (bunk : Bunk) (s : State) : Result := .next (unlessReset (timeoutRest bunk) s)

end Sys2Proof.Machine
end

