-- ==== Sys2Proof/Machine/WarningCmds.lean ====
section
/-! DEFINITION. The commands of the Warning Unit (R141 to R153). -/

namespace Sys2Proof.Machine

/-- Who may acknowledge an entry by its target (R144). -/
def mayAck (l : Link) (t : WarnTarget) : Bool :=
  match l, t with
  | .v, .record _ => true
  | .v, .bunk _ => false
  | .b, .record _ => false
  | .b, .bunk _ => true
  | _, .cab => true

/-- ACK_WARNING (R144). -/
def ackWarning (l : Link) (k : WarnKind) (t : WarnTarget) (s : State) : Reply :=
  if mayAck l t then
    match findWarning k t s with
    | none => refuse .notFound s
    | some w => taken (if w.acked then s else ackEntry k t s)
  else refuse .notPermitted s

def execAckWarning (l : Link) (kind : WarnKind) (target : WarnTarget) (s : State) : Result :=
  .next (serve l 0x18#8 (ackWarning l kind target) s)

def execWarningList (l : Link) (s : State) : Result :=
  .next (serve l 0x19#8 (fun s => ⟨s, .ok, warningFigures s⟩) s)

/-- The RTC has reached planned end − P61 (R141). -/
def wakeLead (b : Bunk) (s : State) : State := if (wakeHolds b s).isSome then testWake b s else s

def execWakeLeadReached (bunk : Bunk) (s : State) : Result := .next (unlessReset (wakeLead bunk) s)

/-- The RTC has reached the planned end (R141). -/
def plannedEndPassed (b : Bunk) (s : State) : State :=
  match plannedEnd b s with
  | some p => if atOrAfter (now s) p then testWake b s else s
  | none => s

def execPlannedEndReached (bunk : Bunk) (s : State) : Result := .next (unlessReset (plannedEndPassed bunk) s)

/-- The elapsed time since a raise reaches P60 (R143). -/
def escalation (k : WarnKind) (t : WarnTarget) (s : State) : State :=
  match findWarning k t s with
  | some w =>
    if !w.acked && w.level == .notice && escalatesByTime k then
      escalateWarning k t (reach (w.raisedAt + secs s.policy.p60) s)
    else s
  | none => s

def execEscalation (kind : WarnKind) (target : WarnTarget) (s : State) : Result :=
  .next (unlessReset (escalation kind target) s)

/-- A phase of the flash cycle ends, and AU forms the zone's merge again (R148). -/
def flashPhase (b : Bunk) (s : State) : State :=
  match (s.wu.flash.get b).cycle with
  | some (on, due) =>
    let s := reach due s
    mergeLoad (bunkZone b)
      { s with wu.flash :=
          s.wu.flash.set b { s.wu.flash.get b with cycle := some (!on, s.tu.clock + secs 1) } }
  | none => s

def execFlashPhaseChange (bunk : Bunk) (s : State) : Result := .next (unlessReset (flashPhase bunk) s)

/-- WU forms the ramp level of an ACTIVE sunrise and hands it to AU (R151). -/
def sunriseStep (b : Bunk) (s : State) : State :=
  match findGrant (bunkZone b) .schedule s with
  | some g => if g.state == .active then mergeLoad (bunkZone b) s else s
  | none => s

def execSunriseStep (bunk : Bunk) (s : State) : Result := .next (unlessReset (sunriseStep bunk) s)

/-- The chime is granted to the entry that wants it first (R146, R147) [6]. -/
def chimeStart (s : State) : State :=
  match s.wu.chime, chimeChoice s with
  | .idle gap, some w =>
    match patternOf w.kind w.target with
    | some p =>
      let s := reach gap s
      let s := updateWarning w.kind w.target (fun x => { x with lastPlay := some (now s) }) s
      { s with wu.chime := .playing p w.kind w.target (s.tu.clock + patternLength p) }
    | none => s
  | _, _ => s

def execChimePatternStart (s : State) : Result := .next (unlessReset chimeStart s)

/-- The pattern completes, and the 1 s gap follows (R146). -/
def chimeEnd (s : State) : State :=
  match s.wu.chime with
  | .playing _ _ _ due =>
    let s := reach due s
    { s with wu.chime := .idle (s.tu.clock + secs 1) }
  | .idle _ => s

def execChimePatternEnd (s : State) : Result := .next (unlessReset chimeEnd s)

end Sys2Proof.Machine
end

