-- ==== Sys2Proof/Machine/FaultCmds.lean ====
section
/-! DEFINITION. The commands of the Fault Unit (R160 to R166). -/

namespace Sys2Proof.Machine

/-- Step 1 of an acknowledgement: the restartable release of a LOCKED channel (R66, R160). -/
def releaseChannel (r : FaultReport) (s : State) : State :=
  match r.source with
  | .channel n => if r.restartable && (chan n s).state == .locked then returnChannel n s else s
  | .heater | .charge | .battTemp | .cabinTemp | .cabinetTemp | .flameTemp | .timebase => s

/-- Step 2: the release of the load's tied suspension (R160). -/
def releaseTied (r : FaultReport) (s : State) : State :=
  match sourceLoad r.source with
  | none => s
  | some load =>
    match suspensionOf load s with
    | some e => if e.tied then releaseSuspension e s else s
    | none => s

/-- ACK_FAULT (R160). -/
def ackFault (source : FaultSource) (time : RtcTime) (s : State) : Reply :=
  match s.fu.record with
  | none => refuse .notFound s
  | some c =>
    if c.report.source ≠ source ∨ c.time ≠ time then refuse .condition s
    else
      let s := releaseTied c.report (releaseChannel c.report s)
      taken (notifyBoth .fault { s with fu.record := none })

def execAckFault (l : Link) (source : FaultSource) (time : RtcTime) (s : State) : Result :=
  .next (serve l 0x1C#8 (ackFault source time) s)

def execFaultRead (l : Link) (s : State) : Result :=
  .next (serve l 0x1D#8 (fun s => ⟨s, .ok, faultFigures s⟩) s)

def execHold (l : Link) (s : State) : Result :=
  .next (serve l 0x50#8 (fun s => taken (addCause .holdRequest false s)) s)

/-- A recorded cause still holds (R165). -/
def someCauseHolds (s : State) : Bool :=
  allCauses.any (fun c => (holdCause c s).isSome && causeHolds c s)

/-- SAFE HOLD is left (R165). -/
def leaveHold (s : State) : State :=
  notifyBoth .hold
    { s with fu :=
      { s.fu with cause1 := none, cause2 := none, cause3 := none, cause4 := none, holdRecord := none
                  entryTime := none } }

/-- RELEASE_HOLD (R165). -/
def releaseHold (s : State) : Reply :=
  if !inHold s || s.fu.record.isSome || someCauseHolds s then refuse .condition s else taken (leaveHold s)

def execReleaseHold (l : Link) (s : State) : Result := .next (serve l 0x51#8 releaseHold s)

end Sys2Proof.Machine
end

