-- ==== Sys2Proof/Machine/TimeCmds.lean ====
section
/-! DEFINITION. The commands of the Time Unit and of the two domains (R169 to R179). The clock source and the causes of a
reset act during a main reset too (R173, R174). -/

namespace Sys2Proof.Machine

def execTimeSet (l : Link) (time : RtcTime) (s : State) : Result :=
  .next (serve l 0x39#8 (fun s => taken (setTime time s)) s)

def execKpor (s : State) : Result := .next (powerOnReset s)

def execMainReset (cause : ResetCause) (s : State) : Result := .next (mainReset cause s)

/-- The last cause of a reset being held goes (R174). -/
def mainResetEnd (s : State) : State :=
  match s.tu.resetHold with
  | some h => endMainReset h s
  | none => s

def execMainResetEnd (s : State) : Result := .next (mainResetEnd s)

def execCrystalStop (s : State) : Result := .next (stopCrystal s)

def execCrystalReturn (s : State) : Result := .next (returnCrystal s)

def execCrystalEdgesResume (s : State) : Result := .next (startStable s)

def execRtcSecond (s : State) : Result := .next (countSecond s)

/-- The doze timer expires: the part enters DOZE (R176, R177). -/
def enterDoze (s : State) : State :=
  match s.tu.dozeDue with
  | some d =>
    if dozeReady s then
      let s := reach d s
      { s with tu.mode := .doze, tu.dozeDue := none }
    else s
  | none => s

def execDozeTimerExpiry (s : State) : Result := .next (unlessReset enterDoze s)

/-- The 2 ms of a DOZE exit end: AWAKE, with WAKE on both links (R179). -/
def leaveDoze (s : State) : State :=
  match s.tu.exitDue with
  | some d =>
    let s := reach d s
    syncDoze (notifyBoth .wake { s with tu.mode := .awake, tu.exitDue := none })
  | none => s

def execDozeExitComplete (s : State) : Result := .next (unlessReset leaveDoze s)

end Sys2Proof.Machine
end

