-- ==== Sys2Proof/Machine/InputCmds.lean ====
section
/-! DEFINITION. The commands of the Handset Receiver and the Event Inputs (R183 to R193). -/

namespace Sys2Proof.Machine

/-! ### Pairing window (R186) -/

/-- PAIR_HANDSET (R186). -/
def openWindow (b : Bunk) (s : State) : State := { s with hr.window := some (b, s.tu.clock + secs 30) }

def execPairHandset (l : Link) (bunk : Bunk) (s : State) : Result :=
  .next (serve l 0x63#8 (fun s => taken (openWindow bunk s)) s)

/-- The window's 30 s pass (R186). -/
def closeWindow (s : State) : State :=
  match s.hr.window with
  | some (_, d) =>
    let s := reach d s
    { s with hr.window := none }
  | none => s

def execPairingWindowClose (s : State) : Result := .next (unlessReset closeWindow s)

/-! ### Frames and repeats (R184 to R187) -/

/-- The 8 ms gap after a stop mark ends, `elapsed` µs after the line's last event; that stop mark's end is then the
line's last event (R184) [18]. -/
def receptionEnds (elapsed : Nat) (s : State) : State :=
  let s := reach (s.hr.edgeAt + elapsed) s
  { s with hr.edgeAt := s.tu.clock - millis 8 }

/-- A complete frame with a valid check (R184, R185). -/
def handsetFrame (id key : Byte) (elapsed : Nat) (s : State) : State :=
  if frameArrives id key s.hr.rx then takeFrame id key (enterRepeatWindow (receptionEnds elapsed s)) else s

def execHandsetFrame (id key : Byte) (elapsed : Nat) (s : State) : Result :=
  .next (unlessReset (handsetFrame id key elapsed) s)

/-- A repeat that comes whole in one command began within the repeat window: before the end of its gap lie the 8 ms of the
gap and at most 5.5 ms of marks and space (R183, R184) [18]. -/
def repeatInWindow (elapsed : Nat) (s : State) : Bool :=
  match s.hr.rx, s.hr.windowDue with
  | .repeatWindow, some due => max s.tu.clock (s.hr.edgeAt + elapsed) ≤ due + 13500
  | _, _ => true

/-- A complete repeat (R184, R187). -/
def handsetRepeat (elapsed : Nat) (s : State) : State :=
  if repeatArrives s.hr.rx && repeatInWindow elapsed s then takeRepeat (enterRepeatWindow (receptionEnds elapsed s)) else s

def execHandsetRepeat (elapsed : Nat) (s : State) : Result := .next (unlessReset (handsetRepeat elapsed) s)

/-- The receiver enters IDLE (R184). -/
def receiverIdle (s : State) : State := { s with hr.rx := .idle, hr.windowDue := none }

/-- A complete frame with a check error is discarded (R184). -/
def checkError (elapsed : Nat) (s : State) : State :=
  if badFrameArrives s.hr.rx then receiverIdle (receptionEnds elapsed s) else s

def execCheckError (elapsed : Nat) (s : State) : Result := .next (unlessReset (checkError elapsed) s)

/-- 120 ms pass with no mark (R184). -/
def repeatTimeout (s : State) : State :=
  match s.hr.rx, s.hr.windowDue with
  | .repeatWindow, some d => receiverIdle (reach d s)
  | _, _ => s

def execRepeatWindowTimeout (s : State) : Result := .next (unlessReset repeatTimeout s)

/-- The receiver's state after an edge, with the repeat window's end kept only while the window lasts (R184). -/
def setReceiver (rx : RxState) (s : State) : State :=
  { s with hr.rx := rx, hr.windowDue := if rx = .repeatWindow then s.hr.windowDue else none }

/-- The start or the end of a mark (R184). -/
def markEdge (start : Bool) (elapsed : Nat) (s : State) : State :=
  let s := lineEvent elapsed s
  setReceiver (if start then markStarts s.hr.rx (repeatOpen s) elapsed else markEnds s.hr.rx elapsed) s

def execInfraredMarkEdge (start : Bool) (elapsed : Nat) (s : State) : Result :=
  .next (unlessReset (markEdge start elapsed) s)

/-- A mark or a space passes the top of its range (R184). -/
def timingError (s : State) : State := setReceiver (passesTop s.hr.rx) s

def execTimingError (s : State) : Result := .next (unlessReset timingError s)

/-! ### Event inputs (R190 to R193) -/

/-- INPUT_CONFIG (R193). -/
def configureInput (n : Nat) (config : InputConfig) (s : State) : Reply :=
  if h : n < 8 then
    if s.policyLock ∧ n < 2 then refuse .locked s
    else
      let i : Fin 8 := ⟨n, h⟩
      taken (restartInput i (setInput i { input i s with config := config } s))
  else refuse .notFound s

def execInputConfig (l : Link) (input : Byte) (config : InputConfig) (s : State) : Result :=
  .next (serve l 0x48#8 (configureInput input.toNat config) s)

/-- The pin's new level; in a main reset nothing reads it (R190). -/
def setPin (n : Fin 8) (high : Bool) (s : State) : State := setInput n { input n s with pin := high } s

/-- The raw state of an input changes: with debounce ON the 20 ms timer starts afresh, with debounce OFF the debounced
state takes it (R190). -/
def rawChange (n : Fin 8) (high : Bool) (s : State) : State :=
  if (input n s).pin = high then s
  else
    let s := setPin n high s
    let x := input n s
    if inReset s then s
    else if x.config.debounce then setInput n { x with debounceDue := some (s.tu.clock + millis 20) } s
    else takeRaw n s

def execInputRawChange (input : Fin 8) (high : Bool) (s : State) : Result := .next (rawChange input high s)

/-- The raw state has stayed unchanged for 20 ms (R190). -/
def debounceExpiry (n : Fin 8) (s : State) : State :=
  let x := input n s
  match x.debounceDue with
  | some d => takeRaw n (setInput n { x with debounceDue := none } (reach d s))
  | none => s

def execDebounceExpiry (input : Fin 8) (s : State) : Result := .next (unlessReset (debounceExpiry input) s)

end Sys2Proof.Machine
end

