-- ==== Sys2Proof/Machine/PolicyCmds.lean ====
section
/-! DEFINITION. The commands of policy storage (R205, R206). -/

namespace Sys2Proof.Machine

def execPolicySet (l : Link) (item : Byte) (value : BitVec 32) (s : State) : Result :=
  .next (serve l 0x30#8 (setPolicy item.toNat value.toNat) s)

def execPolicyGet (l : Link) (item : Byte) (s : State) : Result := .next (serve l 0x31#8 (getPolicy item.toNat) s)

def execPolicyLock (l : Link) (s : State) : Result :=
  .next (serve l 0x32#8 (fun s => taken { s with policyLock := true }) s)

end Sys2Proof.Machine
end

