-- ==== Sys2Proof/Machine/Frames.lean ====
section
/-! DEFINITION. A request transfer as the bytes the host clocked in: the port judges the frame, and the request it spells is
performed (R195, R196, R203). -/

namespace Sys2Proof.Machine

/-- A request performed by its own meaning; an event is none, and no frame spells one. -/
def performRequest (c : Instr) (s : State) : Result :=
  match c with
  | .notices l => execNotices l s
  | .noticeEnable l mask => execNoticeEnable l mask s
  | .release l => execRelease l s
  | .statusRead l n => execStatusRead l n s
  | .budgetRead l => execBudgetRead l s
  | .grantRequest l load purpose origin level setpoint maxStage endTime =>
    execGrantRequest l load purpose origin level setpoint maxStage endTime s
  | .grantProbe l load purpose => execGrantProbe l load purpose s
  | .grantRevoke l load purpose => execGrantRevoke l load purpose s
  | .ackWarning l kind target => execAckWarning l kind target s
  | .warningList l => execWarningList l s
  | .ackFault l source time => execAckFault l source time s
  | .faultRead l => execFaultRead l s
  | .accountRead l selector => execAccountRead l selector s
  | .fridgeSet l enable => execFridgeSet l enable s
  | .policySet l item value => execPolicySet l item value s
  | .policyGet l item => execPolicyGet l item s
  | .policyLock l => execPolicyLock l s
  | .seedCharge l q => execSeedCharge l q s
  | .timeSet l time => execTimeSet l time s
  | .card l slot key => execCard l slot key s
  | .activity l slot act => execActivity l slot act s
  | .motion l moving => execMotion l moving s
  | .slotSwap l => execSlotSwap l s
  | .inputConfig l n config => execInputConfig l n config s
  | .hold l => execHold l s
  | .releaseHold l => execReleaseHold l s
  | .clearLockout l => execClearLockout l s
  | .clearChannel l channel => execClearChannel l channel s
  | .wiringCheck l => execWiringCheck l s
  | .checkRead l => execCheckRead l s
  | .restart l => execRestart l s
  | .bunkRest l bunk slot plannedEnd prewarm => execBunkRest l bunk slot plannedEnd prewarm s
  | .bunkWake l bunk => execBunkWake l bunk s
  | .snooze l bunk => execSnooze l bunk s
  | .pairHandset l bunk => execPairHandset l bunk s
  | _ => .next s

/-- A request transfer given by its bytes (R195, R196): the port answers a frame that no owner gets by itself, and a frame
that passes every test, or a FETCH, is that request [26]. -/
def execUndefinedRequest (l : Link) (bytes : List Byte) (s : State) : Result :=
  let kind := bytes.headD 0#8
  match judgeFrame l bytes with
  | .noByte => .next (emptyTransfer l s)
  | .malformed => .next (answerPort l kind .malformed s)
  | .unknown => .next (answerPort l kind .unknown s)
  | .notPermitted => .next (answerPort l kind .notPermitted s)
  | .fetch => execFetch l bytes.length s
  | .defined c => performRequest c s

end Sys2Proof.Machine
end

