-- ==== Sys2Proof/Machine/Dispatch.lean ====
section
/-! DEFINITION. One arm per command of the opcode table. -/

namespace Sys2Proof.Machine

def exec (i : Instr) (s : State) : Host.Outcome State Fault Refusal :=
  match i with
  | .transferStart l => Sys2Proof.Machine.execTransferStart l s
  | .undefinedRequest l bytes => Sys2Proof.Machine.execUndefinedRequest l bytes s
  | .fetch l clocked => Sys2Proof.Machine.execFetch l clocked s
  | .notices l => Sys2Proof.Machine.execNotices l s
  | .noticeEnable l mask => Sys2Proof.Machine.execNoticeEnable l mask s
  | .release l => Sys2Proof.Machine.execRelease l s
  | .statusRead l section_ => Sys2Proof.Machine.execStatusRead l section_ s
  | .budgetRead l => Sys2Proof.Machine.execBudgetRead l s
  | .grantRequest l load purpose origin level setpoint maxStage endTime => Sys2Proof.Machine.execGrantRequest l load purpose origin level setpoint maxStage endTime s
  | .grantProbe l load purpose => Sys2Proof.Machine.execGrantProbe l load purpose s
  | .grantRevoke l load purpose => Sys2Proof.Machine.execGrantRevoke l load purpose s
  | .ackWarning l kind target => Sys2Proof.Machine.execAckWarning l kind target s
  | .warningList l => Sys2Proof.Machine.execWarningList l s
  | .ackFault l source time => Sys2Proof.Machine.execAckFault l source time s
  | .faultRead l => Sys2Proof.Machine.execFaultRead l s
  | .accountRead l selector => Sys2Proof.Machine.execAccountRead l selector s
  | .fridgeSet l enable => Sys2Proof.Machine.execFridgeSet l enable s
  | .policySet l item value => Sys2Proof.Machine.execPolicySet l item value s
  | .policyGet l item => Sys2Proof.Machine.execPolicyGet l item s
  | .policyLock l => Sys2Proof.Machine.execPolicyLock l s
  | .seedCharge l q => Sys2Proof.Machine.execSeedCharge l q s
  | .timeSet l time => Sys2Proof.Machine.execTimeSet l time s
  | .card l slot key => Sys2Proof.Machine.execCard l slot key s
  | .activity l slot act => Sys2Proof.Machine.execActivity l slot act s
  | .motion l moving => Sys2Proof.Machine.execMotion l moving s
  | .slotSwap l => Sys2Proof.Machine.execSlotSwap l s
  | .inputConfig l input config => Sys2Proof.Machine.execInputConfig l input config s
  | .hold l => Sys2Proof.Machine.execHold l s
  | .releaseHold l => Sys2Proof.Machine.execReleaseHold l s
  | .clearLockout l => Sys2Proof.Machine.execClearLockout l s
  | .clearChannel l channel => Sys2Proof.Machine.execClearChannel l channel s
  | .wiringCheck l => Sys2Proof.Machine.execWiringCheck l s
  | .checkRead l => Sys2Proof.Machine.execCheckRead l s
  | .restart l => Sys2Proof.Machine.execRestart l s
  | .bunkRest l bunk slot plannedEnd prewarm => Sys2Proof.Machine.execBunkRest l bunk slot plannedEnd prewarm s
  | .bunkWake l bunk => Sys2Proof.Machine.execBunkWake l bunk s
  | .snooze l bunk => Sys2Proof.Machine.execSnooze l bunk s
  | .pairHandset l bunk => Sys2Proof.Machine.execPairHandset l bunk s
  | .kpor => Sys2Proof.Machine.execKpor s
  | .mainReset cause => Sys2Proof.Machine.execMainReset cause s
  | .mainResetEnd => Sys2Proof.Machine.execMainResetEnd s
  | .conversion shunt volt pass => Sys2Proof.Machine.execConversion shunt volt pass s
  | .fullDetection shunt volt => Sys2Proof.Machine.execFullDetection shunt volt s
  | .floorCorrection shunt volt => Sys2Proof.Machine.execFloorCorrection shunt volt s
  | .voltageFloorClear shunt volt pass => Sys2Proof.Machine.execVoltageFloorClear shunt volt pass s
  | .battTempConversion result => Sys2Proof.Machine.execBattTempConversion result s
  | .review => Sys2Proof.Machine.execReview s
  | .grantEndReached load purpose => Sys2Proof.Machine.execGrantEndReached load purpose s
  | .grantStartReached load purpose => Sys2Proof.Machine.execGrantStartReached load purpose s
  | .inrushWindowEnd ch => Sys2Proof.Machine.execInrushWindowEnd ch s
  | .channelShort ch current => Sys2Proof.Machine.execChannelShort ch current s
  | .channelOvercurrent ch current => Sys2Proof.Machine.execChannelOvercurrent ch current s
  | .retryTimerExpiry ch => Sys2Proof.Machine.execRetryTimerExpiry ch s
  | .openLoadDetected ch current => Sys2Proof.Machine.execOpenLoadDetected ch current s
  | .wiringStepEnd tripped peak => Sys2Proof.Machine.execWiringStepEnd tripped peak s
  | .cabinTempConversion result => Sys2Proof.Machine.execCabinTempConversion result s
  | .flameTempConversion result => Sys2Proof.Machine.execFlameTempConversion result s
  | .preheatTimerExpiry => Sys2Proof.Machine.execPreheatTimerExpiry s
  | .ignitionTimerExpiry => Sys2Proof.Machine.execIgnitionTimerExpiry s
  | .regulationTimerExpiry => Sys2Proof.Machine.execRegulationTimerExpiry s
  | .flameProvenTimeout => Sys2Proof.Machine.execFlameProvenTimeout s
  | .satisfiedTimeout => Sys2Proof.Machine.execSatisfiedTimeout s
  | .flameOut => Sys2Proof.Machine.execFlameOut s
  | .purgeGlowOff => Sys2Proof.Machine.execPurgeGlowOff s
  | .purgeComplete => Sys2Proof.Machine.execPurgeComplete s
  | .cabinetTempConversion result => Sys2Proof.Machine.execCabinetTempConversion result s
  | .slotDue => Sys2Proof.Machine.execSlotDue s
  | .runStart => Sys2Proof.Machine.execRunStart s
  | .runComplete => Sys2Proof.Machine.execRunComplete s
  | .minOffExpiry => Sys2Proof.Machine.execMinOffExpiry s
  | .accountTimer => Sys2Proof.Machine.execAccountTimer s
  | .quietHoursEnd bunk => Sys2Proof.Machine.execQuietHoursEnd bunk s
  | .wakeTimeout bunk => Sys2Proof.Machine.execWakeTimeout bunk s
  | .wakeLeadReached bunk => Sys2Proof.Machine.execWakeLeadReached bunk s
  | .plannedEndReached bunk => Sys2Proof.Machine.execPlannedEndReached bunk s
  | .escalation kind target => Sys2Proof.Machine.execEscalation kind target s
  | .flashPhaseChange bunk => Sys2Proof.Machine.execFlashPhaseChange bunk s
  | .sunriseStep bunk => Sys2Proof.Machine.execSunriseStep bunk s
  | .chimePatternStart => Sys2Proof.Machine.execChimePatternStart s
  | .chimePatternEnd => Sys2Proof.Machine.execChimePatternEnd s
  | .crystalStop => Sys2Proof.Machine.execCrystalStop s
  | .crystalReturn => Sys2Proof.Machine.execCrystalReturn s
  | .rtcSecond => Sys2Proof.Machine.execRtcSecond s
  | .dozeTimerExpiry => Sys2Proof.Machine.execDozeTimerExpiry s
  | .dozeExitComplete => Sys2Proof.Machine.execDozeExitComplete s
  | .handsetFrame id key elapsed => Sys2Proof.Machine.execHandsetFrame id key elapsed s
  | .handsetRepeat elapsed => Sys2Proof.Machine.execHandsetRepeat elapsed s
  | .repeatWindowTimeout => Sys2Proof.Machine.execRepeatWindowTimeout s
  | .pairingWindowClose => Sys2Proof.Machine.execPairingWindowClose s
  | .inputRawChange input high => Sys2Proof.Machine.execInputRawChange input high s
  | .debounceExpiry input => Sys2Proof.Machine.execDebounceExpiry input s
  | .infraredMarkEdge start elapsed => Sys2Proof.Machine.execInfraredMarkEdge start elapsed s
  | .timingError => Sys2Proof.Machine.execTimingError s
  | .checkError elapsed => Sys2Proof.Machine.execCheckError elapsed s
  | .crystalEdgesResume => Sys2Proof.Machine.execCrystalEdgesResume s
  | .fade ch levels => Sys2Proof.Machine.execFade ch levels s
  | .fuelPumpPulse current => Sys2Proof.Machine.execFuelPumpPulse current s

end Sys2Proof.Machine
end

