-- ==== Sys2Proof/Safety.lean ====
section
/-! DEFINITION. The terms the claims use: when a request is served, how it is answered, what an operation leaves alone,
and the invariants of the part. -/

namespace Sys2Proof.Machine

/-! ### Requests -/

/-- A request transfer that began in AWAKE is open on the link (R195, R196). -/
abbrev Serving (l : Link) (s : State) : Prop := (port l s).transfer = .open_ false

/-- The transfer has ended with this response in the link's slot (R198). -/
abbrev Answered (l : Link) (kind : Byte) (st : Status) (payload : List Byte) (t : State) : Prop :=
  (port l t).slot = some ⟨st, kind, payload⟩ ∧ (port l t).transfer = .none

/-- `s` with this response in the link's slot, the transfer ended and the released flag clear, so that the doze timer is
stopped (R176, R198). -/
def answered (l : Link) (kind : Byte) (st : Status) (payload : List Byte) (s : State) : State :=
  mapPort l (fun p => { p with slot := some ⟨st, kind, payload⟩, transfer := .none, released := false })
    { s with tu.dozeDue := none }

/-- The main domain is not held in reset (R174). -/
abbrev Running (s : State) : Prop := s.tu.resetHold = none

/-- The link and the kind of a request but FETCH that the catalogue defines (R203). -/
def requestKind : Instr → Option (Link × Byte)
  | .notices l => some (l, 0x02#8)
  | .noticeEnable l _ => some (l, 0x03#8)
  | .release l => some (l, 0x04#8)
  | .statusRead l _ => some (l, 0x05#8)
  | .budgetRead l => some (l, 0x06#8)
  | .grantRequest l _ _ _ _ _ _ _ => some (l, 0x10#8)
  | .grantProbe l _ _ => some (l, 0x11#8)
  | .grantRevoke l _ _ => some (l, 0x12#8)
  | .ackWarning l _ _ => some (l, 0x18#8)
  | .warningList l => some (l, 0x19#8)
  | .ackFault l _ _ => some (l, 0x1C#8)
  | .faultRead l => some (l, 0x1D#8)
  | .accountRead l _ => some (l, 0x20#8)
  | .fridgeSet l _ => some (l, 0x24#8)
  | .policySet l _ _ => some (l, 0x30#8)
  | .policyGet l _ => some (l, 0x31#8)
  | .policyLock l => some (l, 0x32#8)
  | .seedCharge l _ => some (l, 0x38#8)
  | .timeSet l _ => some (l, 0x39#8)
  | .card l _ _ => some (l, 0x40#8)
  | .activity l _ _ => some (l, 0x41#8)
  | .motion l _ => some (l, 0x42#8)
  | .slotSwap l => some (l, 0x43#8)
  | .inputConfig l _ _ => some (l, 0x48#8)
  | .hold l => some (l, 0x50#8)
  | .releaseHold l => some (l, 0x51#8)
  | .clearLockout l => some (l, 0x52#8)
  | .clearChannel l _ => some (l, 0x53#8)
  | .wiringCheck l => some (l, 0x54#8)
  | .checkRead l => some (l, 0x55#8)
  | .restart l => some (l, 0x5F#8)
  | .bunkRest l _ _ _ _ => some (l, 0x60#8)
  | .bunkWake l _ => some (l, 0x61#8)
  | .snooze l _ => some (l, 0x62#8)
  | .pairHandset l _ => some (l, 0x63#8)
  | _ => none

/-- The arguments of a request, in the order of R203, each in the form of R197. -/
def requestArguments : Instr → List Byte
  | .noticeEnable _ mask => enc32 mask
  | .statusRead _ n => [n]
  | .grantRequest _ load purpose origin level setpoint maxStage endTime =>
    encU8 (loadCode load) ++ encU8 (purposeCode purpose) ++ encU8 (originCode origin) ++ [level, setpoint, maxStage] ++
      encOpt enc32 endTime
  | .grantProbe _ load purpose => encU8 (loadCode load) ++ encU8 (purposeCode purpose)
  | .grantRevoke _ load purpose => encU8 (loadCode load) ++ encU8 (purposeCode purpose)
  | .ackWarning _ kind target => encU8 (warnKindCode kind) ++ encU8 (warnTargetCode target)
  | .ackFault _ source time => encU8 (sourceCode source) ++ enc32 time
  | .accountRead _ (.index i) => encU8 0 ++ encU8 i.val
  | .accountRead _ (.slot d) => encU8 1 ++ encU8 (slotCode (some d))
  | .accountRead _ (.bunk b) => encU8 2 ++ encU8 (bunkCode b)
  | .fridgeSet _ enable => encFlag enable
  | .policySet _ item value => [item] ++ enc32 value
  | .policyGet _ item => [item]
  | .seedCharge _ q => enc32 q
  | .timeSet _ time => enc32 time
  | .card _ slot key => encU8 (slotCode (some slot)) ++ enc16 key
  | .activity _ slot act => encU8 (slotCode (some slot)) ++ encU8 (activityCode act)
  | .motion _ moving => encFlag moving
  | .inputConfig _ n x =>
    [n] ++ encU8 (polarityCode x.polarity) ++ encU8 (inputKindCode x.kind) ++ encFlag x.debounce ++
      encSet [x.noticeV, x.noticeB, x.wake]
  | .clearChannel _ channel => [channel]
  | .bunkRest _ bunk slot plannedEnd prewarm =>
    encU8 (bunkCode bunk) ++ encU8 (slotCode (some slot)) ++ encOpt enc32 plannedEnd ++ encFlag prewarm
  | .bunkWake _ bunk => encU8 (bunkCode bunk)
  | .snooze _ bunk => encU8 (bunkCode bunk)
  | .pairHandset _ bunk => encU8 (bunkCode bunk)
  | _ => []

/-- The bytes a host clocks in for a request: its kind, the length of its arguments, and they (R195). -/
def requestFrame (k : Byte) (c : Instr) : List Byte :=
  [k] ++ encU8 (requestArguments c).length ++ requestArguments c

/-- The notice stands in both ports' sets (R200). -/
abbrev Noticed (n : Notice) (t : State) : Prop := ∀ l : Link, hasNotice n (port l t) = true

/-! ### Samples and less than what is asked for -/

/-- The current and the voltage sample of a conversion, clamped (R1, R2). -/
def currentOf (shunt : Int) : Int := max (-32768) (min 32767 shunt)
def voltageOf (volt : Int) : Nat := (max 0 (min 40000 volt)).toNat

/-- `s` with a conversion's sample taken at internal-clock time `t`, before the outcome of its check is judged: the latest
sample, the over-range flag, and the next completion by the mode in force (R1, R2). -/
def sampled (t : Nat) (shunt volt : Int) (s : State) : State :=
  { s with
    tu.clock := t
    cm.convDue := t + (match s.tu.mode with | .awake => 100000 | .doze => 1000000)
    cm.overRange := s.cm.overRange || decide (shunt < -32768 ∨ 32767 < shunt)
    cm.latestI := currentOf shunt
    cm.latestV := voltageOf volt }

/-- The charge count and the residue after a conversion's sample charge, weighted by the mode (R4, R5). -/
def counted (shunt : Int) (s : State) : Nat × Nat :=
  integrate s.policy.p01 s.cm.q s.cm.r
    (sampleCharge (currentOf shunt) (match s.tu.mode with | .awake => 1 | .doze => 10) s.policy.p04)

/-- What AU may admit in place of an effective level: level `k` of 26 or more on a lamp or the vent, stage `k` of 1 or more
on the heater, nothing on the others (R35). -/
def lesser (load : Load) (v : Level) (k : Nat) : Option Level :=
  if isLevelled load then (if 26 ≤ k ∧ k < v.level then some { v with level := k } else none)
  else if load = .heater then (if 1 ≤ k ∧ k < v.maxStage then some { v with maxStage := k } else none)
  else none

/-! ### What a command leaves, and acts that several rules share -/

/-- The state a command leaves. -/
def after (c : Instr) (s : State) : State :=
  match exec c s with
  | .next t => t
  | .fault _ => s
  | .refused _ => s

/-- One slot falls due at once: it is decided as a due whose own time is now (R102, R113). -/
def slotNow (s : State) : State := after .slotDue { s with cs.nextDue := now s }

/-- WU tests the WAKE condition of a bunk: it holds from the lead time on, and its entry ends where it does not (R141). -/
def wakeTested (b : Bunk) (s : State) : State :=
  let holds : Bool := match (s.rm.rests.get b).bind (·.plannedEnd) with
    | some p => atOrAfter (now s) (p - BitVec.ofNat 32 (60 * s.policy.p61))
    | none => false
  if holds then after (.wakeLeadReached b) s else removeWarning .wake (.bunk b) s

/-- RM reports the quiet hours of both bunks: AU applies its caps, then HS its stage limit (R43, R81, R131). -/
def quietTold (s : State) : State :=
  lowerStage (applyCaps { s with rm.quiet := ⟨quietNow .lower s, quietNow .upper s⟩ })

/-- Every record's time-uncertain mark is `x`, with ACCOUNT on Link V where one changed (R134) [52]. -/
def marked (x : Bool) (s : State) : State :=
  let t : State := { s with rm.recs := s.rm.recs.map (fun r => r.map (fun q => { q with timeUncertain := x })) }
  if s.rm.recs.toList.any (fun r => match r with | some q => q.timeUncertain != x | none => false)
  then notify .v .account t else t

/-- The next-due time formed again at the interval of the mode in force; one that has passed falls due at once (R102). -/
def dueReformed (s : State) : State :=
  let interval := match s.cs.mode with | .normal => s.policy.p42 | .warm => s.policy.p43 | .cool => s.policy.p44
  let next : RtcTime := s.cs.nextDue - BitVec.ofNat 32 (60 * s.cs.formed) + BitVec.ofNat 32 (60 * interval)
  if s.cs.enable then
    if atOrAfter (now s) next then slotNow s else { s with cs.nextDue := next, cs.formed := interval }
  else s

/-- The doze timer as it stands in `t`: it runs while its conditions hold, 2 s from the last of them unless it ran already
with the deadline `old` (R176). -/
def dozeTimer (old : Option Nat) (t : State) : Option Nat :=
  let quiet (p : Port) : Bool := match p.transfer with | .open_ _ => false | _ => true
  if t.tu.mode = .awake ∧ t.tu.exitDue = none ∧ t.tu.postExit = true ∧ t.ca.check = none ∧ t.portV.released = true ∧
    t.portB.released = true ∧ quiet t.portV = true ∧ quiet t.portB = true
  then some (old.getD (t.tu.clock + 2000000)) else none

/-- A channel that leaves LOCKED at `t`: OFF, or STARTING again with its driver's target, its activation's counts at 0 (R58,
R60, R66). -/
def freedChannel (n : Fin 12) (t : Nat) (c : Channel) : Channel :=
  if c.target = 0 then { c with state := .off, output := 0, tripCount := 0, openLoad := false }
  else { c with
    state := .starting
    output := if 4 ≤ n.val ∧ n.val ≤ 7 then 0 else if n.val = 1 ∨ n.val = 2 ∨ n.val = 11 then c.target else 255
    tripCount := 0, openLoad := false
    inrushDue := some (t + (if n.val = 0 then 2000000 else 500000))
    retryDue := none, lowSince := none, fadeAt := t, pulseAt := none }

/-- A restartable release: the load's SUSPENDED entries come back in order of class and position, with one GRANT_SHED where
one is shed (R49). -/
def entriesBack (load : Load) (s : State) : State :=
  let back : List Grant := ([0, 1, 2, 3] : List Nat).flatMap (fun k => s.au.table.filter (fun g =>
    (g.load == load && g.state == .suspended) && shedClass g.load g.purpose == k))
  let r := back.foldl readmitSuspended (s, false)
  mergeLoad load (if r.2 then notifyBoth .grantShed r.1 else r.1)

/-- A release that is not restartable: the load's SUSPENDED entries are removed, and their owners told one by one (R49). -/
def entriesGone (load : Load) (s : State) : State :=
  let gone := s.au.table.filter (fun g => g.load == load && g.state == .suspended)
  gone.foldl (fun x g => reportRemoval g.load g.purpose .nonRestartable x)
    (mergeLoad load (gone.foldl (fun x g => dropGrant g.load g.purpose x) s))

/-! ### Classes and segments of a record -/

/-- The effective class of an activity under P59 (R120). -/
def classOf (p59 : Nat) (moving : Bool) (a : Activity) : Activity :=
  if a = .rest ∧ moving = true ∧ p59 % 2 = 0 then .available else a

/-- The class feeds the break segment under P59 (R120). -/
def breakFed (p59 : Nat) (c : Activity) : Bool := c == .rest || (c == .available && p59 / 2 % 2 == 1)

/-- A record after a class change: a break segment that the new class does not feed ends, as a first part where it is long
enough and had not qualified (R121, R123). -/
def breakJudged (p : Policy) (fed feeds : Bool) (z : Identity) : Identity :=
  if fed && !feeds then
    { z with
      firstPart := z.firstPart || (!z.breakQualified && decide (p.p52 * 60 ≤ z.breakSeg))
      breakSeg := 0, breakQualified := false }
  else z

/-- A record whose rest segment has ended at `t`: regular, reduced while reduced rests are left, short or broken at a leaving
by report, or nothing (R125). -/
def restJudged (p : Policy) (t : RtcTime) (report : Bool) (target : ShortTarget) (w : Identity) : Identity :=
  let base : Identity := { w with restSeg := 0, restRegular := false, restWeekly := false }
  if w.restRegular = true then base
  else if p.p55 * 60 ≤ w.restSeg ∧ w.reducedUsed < p.p56 then
    { base with
      reducedUsed := w.reducedUsed + 1, daily := 0, continuous := 0, firstPart := false
      lastRestEnd := some t, shortRest := none }
  else if report = true ∧ p.p51 * 60 ≤ w.restSeg then
    { base with shortRest := some (target != .record && decide (w.restSeg < p.p55 * 60), target) }
  else base

/-- An accumulated record whose class changes at `t` without a report: from that under the old P59 and moving flag to that
under `p`'s P59 and the new flag (R121 to R123, R136). -/
def reclassed (p : Policy) (oldP59 : Nat) (was is : Bool) (t : RtcTime) (target : ShortTarget) (r : Identity) : Identity :=
  let old := classOf oldP59 was r.activity
  let new := classOf p.p59 is r.activity
  let w := breakJudged p (breakFed oldP59 old) (breakFed p.p59 new) r
  if old = .rest ∧ new ≠ .rest then restJudged p t false target w else w

/-- The target of a record's short-rest condition: the bunk whose rest is bound to it, else the record (R125). -/
def shortAim (i : Fin 4) (s : State) : ShortTarget :=
  match boundBunk i s with
  | some b => .bunk b
  | none => .record

/-- The driver warning conditions as their ranges say (R126). -/
def rangeConds (p : Policy) (r : Option Identity) : DriverConds :=
  match r with
  | some x =>
    if x.slot = none then ⟨false, false, false, false⟩
    else
      ⟨decide ((p.p50 - p.p58) * 60 ≤ x.continuous ∧ x.continuous < p.p50 * 60), decide (p.p50 * 60 ≤ x.continuous),
        decide ((p.p53 - p.p58) * 60 ≤ x.daily ∧ x.daily < p.p53 * 60), decide (p.p53 * 60 ≤ x.daily)⟩
  | none => ⟨false, false, false, false⟩

/-- The driver warnings of a record that stand in the warning list (R126, R138). -/
def listedConds (i : Fin 4) (s : State) : DriverConds :=
  let stands (k : WarnKind) : Bool := s.wu.list.any (fun w => w.kind == k && w.target == .record i)
  ⟨stands .breakSoon, stands .breakDue, stands .daySoon, stands .dayDue⟩

/-! ### Frames: states with the parts erased that an operation may write -/

/-- Every part but the doze timer, and the slot, transfer and released flag of one link. -/
def besideAnswer (l : Link) (s : State) : State :=
  mapPort l (fun p => { p with slot := none, transfer := .none, released := false })
    { s with tu.dozeDue := none }

/-- Every part but those the grant table's work may write: AU, CA, HS, CS, WU and the ports. -/
def besideGrants (s : State) : State :=
  { s with portV := {}, portB := {}, au := {}, ca := {}, hs := {}, cs := {}, wu := {} }

/-- The Time Unit but for what a wake request and the doze timer write (R176, R179). -/
def besideWake (u : TimeUnit) : TimeUnit :=
  { u with exitDue := none, postExit := false, dozeDue := none, lastWake := none }

/-- Every part but those a fault or a warning may write: those of the grant table's work, FU, and the wake. -/
def besideFaults (s : State) : State := { besideGrants s with fu := {}, tu := besideWake s.tu }

/-- Every part but those a bunk rest may write too: those of a fault, and RM. -/
def besideRests (s : State) : State := { besideFaults s with rm := {} }

/-! ### Invariants -/

/-- The charge count and the residue keep to their ranges (R5). -/
def ChargeInRange (s : State) : Prop := s.cm.q ≤ s.policy.p01 ∧ s.cm.r < 3600

/-- The slot credit keeps to −8..+8 (R98). -/
def CreditInRange (s : State) : Prop := -8 ≤ s.cs.c ∧ s.cs.c ≤ 8

/-- The heater is in OFF or STANDBY only with purge-owed clear (R85), outside a main reset. -/
def PurgeSettled (s : State) : Prop :=
  Running s → (s.hs.phase = .off ∨ s.hs.phase = .standby) → s.hs.purgeOwed = false

/-- The fuel pump has a zero target and does not drive outside IGNITE and RUN (R79). -/
def PumpGated (s : State) : Prop :=
  s.hs.phase ≠ .ignite → s.hs.phase ≠ .run →
    (chan 2 s).target = 0 ∧ (chan 2 s).state ≠ .starting ∧ (chan 2 s).state ≠ .on

/-- A channel in OFF, TRIPPED or LOCKED does not drive its output (R57). -/
def OutputsOff (s : State) : Prop :=
  ∀ n : Fin 12, (chan n s).state = .off ∨ (chan n s).state = .tripped ∨ (chan n s).state = .locked →
    (chan n s).output = 0

/-- A record's continuous driving never exceeds its daily driving (R120). -/
def DrivingOrdered (s : State) : Prop :=
  ∀ (i : Fin 4) (r : Identity), record i s = some r → r.continuous ≤ r.daily

/-- No key is in two records, no slot is held by two, and no record is bound to both bunks (R114). -/
def RecordsDistinct (s : State) : Prop :=
  (∀ (i j : Fin 4) (a b : Identity), record i s = some a → record j s = some b → i ≠ j →
    a.key ≠ b.key ∧ (a.slot = none ∨ a.slot ≠ b.slot)) ∧
  (∀ (a b : BunkRest), s.rm.rests.lower = some a → s.rm.rests.upper = some b → a.record ≠ b.record)

/-- The same handset id is never in both entries of the pairing list (R185). -/
def PairingDistinct (s : State) : Prop := s.hr.paired.lower = none ∨ s.hr.paired.lower ≠ s.hr.paired.upper

/-- Bits 17 to 31 of the notice masks and of the enables read 0 (R200, R201). -/
def MasksInRange (s : State) : Prop :=
  ∀ l : Link, (port l s).notices &&& ~~~allNotices = 0#32 ∧ (port l s).enables &&& ~~~allNotices = 0#32

/-- The suspension list holds at most one entry for a load (R159). -/
def SuspensionsDistinct (s : State) : Prop := (s.fu.susp.map (·.load)).Nodup

/-- The warning list never holds two entries with the same kind and target (R138). -/
def WarningsDistinct (s : State) : Prop := (s.wu.list.map (fun w => (w.kind, w.target))).Nodup

/-- The pairs internal purposes use: one PURGE, one COOLING and one WARNING on each zone (R24). -/
def internalPair (load : Load) (purpose : Purpose) : Bool :=
  match load, purpose with
  | .heater, .purge | .fridge, .cooling | .zoneLower, .warning | .zoneUpper, .warning => true
  | _, _ => false

/-- The grant table in order of position, with positions below 16, distinct pairs, at most 12 external entries, and only
the internal pairs of R24 (R24). -/
def TableSound (s : State) : Prop :=
  (s.au.table.map (·.pos)).Pairwise (· < ·) ∧ (∀ g ∈ s.au.table, g.pos < 16) ∧
  (s.au.table.map (fun g => (g.load, g.purpose))).Nodup ∧ externalCount s ≤ 12 ∧
  (∀ g ∈ s.au.table, isExternal g.purpose = true ∨ internalPair g.load g.purpose = true)

/-- The shed list holds the positions of the SHED grants, each once (R40). -/
def ShedListed (s : State) : Prop :=
  s.au.shedList.Nodup ∧ ∀ p : Nat, p ∈ s.au.shedList ↔ ∃ g ∈ s.au.table, g.pos = p ∧ g.state = .shed

end Sys2Proof.Machine
end

