-- ==== Sys2Proof/Certificates/Slice0/Obligations.lean ====
section
/-! DEFINITION. The statements about the model, for the provers. A statement's docstring names the rules it says
something about; [n] is a log entry. Deadlines are of the internal clock, which the command of an expiry carries on to its
deadline where it is not past it: the model's choice [2, 3]. -/

open Sys2Proof Sys2Proof.Machine

/-! ### The queue and the resets -/

/-- The first waiting command is executed with the queue's rest, and the part idles on an empty queue [1]. -/
def Obligations.StepTakesFrontCommand : Prop :=
  (∀ (c : Instr) (rest : List Instr) (s : State),
    step { s with pending := c :: rest } = exec c { s with pending := rest }) ∧
  (∀ s : State, s.pending = [] → step s = .next s)

/-- Every command goes on to a next state and leaves the waiting commands as they are [1]. -/
def Obligations.CommandsCompleteAndKeepQueue : Prop :=
  ∀ (c : Instr) (s : State), ∃ t, exec c s = .next t ∧ t.pending = s.pending

/-- The values the reset tables state for a main reset after a KPOR (R23, R55, R74, R97, R113, R137, R155, R167, R169, R173,
R175, R194, R209), with the default of every policy item (R22, R53, R96, R112, R136, R154, R204); that this is the state of
reset, with the internal clock at 0 and its deadlines counted from there [3, 20], the last current of each channel at 0 [17],
and every pin low [19], is the model's choice. -/
def Obligations.ResetStateHoldsTableValues : Prop :=
  let s := State.reset
  (s.cm.q = 112500 ∧ s.cm.r = 0 ∧ s.cm.seeded = false ∧ s.cm.qStale = false ∧ s.cm.overRange = false ∧
    s.cm.latestI = 0 ∧ s.cm.latestV = 0 ∧ s.cm.tb = -20 ∧ s.cm.voltageFloor = false ∧ s.cm.pathLost = false ∧
    s.cm.fullStart = none ∧ s.cm.floorStart = none ∧ s.cm.clearStart = none ∧ s.cm.convDue = 100000 ∧
    s.cm.fullLatched = false ∧ (s.cm.failCount, s.cm.passCount) = (0, 0) ∧
    (s.cm.winSum, s.cm.winCount, s.cm.winMean) = (0, 0, 0) ∧ s.cm.sensor = ⟨false, 0, 0⟩) ∧
  (s.au.table = [] ∧ s.au.shedList = [] ∧ s.au.pointer = 0 ∧ s.au.surplus = false ∧ s.au.deficit = false ∧
    s.au.breach = false ∧ s.au.breachTime = none ∧ s.au.reserveLow = false ∧ s.au.reviewDue = 60000000 ∧
    (s.au.last.time, s.au.last.mean, s.au.last.free, s.au.last.horizon, s.au.last.demand, s.au.last.headroom) =
      (0, 0, 0, 0, 0, 0) ∧
    (s.au.last.surplus, s.au.last.deficit, s.au.last.breach, s.au.last.nShed, s.au.last.nRestored) =
      (false, false, false, 0, 0)) ∧
  ((∀ n : Fin 12, chan n s = { state := .off }) ∧ s.ca.check = none ∧ s.ca.results = none) ∧
  (s.hs.phase = .off ∧ s.hs.purgeOwed = false ∧ s.hs.lockout = none ∧ s.hs.tc = none ∧ s.hs.tf = none ∧
    s.hs.merged = none ∧ s.hs.stage = none ∧ s.hs.purge = none ∧ s.hs.pending = none ∧
    (s.hs.attempts, s.hs.flameOuts, s.hs.proven) = (0, 0, false) ∧ (s.hs.preheatDue, s.hs.ignitionDue) = (none, none) ∧
    (s.hs.regulationDue, s.hs.provenDue, s.hs.satisfiedDue, s.hs.flameOutDue) = (none, none, none, none) ∧
    (s.hs.cabin, s.hs.flame) = (⟨false, 0, 0⟩, ⟨false, 0, 0⟩)) ∧
  (s.cs.enable = false ∧ s.cs.c = 0 ∧ s.cs.nextDue = 1800 ∧ s.cs.run = none ∧ s.cs.slotPending = false ∧
    s.cs.mode = .normal ∧ s.cs.minOffDue = some 180000000 ∧ s.cs.tk = none ∧ s.cs.runDue = none ∧
    s.cs.sensor = ⟨false, 0, 0⟩ ∧ (s.cs.warm, s.cs.deficit, s.cs.surplus) = (false, false, false) ∧
    s.cs.lastDecision = none) ∧
  ((∀ i : Fin 4, record i s = none) ∧ s.rm.rests = ⟨none, none⟩ ∧ s.rm.moving = false ∧
    s.rm.accountDue = 60000000 ∧ s.rm.holder = none ∧ s.rm.entryRest = none) ∧
  (s.wu.list = [] ∧ s.wu.chime = .idle 1000000 ∧
    ∀ b : Bunk, ((s.wu.flash.get b).cycle, (s.wu.flash.get b).givenUp, (s.wu.sunrise.get b).state) =
      (none, false, .none)) ∧
  (s.fu.record = none ∧ s.fu.susp = [] ∧ inHold s = false ∧ s.fu.holdRecord = none ∧ s.fu.entryTime = none ∧
    (s.fu.cause1, s.fu.cause2, s.fu.cause3, s.fu.cause4) = (none, none, none, none)) ∧
  (s.tu.rtc = 0 ∧ s.tu.subSecond = 0 ∧ s.tu.timeSet = false ∧ s.tu.source = .crystal ∧ s.tu.degraded = false ∧
    s.tu.lastCause = .power ∧ s.tu.kporFlag = true ∧ s.tu.mode = .awake ∧ s.tu.postExit = false ∧
    (s.tu.exitDue, s.tu.dozeDue, s.tu.lastWake) = (none, none, none)) ∧
  (s.hr.paired = ⟨none, none⟩ ∧ s.hr.window = none ∧ s.hr.rx = .idle ∧ s.hr.lastFrame = none ∧
    s.hr.lastAction = none) ∧
  (∀ n : Fin 8, input n s =
    { config := ⟨.activeHigh, .edge, true, true, true, false⟩, pin := false, active := false, debounceDue := none
      lastEvent := none }) ∧
  (s.ei.doorOutcome, s.ei.lowerOutcome, s.ei.upperOutcome) = (none, none, none) ∧
  (∀ l : Link, (port l s).slot = none ∧ (port l s).notices = noticeMask .reset ∧
    (port l s).enables = allNotices ∧ (port l s).released = false) ∧
  s.policyLock = false ∧
  s.policy =
    { p01 := 225000, p02 := 60000, p03 := 3, p04 := 243, p05 := 28400, p06 := 100, p07 := 23000
      p10 := 240, p11 := 2000, p12 := 200, p13 := 4500, p14 := 1500, p15 := 1500, p16 := 400, p17 := 400, p18 := 300
      p19 := 3000, p20 := 3000, p21 := 2000, p23 := 40, p24 := 64
      p30 := 900, p31 := 1300, p32 := 1800, p33 := 2400, p34 := 250, p35 := 200, p36 := 2, p37 := 30
      p40 := 0, p41 := 8, p42 := 30, p43 := 20, p44 := 45, p45 := 8, p46 := 4
      p50 := 270, p51 := 45, p52 := 15, p53 := 540, p54 := 660, p55 := 540, p56 := 3, p57 := 2700, p58 := 15, p59 := 3
      p60 := 120, p61 := 5, p62 := 15, p63 := 0, p64 := 1000 }

/-- Each invariant that a step keeps holds right after reset (R5, R24, R40, R57, R79, R85, R98, R114, R120, R138, R159, R185,
R200, R201), at the reset state the model chooses [20]. -/
def Obligations.InvariantsHoldAtReset : Prop :=
  ChargeInRange State.reset ∧ CreditInRange State.reset ∧ PurgeSettled State.reset ∧ PumpGated State.reset ∧
  OutputsOff State.reset ∧ DrivingOrdered State.reset ∧ RecordsDistinct State.reset ∧ PairingDistinct State.reset ∧
  MasksInRange State.reset ∧ SuspensionsDistinct State.reset ∧ WarningsDistinct State.reset ∧
  TableSound State.reset ∧ ShedListed State.reset

/-- A main reset holds the main domain in reset with its cause and leaves every item of the keep-alive domain as it stands;
RESTART from Link V begins one of 1 ms and keeps no response (R173, R174, R208). That the main domain has its reset values
from the start of the main reset [40], the last current of each channel at 0 among them [17], is the model's choice. -/
def Obligations.MainResetKeepsKeepAlive : Prop :=
  (∀ s : State, Serving .v s → ∃ t h, exec (.restart .v) s = .next t ∧ t.tu.resetHold = some h ∧ h.restart = true ∧
    h.restartDue = some (s.tu.clock + 1000) ∧ t.portV.slot = none ∧ t.portB.slot = none ∧ t.au.table = [] ∧
    t.fu = {} ∧ t.cm.q = s.cm.q ∧ t.cm.r = s.cm.r ∧ t.hs.purgeOwed = s.hs.purgeOwed ∧ t.hs.lockout = s.hs.lockout ∧
    t.rm.recs = s.rm.recs ∧ t.policy = s.policy ∧ t.tu.rtc = s.tu.rtc ∧ t.tu.timeSet = s.tu.timeSet) ∧
  ∀ (cause : ResetCause) (s : State), ∃ t h, exec (.mainReset cause) s = .next t ∧
    t.tu.resetHold = some h ∧
    (cause = .power → h.power = true) ∧ (cause = .pin → h.pin = true) ∧
    (cause = .restart → h.restart = true ∧ h.restartDue = some (s.tu.clock + 1000)) ∧
    (∀ g, s.tu.resetHold = some g →
      (g.power = true → h.power = true) ∧ (g.pin = true → h.pin = true) ∧ (g.restart = true → h.restart = true) ∧
        h.kpor = g.kpor) ∧
    (t.tu.rtc, t.tu.subSecond, t.tu.timeSet, t.tu.source, t.tu.degraded, t.tu.stableDue, t.tu.lastCause, t.tu.kporFlag) =
      (s.tu.rtc, s.tu.subSecond, s.tu.timeSet, s.tu.source, s.tu.degraded, s.tu.stableDue, s.tu.lastCause,
        s.tu.kporFlag) ∧
    (t.policy, t.policyLock, t.cm.q, t.cm.r, t.cm.seeded, t.hs.purgeOwed, t.hs.lockout, t.hr.paired) =
      (s.policy, s.policyLock, s.cm.q, s.cm.r, s.cm.seeded, s.hs.purgeOwed, s.hs.lockout, s.hr.paired) ∧
    (t.cs.enable, t.cs.c, t.cs.nextDue, t.cs.run, t.cs.slotPending, t.rm.recs, t.rm.rests) =
      (s.cs.enable, s.cs.c, s.cs.nextDue, s.cs.run, s.cs.slotPending, s.rm.recs, s.rm.rests) ∧
    (∀ n : Fin 8, (input n t).config = (input n s).config ∧ (input n t).active = false) ∧
    t.tu.mode = .awake ∧ t.au.table = [] ∧ t.au.shedList = [] ∧ (∀ n : Fin 12, chan n t = { state := .off }) ∧
    t.hs.phase = .off ∧ t.wu.list = [] ∧ t.fu = {} ∧
    (∀ l : Link, (port l t).slot = none ∧ (port l t).notices = noticeMask .reset ∧
      (port l t).enables = allNotices ∧ (port l t).released = false)

/-- At the end of a main reset the causes are recorded, RESET stands in both notice sets (R209), and the heater enters the
phase its keep-alive items give: PURGE in full with a kept lockout as its pending cause and else OFF to follow, LOCKOUT, or
OFF; a pre-warm placed meanwhile makes PREHEAT of that OFF (R77, R84, R97, R174), and an overheat pin active without debounce
acts after it [16]. CS lowers its credit for a slot run that ran or was pending, clears its runs, places COOLING again and
takes a passed due at once (R98, R102, R104, R113), the next counted from now by the model's inference [12]. Every input is
judged afresh (R190) at the pin's level, which the model keeps through the reset [19], a degraded RTC is reported anew (R134,
R175), and the records are kept (R137). Where no input acts at once, the rests are kept but for those whose wake timeout has
passed, quiet hours, the pre-warm and the sunrises are formed afresh, and each WAKE, driver and short-rest condition that
holds stands in the list (R126, R129, R131, R132, R137, R141, R150, R155); the planned end beside the sunrise of an ended rest
is absent by the model's choice [29]. A KPOR gives the keep-alive domain its values and
begins a main reset with cause POWER (R173). -/
def Obligations.MainResetEndRestartsPart : Prop :=
  (∀ (s : State) (h : ResetHold), s.tu.resetHold = some h →
    let hotPin : Bool := !(input 1 s).config.debounce &&
      (input 1 s).pin == ((input 1 s).config.polarity == .activeHigh)
    ∃ t, exec .mainResetEnd s = .next t ∧
    t.tu.resetHold = none ∧
    t.tu.lastCause = (if h.power then .power else if h.pin then .pin else .restart) ∧ t.tu.kporFlag = h.kpor ∧
    (s.hs.purgeOwed = true → t.hs.phase = .purge ∧ t.hs.purgeOwed = true ∧
      (∃ run, t.hs.purge = some run ∧ run.full = true) ∧
      (∀ c, s.hs.lockout = some c → t.hs.lockout = some c ∧ t.hs.pending = some c ∧
        t.hs.purge.map (·.followOn) = some .lockout) ∧
      (s.hs.lockout = none → hotPin = false → t.hs.pending = none ∧
        t.hs.purge.map (·.followOn) = some (if t.hs.merged.isSome then .preheat else .off))) ∧
    (s.hs.purgeOwed = false → s.hs.lockout.isSome = true → t.hs.phase = .lockout ∧ t.hs.lockout = s.hs.lockout) ∧
    (s.hs.purgeOwed = false → s.hs.lockout = none → hotPin = false →
      t.hs.phase = (if t.hs.merged.isSome then .preheat else .off) ∧ t.hs.lockout = none) ∧
    (s.rm.rests = ⟨none, none⟩ → t.hs.merged = none) ∧
    (∀ l : Link, hasNotice .reset (port l t) = true) ∧
    (let t0 := max s.tu.clock (h.restartDue.getD 0)
     let raw (n : Fin 8) : Bool := (input n s).pin == ((input n s).config.polarity == .activeHigh)
     let calm : Prop := ∀ n : Fin 8, (input n s).config.debounce = true ∨ raw n = false
     let cut : Int := if (s.cs.slotPending = true ∨ s.cs.run = some .slot) ∧ -8 < s.cs.c then s.cs.c - 1 else s.cs.c
     let late : Bool := s.cs.enable && atOrAfter (now s) s.cs.nextDue
     let interval : Nat := if s.policy.p40 = 2 then s.policy.p43 else if s.policy.p40 = 3 then s.policy.p44 else s.policy.p42
     let ends (b : Bunk) : Bool := match (s.rm.rests.get b).bind (·.plannedEnd) with
       | some p => atOrAfter (now s) (p + 1800#32)
       | none => false
     let fields (r : BunkRest) := (r.record, r.start, r.plannedEnd, r.prewarm, r.snoozes)
     let zone (b : Bunk) : Load := match b with | .lower => .zoneLower | .upper => .zoneUpper
     t.tu.clock = t0 ∧ t.tu.rtc = s.tu.rtc ∧
     (t.cs.enable, t.cs.run, t.cs.runDue, t.cs.minOffDue, t.cs.warm) =
       (s.cs.enable, none, none, some (t0 + 180000000), false) ∧
     (findGrant .fridge .cooling t).map (·.state) = (if s.cs.enable then some .active else none) ∧
     (late = false → (t.cs.c, t.cs.slotPending, t.cs.nextDue, t.cs.lastDecision) = (cut, false, s.cs.nextDue, none)) ∧
     (late = true → t.cs.nextDue = now s + BitVec.ofNat 32 (60 * interval) ∧
       (t.cs.c, t.cs.slotPending, t.cs.lastDecision) =
         if 0 < cut then (cut - 1, false, some (.banked, now s, cut - 1)) else (cut, true, some (.counted, now s, cut))) ∧
     (∀ n : Fin 8,
       let x := input n s
       let acts : Bool := !x.config.debounce && raw n
       input n t = { config := x.config, pin := x.pin, active := acts
                     debounceDue := if x.config.debounce && raw n then some (t0 + 20000) else none
                     lastEvent := if acts then some (now s) else none }) ∧
     (∀ i : Fin 4, record i t = (record i s).map (fun r => { r with timeUncertain := r.timeUncertain || s.tu.degraded })) ∧
     (s.tu.degraded = true → Noticed .rtcDegraded t ∧ Noticed .fault t ∧
       (hotPin = false → t.fu.record = some ⟨⟨.timebase, .slowOscStop, 0, .mode .awake, true⟩, now s⟩) ∧
       (hotPin = true → t.fu.record.map (·.report.code) = some .overheat ∧
         t.fu.holdRecord = some ⟨.timebase, .slowOscStop, now s⟩ ∧ t.fu.cause1 = some (now s))) ∧
     (calm → ∀ b : Bunk,
       let rest := t.rm.rests.get b
       let x := t.wu.sunrise.get b
       let sunset : Option RtcTime := if s.policy.p62 = 0 then none else rest.bind (·.plannedEnd)
       rest.map fields = (if ends b then none else (s.rm.rests.get b).map fields) ∧
       t.rm.quiet.get b = quietNow b t ∧
       (rest.map (·.prewarmState) = some .placed → t.rm.entryRest = some ⟨b, false⟩ ∧ t.rm.holder = some b ∧
         (findGrant .heater .schedule t).map (·.origin) = some (match b with | .lower => .lower | .upper => .upper)) ∧
       (t.rm.holder = some b → rest.map (·.prewarmState) = some .placed ∨ rest.map (·.prewarmState) = some .refused ∨
         rest.map (·.prewarmState) = some .done) ∧
       ((findWarning .wake (.bunk b) t).map (·.level) = (match rest.bind (·.plannedEnd) with
         | some p => if atOrAfter (now s) p then some .alert
           else if atOrAfter (now s) (p - BitVec.ofNat 32 (60 * s.policy.p61)) then some .notice else none
         | none => none)) ∧
       (sunset = none → (x.state, x.plannedEnd) = (if ends b then .done else .none, none) ∧
         findGrant (zone b) .schedule t = none) ∧
       (∀ p, sunset = some p → x.plannedEnd = some p ∧
         (atOrAfter (now s) (p + 1200#32) = true → x.state = .done) ∧
         (atOrAfter (now s) (p + 1200#32) = false →
           (findGrant (zone b) .schedule t).map (fun g => (g.start, g.endTime)) =
             (if x.state = .placed then some (some (p - BitVec.ofNat 32 (60 * s.policy.p62)), some (p + 1200#32)) else none) ∧
           (x.state = .placed ∨ x.state = .refused)))) ∧
     (∀ i : Fin 4, t.rm.conds[i] = rangeConds s.policy (record i s) ∧ listedConds i t = rangeConds s.policy (record i s)) ∧
     (calm → ∀ i : Fin 4, ∀ r, record i s = some r → ∀ x, r.shortRest = some x →
       (findWarning (if x.1 then .restBroken else .restShort)
         (match x.2 with | .bunk b => .bunk b | .record => .record i) t).isSome = true))) ∧
  (∀ s : State, ∃ t h, exec .kpor s = .next t ∧ t.tu.resetHold = some h ∧ h.power = true ∧ h.kpor = true ∧
    t.tu.rtc = 0 ∧ t.tu.subSecond = 0 ∧ t.tu.timeSet = false ∧ t.tu.source = .crystal ∧ t.tu.degraded = false ∧
    t.policy = State.reset.policy ∧ t.policyLock = false ∧ t.cm.q = 112500 ∧ t.cm.r = 0 ∧ t.cm.seeded = false ∧
    t.hs.purgeOwed = false ∧ t.hs.lockout = none ∧
    t.cs.enable = false ∧ t.cs.c = 0 ∧ t.cs.nextDue = 1800 ∧ t.cs.run = none ∧ t.cs.slotPending = false ∧
    (∀ i : Fin 4, record i t = none) ∧ t.rm.rests = ⟨none, none⟩ ∧ t.hr.paired = ⟨none, none⟩ ∧
    (∀ n : Fin 8, (input n t).config = InputConfig.initial))

/-! ### The link ports -/

/-- A transfer that starts shifts out the link status byte of the slot in AWAKE; in DOZE it shifts out WAKING and is a
wake request that starts the 2 ms exit (R176, R179, R180, R195). -/
def Obligations.TransferStartGivesStatusByte : Prop :=
  (∀ (l : Link) (s : State), Running s → s.tu.mode = .awake → (port l s).transfer = .none →
    exec (.transferStart l) s = .next (mapPort l
      (fun p => { p with
        transfer := .open_ false
        out := [if p.slot.isSome then 0x51#8 else 0x50#8] }) { s with tu.dozeDue := none })) ∧
  (∀ (l : Link) (s : State), Running s → s.tu.mode = .doze → (port l s).transfer = .none →
    ∃ t, exec (.transferStart l) s = .next t ∧ (port l t).transfer = .open_ true ∧ (port l t).out = [0x52#8] ∧
      (port l t).slot = (port l s).slot ∧ t.tu.mode = .doze ∧
      (s.tu.exitDue = none → t.tu.exitDue = some (s.tu.clock + 2000) ∧ t.tu.postExit = false ∧
        t.tu.lastWake = some (match l with | .v => .linkV | .b => .linkB, s.tu.rtc)) ∧
      (∀ d, s.tu.exitDue = some d → t.tu.exitDue = some d ∧ t.tu.lastWake = s.tu.lastWake) ∧
      besideAnswer l { t with tu := s.tu } =
        besideAnswer l { mapPort l (fun p => { p with out := [0x52#8] }) s with tu := s.tu })

/-- FETCH clocks out the slot's response, or EMPTY, after the link status byte, and empties the slot when every byte was
clocked; in DOZE and during an exit it leaves the slot and clocks no response (R180, R199). That the bytes clocked out stand
in a field of state is the model's choice [4]. -/
def Obligations.FetchClocksOutResponse : Prop :=
  (∀ (l : Link) (n : Nat) (s : State), Serving l s → ∃ t, exec (.fetch l n) s = .next t ∧
    (let r : Response := (port l s).slot.getD ⟨.empty, 0x01#8, []⟩
     (port l t).out = ((port l s).out.take 1 ++
        ([0x00#8, statusCode r.status, r.kind, BitVec.ofNat 8 r.payload.length] ++ r.payload)).take n ∧
     (port l t).slot = if r.payload.length + 5 ≤ n then none else (port l s).slot) ∧
    (port l t).transfer = .none ∧ (port l t).released = (port l s).released ∧
    besideAnswer l t = besideAnswer l (mapPort l (fun p => { p with out := (port l t).out }) s)) ∧
  (∀ (l : Link) (n : Nat) (s : State), (port l s).transfer = .open_ true → ∃ t, exec (.fetch l n) s = .next t ∧
    (port l t) = { port l s with transfer := .none } ∧ besideAnswer l t = besideAnswer l s)

/-- NOTICES reports the notice set and clears it, and INPUT is set again for a LEVEL input still active; NOTICE_ENABLE stores
bits 0 to 16; RELEASE sets the released flag (R191, R200 to R202). The attention line is asserted while an enabled notice is
set or the slot holds a response, and is released during a main reset (R201). -/
def Obligations.NoticesEnablesAndRelease : Prop :=
  (∀ (l : Link) (s : State), Serving l s → ∃ t, exec (.notices l) s = .next t ∧
    Answered l 0x02#8 .ok (enc32 (port l s).notices) t ∧
    (port l t).notices =
      (if hasNotice .input (port l s) && levelInputs l s then noticeMask .input else 0#32) ∧
    besideAnswer l t = besideAnswer l (mapPort l (fun p => { p with notices := (port l t).notices }) s)) ∧
  (∀ (l : Link) (mask : BitVec 32) (s : State), Serving l s →
    exec (.noticeEnable l mask) s = .next (answered l 0x03#8 .ok (enc32 (mask &&& 0x1FFFF#32))
      (mapPort l (fun p => { p with enables := mask &&& 0x1FFFF#32 }) s))) ∧
  (∀ (l : Link) (s : State), Serving l s → ∃ t, exec (.release l) s = .next t ∧
    Answered l 0x04#8 .ok [1#8, if (port (otherLink l) s).released then 1#8 else 0#8] t ∧
    (port l t).released = true ∧ besideAnswer l t = besideAnswer l s) ∧
  (∀ (l : Link) (s : State),
    (s.tu.resetHold.isSome = true → attention l s = false) ∧
    (Running s → MasksInRange s → (attention l s = true ↔ (port l s).slot.isSome = true ∨
      ∃ n : Notice, hasNotice n (port l s) = true ∧ (port l s).enables.getLsbD (noticeBit n) = true)))

/-- The port judges a frame in the order of R196: no byte gives no response; a frame cut short gives MALFORMED, then an
undefined kind UNKNOWN, then a kind the link may not send NOT_PERMITTED, then a wrong length or a presence byte that
disagrees with it MALFORMED, then an argument outside its values MALFORMED (R195, R196, R197, R203); begun in DOZE it is
answered WAKING (R180). A frame that spells a request, its arguments in the forms of R197, is that request [26]. -/
def Obligations.UndefinedRequestsJudgedInOrder : Prop :=
  (∀ (l : Link) (s : State), Serving l s →
    exec (.undefinedRequest l []) s = .next (endTransfer l (mapPort l (fun p => { p with out := [] }) s)) ∧
    (∀ k : Byte, k ≠ 0x01#8 →
      exec (.undefinedRequest l [k]) s = .next (answered l k .malformed [] s) ∧
      ∀ (n : Byte) (rest : List Byte),
        (30 < n.toNat ∨ rest.length < n.toNat →
          exec (.undefinedRequest l (k :: n :: rest)) s = .next (answered l k .malformed [] s)) ∧
        (n.toNat ≤ 30 → n.toNat ≤ rest.length →
          (catalogueRow? k.toNat = none →
            exec (.undefinedRequest l (k :: n :: rest)) s = .next (answered l k .unknown [] s)) ∧
          (∀ row, catalogueRow? k.toNat = some row →
            let p := rest.take n.toNat
            let beyond (places : List (Nat × Nat)) : Bool := places.any (fun x => x.2 ≤ (argByte p x.1).toNat)
            let disagrees : Bool :=
              (k == 0x10#8 && argByte p 6 != (if n = 11#8 then 1#8 else 0#8)) ||
              (k == 0x60#8 && argByte p 2 != (if n = 8#8 then 1#8 else 0#8))
            let outside : Bool := match k.toNat with
              | 0x10 => beyond [(0, 10), (1, 6), (2, 3)]
              | 0x11 | 0x12 => beyond [(0, 10), (1, 6)]
              | 0x18 => beyond [(0, 9), (1, 7)]
              | 0x1C => beyond [(0, 19)]
              | 0x20 => beyond [(0, 3), (1, if argByte p 0 = 0#8 then 4 else 2)]
              | 0x24 | 0x40 | 0x42 | 0x61 | 0x62 | 0x63 => beyond [(0, 2)]
              | 0x41 => beyond [(0, 2), (1, 4)]
              | 0x48 => beyond [(1, 2), (2, 2), (3, 2), (4, 8)]
              | 0x60 => beyond [(0, 2), (1, 2), (n.toNat - 1, 2)]
              | _ => false
            ((match l with | .v => row.onV | .b => row.onB) = false →
              exec (.undefinedRequest l (k :: n :: rest)) s = .next (answered l k .notPermitted [] s)) ∧
            ((match l with | .v => row.onV | .b => row.onB) = true →
              n.toNat ∉ row.lengths ∨ disagrees = true ∨ outside = true →
              exec (.undefinedRequest l (k :: n :: rest)) s = .next (answered l k .malformed [] s)))))) ∧
  (∀ (l : Link) (k : Byte) (rest : List Byte) (s : State), (port l s).transfer = .open_ true → k ≠ 0x01#8 →
    exec (.undefinedRequest l (k :: rest)) s = .next (answered l k .waking [] s)) ∧
  (∀ (c : Instr) (l : Link) (k : Byte) (s : State), requestKind c = some (l, k) →
    exec (.undefinedRequest l (requestFrame k c)) s = exec c s)

/-- Every request but FETCH whose transfer began in DOZE or during an exit is answered WAKING and changes nothing else; one that
the catalogue does not permit on its link is answered NOT_PERMITTED; one whose transfer was met by a main reset ends without
effect and without response (R180, R196, R203, R208). -/
def Obligations.RequestsAnsweredByPort : Prop :=
  ∀ (c : Instr) (l : Link) (k : Byte) (s : State), requestKind c = some (l, k) →
    ((port l s).transfer = .open_ true → exec c s = .next (answered l k .waking [] s)) ∧
    ((port l s).transfer = .open_ false → permitted l k = false →
      exec c s = .next (answered l k .notPermitted [] s)) ∧
    ((port l s).transfer = .lost → exec c s = .next (mapPort l (fun p => { p with transfer := .none }) s))

/-- The reads answer with their owner's figures as they stand and change nothing but the over-range flag, which a report of
section CHARGE clears (R2, R21, R47, R54, R72, R153, R166, R205, R207). The details of the reports' forms [10], and that section TIME shows
the link's own released flag clear [47], are the model's choice. -/
def Obligations.ReadsReportAndChangeNothing : Prop :=
  ∀ (l : Link) (s : State), Serving l s →
    (∀ n : Byte, n.toNat < 7 → ∃ body, statusSection n.toNat (clearReleased l s) = some body ∧
      exec (.statusRead l n) s = .next (answered l 0x05#8 .ok (statusHeader s ++ body)
        (if n = 0#8 then { s with cm.overRange := false } else s))) ∧
    (∀ n : Byte, 7 ≤ n.toNat → exec (.statusRead l n) s = .next (answered l 0x05#8 .notFound [] s)) ∧
    exec (.budgetRead l) s = .next (answered l 0x06#8 .ok (chargeFigures s ++ tableFigures s) s) ∧
    (∀ (load : Load) (p : Purpose),
      exec (.grantProbe l load p) s = .next (match findGrant load p s with
        | some g => answered l 0x11#8 .ok (encGrant s g) s
        | none => answered l 0x11#8 .notFound [] s)) ∧
    exec (.warningList l) s = .next (answered l 0x19#8 .ok (warningFigures s) s) ∧
    exec (.faultRead l) s = .next (answered l 0x1D#8 .ok (faultFigures s) s) ∧
    (l = .v → exec (.checkRead l) s = .next (
        if s.ca.check.isSome then answered l 0x55#8 .testing [] s
        else match s.ca.results with
          | some r => answered l 0x55#8 .ok (encWiring r) s
          | none => answered l 0x55#8 .notFound [] s)) ∧
    (l = .v → ∀ item : Byte, exec (.policyGet l item) s = .next (match policyItem? s.policy item.toNat with
        | some v => answered l 0x31#8 .ok
            (encNat32 v ++ encNat32 (itemRange s.policy item.toNat).1 ++ encNat32 (itemRange s.policy item.toNat).2 ++
              encFlag s.policyLock) s
        | none => answered l 0x31#8 .notFound [] s))

/-! ### The Charge Monitor -/

/-- A positive sample is weighted by the charge efficiency with its fraction dropped, any other is taken whole (R4). The
integrator keeps every mC of a sample charge but at the ends of the count, where the residue goes to 0, and one sample
changes the count by at most 92 mAh (R4, R5). -/
def Obligations.IntegrationKeepsCharge : Prop :=
  ∀ (cnom q r : Nat) (i : Int) (w eta : Nat), q ≤ cnom → r < 3600 →
    let charge := sampleCharge i w eta
    let total : Int := 3600 * (q : Int) + (r : Int) + charge
    let n := integrate cnom q r charge
    (i ≤ 0 → charge = i * w) ∧
    (0 < i → 256 * charge ≤ i * w * eta ∧ i * w * eta < 256 * (charge + 1)) ∧
    n.1 ≤ cnom ∧ n.2 < 3600 ∧
    (0 ≤ total → total < 3600 * ((cnom : Int) + 1) → 3600 * (n.1 : Int) + (n.2 : Int) = total) ∧
    (3600 * ((cnom : Int) + 1) ≤ total → n = (cnom, 0)) ∧
    (total < 0 → n = (0, 0)) ∧
    (-32768 ≤ i → i ≤ 32767 → w ≤ 10 → eta ≤ 256 → (n.1 : Int) ≤ q + 92 ∧ (q : Int) ≤ n.1 + 92)

/-- The derating factor keeps to 96..256, is 256 from 25 °C up, and with it the floor count is the smallest count whose
usable charge covers the reserve (R6, R7, R15); before the first temperature result the factor is that of −20 °C (R6). -/
def Obligations.FloorCountIsSmallestCover : Prop :=
  ∀ s : State,
    (s.cm.sensor.failed = true → tbInUse s = -20) ∧ (s.cm.sensor.failed = false → tbInUse s = s.cm.tb) ∧
    (25 ≤ tbInUse s → factor s = 256) ∧
    (tbInUse s < 25 → (factor s : Int) = max 96 (256 - (s.policy.p03 : Int) * (25 - tbInUse s))) ∧
    96 ≤ factor s ∧ factor s ≤ 256 ∧
    freeCharge s = (s.cm.q * factor s / 256 : Nat) - (s.policy.p02 : Int) ∧
    State.reset.cm.tb = -20 ∧
    ∀ q : Nat, 0 ≤ freeCharge { s with cm.q := q } ↔ floorCount s ≤ q

/-- A conversion that passes in GOOD, or is the tenth that passes while LOST, is integrated and enters the window; any other is
discarded; the third FAIL in GOOD loses the path, and FU captures it and enters SAFE HOLD with cause 2 (R1, R2, R12, R17
to R20). The detectors that were not running start where their condition is met. That a discarded conversion leaves the
full-latched flag [49] and that the capture shows the path LOST [33] is the model's choice. -/
def Obligations.ConversionIntegratesOrDiscards : Prop :=
  ∀ (shunt volt : Int) (s : State), Running s → s.cm.voltageFloor = false →
    let t := max s.tu.clock s.cm.convDue
    (s.cm.fullLatched = false → s.cm.fullStart = none → s.cm.floorStart = none →
      (s.cm.pathLost = false ∨ 9 ≤ s.cm.passCount) →
      exec (.conversion shunt volt true) s = .next (let x := sampled t shunt volt s
        { x with cm := { x.cm with
          q := (counted shunt s).1, r := (counted shunt s).2, pathLost := false, qStale := s.cm.qStale || s.cm.pathLost
          failCount := 0, passCount := s.cm.passCount + 1
          winSum := s.cm.winSum + currentOf shunt, winCount := s.cm.winCount + 1
          fullStart := if s.policy.p05 ≤ voltageOf volt ∧ 0 ≤ currentOf shunt ∧ currentOf shunt ≤ s.policy.p06 then some t
            else none
          floorStart := if voltageOf volt < s.policy.p07 ∧ currentOf shunt < 0 ∧ (input 0 s).active = false then some t
            else none } })) ∧
    (s.cm.pathLost = true → s.cm.passCount < 9 →
      exec (.conversion shunt volt true) s = .next (let x := sampled t shunt volt s
        { x with cm := { x.cm with
          failCount := 0, passCount := s.cm.passCount + 1, fullStart := none, floorStart := none } })) ∧
    ((s.cm.pathLost = true ∨ s.cm.failCount < 2) →
      exec (.conversion shunt volt false) s = .next (let x := sampled t shunt volt s
        { x with cm := { x.cm with
          failCount := s.cm.failCount + 1, passCount := 0, fullStart := none, floorStart := none } })) ∧
    (s.cm.pathLost = false → 2 ≤ s.cm.failCount → s.fu.record = none →
      ∃ u, exec (.conversion shunt volt false) s = .next u ∧ u.cm.pathLost = true ∧
        u.cm.q = s.cm.q ∧ u.cm.r = s.cm.r ∧ u.cm.winCount = s.cm.winCount ∧ u.cm.floorStart = none ∧
        u.fu.record = some ⟨⟨.charge, .chargePath, 0, .chargePath true, false⟩, now s⟩ ∧ inHold u = true ∧
        u.fu.cause2 = some (s.fu.cause2.getD (now s)) ∧ Noticed .fault u ∧
        besideFaults u = besideFaults (let x := sampled t shunt volt s
          { x with cm := { x.cm with
            failCount := s.cm.failCount + 1, passCount := 0, pathLost := true, fullStart := none, floorStart := none } }))

/-- A detector whose condition is met at the end of its duration fires: full detection sets the count to the capacity, the
floor correction lowers it to the smallest count that covers the reserve, and 60 s at the clearing voltage clear
VOLTAGE_FLOOR (R12 to R16). That a discarded conversion, with the path LOST, leaves the full-latched flag as it stands is the
model's choice [49]. -/
def Obligations.DetectorsFire : Prop :=
  ∀ (shunt volt : Int) (s : State), Running s →
    (∀ st, s.cm.fullStart = some st → s.cm.pathLost = false → s.cm.fullLatched = false → s.cm.voltageFloor = false →
      s.policy.p05 ≤ voltageOf volt → 0 ≤ currentOf shunt → currentOf shunt ≤ s.policy.p06 →
      exec (.fullDetection shunt volt) s = .next (notifyBoth .chargeFull
        (let x := sampled (max s.tu.clock (max s.cm.convDue (st + 600000000))) shunt volt s
        { x with cm := { x.cm with
          q := s.policy.p01, r := 0, seeded := true, qStale := false, fullLatched := true, fullStart := none
          floorStart := none, failCount := 0, passCount := s.cm.passCount + 1
          winSum := s.cm.winSum + currentOf shunt, winCount := s.cm.winCount + 1 } }))) ∧
    (∀ st, s.cm.floorStart = some st → s.cm.pathLost = false → s.cm.voltageFloor = false → (input 0 s).active = false →
      voltageOf volt < s.policy.p07 → currentOf shunt < 0 →
      let n := counted shunt s
      let lowers : Prop := floorCount s < n.1
      ∃ u, exec (.floorCorrection shunt volt) s = .next u ∧
        besideGrants u = besideGrants
          (let x := sampled (max s.tu.clock (max s.cm.convDue (st + 30000000))) shunt volt s
          { x with cm := { x.cm with
            q := min n.1 (floorCount s), r := if floorCount s < n.1 then 0 else n.2, voltageFloor := true
            fullStart := none, fullLatched := false, floorStart := none, clearStart := none
            failCount := 0, passCount := s.cm.passCount + 1
            winSum := s.cm.winSum + currentOf shunt, winCount := s.cm.winCount + 1 } }) ∧
        (lowers → 0 ≤ freeCharge u) ∧ (¬lowers → u.au = s.au ∧ u.ca = s.ca ∧ u.hs = s.hs)) ∧
    (∀ st, s.cm.clearStart = some st → s.cm.voltageFloor = true → s.policy.p07 + 500 ≤ voltageOf volt →
      let t := max s.tu.clock (max s.cm.convDue (st + 60000000))
      (s.cm.pathLost = true →
        exec (.voltageFloorClear shunt volt false) s = .next (let x := sampled t shunt volt s
          { x with cm := { x.cm with
            failCount := s.cm.failCount + 1, passCount := 0, fullStart := none, floorStart := none
            voltageFloor := false, clearStart := none } })) ∧
      ∀ pass : Bool, ∃ u, exec (.voltageFloorClear shunt volt pass) s = .next u ∧
        u.cm.voltageFloor = false ∧ u.cm.clearStart = none ∧ u.tu.clock = t)

/-- Three consecutive OPEN or SHORT results fail the battery or the cabinet sensor, with one capture; three consecutive
temperature results restore it; each result clamps to −40..85, and a cabinet result is judged against T_high as it stands
[48] (R3, R100, R108). A BATT_TEMP capture shows the charge path's state [33]. -/
def Obligations.TemperatureResultsJudged : Prop :=
  (∀ (c : Int) (s : State), Running s →
    let t := max s.tu.clock s.cm.tempDue
    let inUse : Bool := !s.cm.sensor.failed || decide (2 ≤ s.cm.sensor.goodCount)
    exec (.battTempConversion (.celsius c)) s = .next { s with
      tu.clock := t
      cm.tempDue := t + 1000000
      cm.sensor := { failed := !inUse, badCount := 0, goodCount := s.cm.sensor.goodCount + 1 }
      cm.tb := if inUse = true then max (-40) (min 85 c) else s.cm.tb }) ∧
  (∀ (r : TempResult) (code : FaultCode) (s : State),
    (r = .openCircuit ∧ code = .sensorOpen ∨ r = .shortCircuit ∧ code = .sensorShort) → Running s →
    let t := max s.tu.clock s.cm.tempDue
    (s.cm.sensor.failed = true ∨ s.cm.sensor.badCount < 2 →
      exec (.battTempConversion r) s = .next { s with
        tu.clock := t
        cm.tempDue := t + 1000000
        cm.sensor := { s.cm.sensor with badCount := s.cm.sensor.badCount + 1, goodCount := 0 } }) ∧
    (s.cm.sensor.failed = false → 2 ≤ s.cm.sensor.badCount → s.fu.record = none →
      ∃ u, exec (.battTempConversion r) s = .next u ∧ tbInUse u = -20 ∧
        u.fu = { s.fu with record := some ⟨⟨.battTemp, code, 0, .chargePath s.cm.pathLost, true⟩, now s⟩ } ∧
        Noticed .fault u ∧
        besideFaults u = besideFaults { s with
          tu.clock := t
          cm.tempDue := t + 1000000
          cm.sensor := { failed := true, badCount := s.cm.sensor.badCount + 1, goodCount := 0 } })) ∧
  (∀ (c : Int) (s : State), Running s → (s.cs.sensor.failed = false ∨ 2 ≤ s.cs.sensor.goodCount) →
    let t := max s.tu.clock s.cs.tempDue
    let temp := max (-40) (min 85 c)
    (s.cs.warm = false ∨ (s.policy.p45 : Int) - 2 < temp →
      exec (.cabinetTempConversion (.celsius c)) s = .next { s with
        tu.clock := t
        cs.tempDue := t + 1000000
        cs.sensor := { failed := false, badCount := 0, goodCount := s.cs.sensor.goodCount + 1 }
        cs.tk := some temp
        cs.hot := decide ((s.policy.p45 : Int) ≤ temp) }) ∧
    (s.cs.warm = true → temp ≤ (s.policy.p45 : Int) - 2 →
      ∃ u, exec (.cabinetTempConversion (.celsius c)) s = .next u ∧ u.cs.tk = some temp ∧ u.cs.warm = false ∧
        u.cs.hot = false ∧ findWarning .cabinetWarm .cab u = none ∧ besideGrants u = besideGrants { s with tu.clock := t })) ∧
  (∀ (r : TempResult) (code : FaultCode) (s : State),
    (r = .openCircuit ∧ code = .sensorOpen ∨ r = .shortCircuit ∧ code = .sensorShort) → Running s →
    s.cs.sensor.failed = false → 2 ≤ s.cs.sensor.badCount → s.fu.record = none →
    ∃ u, exec (.cabinetTempConversion r) s = .next u ∧ u.cs.tk = none ∧ u.cs.warm = false ∧ u.cs.sensor.failed = true ∧
      u.cs.hot = false ∧ findWarning .cabinetWarm .cab u = none ∧
      u.fu = { s.fu with record := some ⟨⟨.cabinetTemp, code, 0, .fridge s.cs.run, true⟩, now s⟩ } ∧
      besideFaults u = besideFaults { s with tu.clock := max s.tu.clock s.cs.tempDue })

/-- SEED_CHARGE sets the count to the value sent or the capacity, with seeded YES and Q_STALE clear (R10), and AU revalidates
the table: the live grants are re-admitted in order of class, then of position, each at its capped level, else at the highest
lesser level that fits the running demand, else SHED with one GRANT_SHED; class 0 stands, and outside surplus no sheddable
grant is left live above free charge (R45, R46). -/
def Obligations.SeedChargeSetsCount : Prop :=
  (∀ (q : BitVec 32) (s : State), Serving .v s →
    let seeded : State := { s with cm.q := min q.toNat s.policy.p01, cm.r := 0, cm.seeded := true, cm.qStale := false }
    ∃ t, exec (.seedCharge .v q) s = .next t ∧
      Answered .v 0x38#8 .ok [] t ∧
      besideGrants t = besideGrants { seeded with tu.dozeDue := none } ∧
      besideAnswer .v t = besideAnswer .v (revalidate seeded)) ∧
  (∀ s : State,
    let live : List Grant := ([0, 1, 2, 3] : List Nat).flatMap (fun k => s.au.table.filter (fun g =>
      (g.state == .active || g.state == .waiting) && shedClass g.load g.purpose == k))
    let p0 : Nat := purgeCharge s + startCharge s s.au.table
    let r := live.foldl (readmit (horizon s) (freeCharge s)) ({ s with au.pointer := 0 }, p0, false)
    revalidate s = mergeAll (if r.2.2 then notifyBoth .grantShed r.1 else r.1) ∧
    (r.2.2 = true → Noticed .grantShed (revalidate s)) ∧
    { r.1 with au := s.au } = s ∧ r.1.au.pointer = 0 ∧
    (r.1.au.surplus, r.1.au.deficit, r.1.au.breach) = (s.au.surplus, s.au.deficit, s.au.breach) ∧
    (TableSound s →
      r.1.au.table.map (fun g => (g.pos, g.load, g.purpose, g.req)) =
        s.au.table.map (fun g => (g.pos, g.load, g.purpose, g.req)) ∧
      (∀ g ∈ s.au.table, shedClass g.load g.purpose = 0 ∨ g.state = .shed ∨ g.state = .suspended → g ∈ r.1.au.table) ∧
      (s.au.surplus = false → (∃ g ∈ r.1.au.table, 1 ≤ shedClass g.load g.purpose ∧
          (g.state = .active ∨ g.state = .waiting)) →
        (demandOf s (horizon s) r.1.au.table : Int) ≤ freeCharge s))) ∧
  (∀ (h : Nat) (free : Int) (s : State) (p : Nat) (shed : Bool) (g : Grant),
    let want := capLevel (quietLimit s g.load g.purpose g.origin) g.req
    let total (v : Level) : Nat := p + projection s h { g with eff := v }
    let fits (v : Level) : Prop := s.au.surplus = true ∨ (total v : Int) ≤ free
    let placed (v : Level) : State × Nat × Bool :=
      (updateGrant g.load g.purpose (fun x => { x with eff := v }) s, total v, shed)
    let r := readmit h free (s, p, shed) g
    (shedClass g.load g.purpose = 0 → r = (s, p + projection s h g, shed)) ∧
    (shedClass g.load g.purpose ≠ 0 →
      (fits want → r = placed want) ∧
      (¬fits want →
        (∀ k : Nat, ∀ v, lesser g.load want k = some v → fits v →
          (∀ j : Nat, k < j → ∀ w, lesser g.load want j = some w → ¬fits w) → r = placed v) ∧
        ((∀ j : Nat, ∀ w, lesser g.load want j = some w → ¬fits w) → r = (shedGrant (now s) g s, p, true)))))

/-! ### The Admission Unit -/

/-- A GRANT_REQUEST is refused by the first condition of R33 that holds, in its order; a purpose other than COMFORT or the
load FRIDGE is refused NOT_PERMITTED before them, and level 0 or an end that has passed removes the entry instead (R32,
R33). -/
def Obligations.GrantRequestRefusedInOrder : Prop :=
  ∀ (l : Link) (load : Load) (origin : Origin) (level setpoint maxStage : Byte) (endTime : Option RtcTime) (s : State),
    Serving l s →
    let c (p : Purpose) : Instr := .grantRequest l load p origin level setpoint maxStage endTime
    let refused (st : Status) : Prop := exec (c .comfort) s = .next (answered l 0x10#8 st [] s)
    let ends : Bool := (isLevelled load && level == 0#8) ||
      (match endTime with | some e => atOrAfter (now s) e | none => false)
    let locked : Bool := loadLocked load s || isSuspended load s ||
      (match findGrant load .comfort s with | some g => g.state == .suspended | none => false)
    (∀ p : Purpose, p ≠ .comfort ∨ load = .fridge → exec (c p) s = .next (answered l 0x10#8 .notPermitted [] s)) ∧
    (load ≠ .fridge → ends = true →
      ((findGrant load .comfort s).isNone = true → refused .notFound) ∧
      (∀ g, findGrant load .comfort s = some g → ∃ t, exec (c .comfort) s = .next t ∧ Answered l 0x10#8 .ok [] t ∧
        findGrant load .comfort t = none ∧ g.pos ∉ t.au.shedList ∧
        besideGrants t = besideGrants { s with tu.dozeDue := none })) ∧
    (load ≠ .fridge → ends = false →
      (inHold s = true → refused .hold) ∧
      (inHold s = false → s.ca.check.isSome = true → refused .testing) ∧
      (inHold s = false → s.ca.check = none → locked = true → refused .loadLocked) ∧
      (inHold s = false → s.ca.check = none → locked = false → load = .heater → s.hs.lockout.isSome = true →
        refused .lockout) ∧
      (inHold s = false → s.ca.check = none → locked = false → load ≠ .heater ∨ s.hs.lockout = none →
        findGrant load .comfort s = none → 12 ≤ externalCount s → refused .noRoom))

/-- A request that no condition of R33 refuses is admitted at its capped figures in surplus or where P ≤ F, else at the
highest lesser figures that fit with REDUCED, else refused NO_HEADROOM with the shortfall; an entry that is present keeps
its position and a new one takes the lowest free one (R34 to R36). That the projection of a heater request counts its own
start charge, in the fit, the shortfall and the headroom, is the model's choice [13]. -/
def Obligations.GrantRequestAdmittedWhereItFits : Prop :=
  ∀ (l : Link) (load : Load) (origin : Origin) (level setpoint maxStage : Byte) (endTime : Option RtcTime) (s : State),
    Serving l s → TableSound s → load ≠ .fridge → (isLevelled load = true → level ≠ 0#8) →
    (match endTime with | some e => atOrAfter (now s) e | none => false) = false →
    inHold s = false → s.ca.check = none → loadLocked load s = false → isSuspended load s = false →
    (match findGrant load .comfort s with | some g => g.state == .suspended | none => decide (12 ≤ externalCount s)) = false →
    (load = .heater → s.hs.lockout = none) →
    let c : Instr := .grantRequest l load .comfort origin level setpoint maxStage endTime
    let limit := quietLimit s load .comfort origin
    let req := normalLevel load level.toNat setpoint.toNat maxStage.toNat
    let pos := match findGrant load .comfort s with | some g => g.pos | none => freePosition s.au.table
    let g : Grant :=
      { pos := pos, load := load, purpose := .comfort, requester := match l with | .v => .linkV | .b => .linkB
        origin := origin, req := req, eff := capLevel limit req, start := none, endTime := endTime, state := .active
        shedTime := none, quietLimit := limit }
    let demandWith (v : Level) : Nat := demandOf s (horizon s) (putAt { g with eff := v } s.au.table)
    let fits (v : Level) : Prop := s.au.surplus = true ∨ (demandWith v : Int) ≤ freeCharge s
    let places (v : Level) (st : Status) : Prop := ∃ t, exec c s = .next t ∧
      findGrant load .comfort t = some { g with eff := v } ∧ pos ∉ t.au.shedList ∧
      Answered l 0x10#8 st (encU8 pos ++ encLevel v ++ encNat32 (drawRate s { g with eff := v }) ++
        encNat32 (projection s (horizon s) { g with eff := v }) ++
        encInt32 (freeCharge s - (demandWith v : Int))) t ∧
      besideGrants t = besideGrants { s with tu.dozeDue := none }
    (pos < 16 ∧ (findGrant load .comfort s = none → (∀ x ∈ s.au.table, x.pos ≠ pos) ∧
      ∀ k < pos, ∃ x ∈ s.au.table, x.pos = k)) ∧
    (fits g.eff → places g.eff .ok) ∧
    (¬fits g.eff →
      (∀ k < 256, ∀ v, lesser load g.eff k = some v → fits v →
        (∀ j < 256, k < j → ∀ w, lesser load g.eff j = some w → ¬fits w) → places v .reduced) ∧
      ((∀ j < 256, ∀ w, lesser load g.eff j = some w → ¬fits w) →
        exec c s = .next (answered l 0x10#8 .noHeadroom (encInt32 ((demandWith g.eff : Int) - freeCharge s)) s)))

/-- A request of an external purpose meets the conditions of R33 in their order: the first that holds refuses it with its
code and leaves the state as it was. One that passes them all is admitted or refused NO_HEADROOM; outside surplus every
admission leaves projected demand within free charge, and a lamp or the vent it reduces is never left below level 26 (R33
to R36); that a heater request counts its own start charge there is the model's inference [13]. An admitted entry reaches its
load by the merge: an output load is off with a SUSPENDED entry, else at its highest ACTIVE level, on for STEP and the
outlets, fully lit in a flash's on-phase (R51, R148, R151); the merged heater grant is none with a SUSPENDED HEATER entry or
without an ACTIVE COMFORT or SCHEDULE one, else their highest setpoint and stage, and HS acts by phase where it appears,
changes or vanishes (R52, R77, R81, R82, R84, R86); a SUSPENDED COOLING entry cuts a pending slot run short (R109). That 255
stands for on or fully lit, and that an activation begins, with its counts 0, at an entry to PREHEAT that finds none (R75), are
the model's [22, 30]. -/
def Obligations.AdmissionTestsThenFits : Prop :=
  (∀ (r : GrantAsk) (s : State),
    let entry := findGrant r.load r.purpose s
    let refuses (st : Status) : Prop := (judgeAsk r s).status = st ∧ (judgeAsk r s).state = s
    let locked : Bool := loadLocked r.load s || entry.map (·.state) == some .suspended || isSuspended r.load s
    (inHold s = true → refuses .hold) ∧
    (inHold s = false → s.ca.check.isSome = true → refuses .testing) ∧
    (inHold s = false → s.ca.check = none → locked = true → refuses .loadLocked) ∧
    (inHold s = false → s.ca.check = none → locked = false → r.load = .heater → s.hs.lockout.isSome = true →
      refuses .lockout) ∧
    (inHold s = false → s.ca.check = none → locked = false → r.load ≠ .heater ∨ s.hs.lockout = none →
      entry = none → 12 ≤ externalCount s → refuses .noRoom) ∧
    (inHold s = false → s.ca.check = none → locked = false → r.load ≠ .heater ∨ s.hs.lockout = none →
      entry.isSome = true ∨ externalCount s < 12 →
      (judgeAsk r s).status = .ok ∨ (judgeAsk r s).status = .reduced ∨ refuses .noHeadroom)) ∧
  (∀ (r : GrantAsk) (s : State), (judgeAsk r s).status = .ok ∨ (judgeAsk r s).status = .reduced →
    ∃ g : Grant, (judgeAsk r s).state = mergeLoad r.load (placeGrant g s) ∧ g.load = r.load ∧ g.purpose = r.purpose ∧
      g.req = r.level ∧
      (s.au.surplus = false → (demandOf s (horizon s) (putAt g s.au.table) : Int) ≤ freeCharge s) ∧
      ((judgeAsk r s).status = .reduced → isLevelled r.load = true → 26 ≤ g.eff.level)) ∧
  (∀ (s : State), ∀ x ∈ ([(.zoneLower, 4), (.zoneUpper, 5), (.readLower, 6), (.readUpper, 7), (.step, 8), (.outlet1, 9),
      (.outlet2, 10), (.vent, 11)] : List (Load × Fin 12)),
    let load := x.1
    let zone : Option Bunk := match load with | .zoneLower => some .lower | .zoneUpper => some .upper | _ => none
    let held : Bool := s.au.table.any (fun g => g.load == load && g.state == .suspended)
    let live : List Grant := s.au.table.filter (fun g => g.load == load && g.state == .active)
    let cycle (b : Bunk) : Option (Bool × Nat) :=
      if (findGrant load .warning s).map (·.state) = some .active then
        some ((s.wu.flash.get b).cycle.getD (true, s.tu.clock + 1000000))
      else none
    let ramp (b : Bunk) : Nat := match findGrant load .schedule s with
      | some ⟨_, _, _, _, _, _, _, some st, some e, .active, _, _⟩ =>
        let r := timeDiff (e - 1200#32) st
        if r ≤ 0 then 160 else (max 0 (min 160 (160 * timeDiff (now s) st / r))).toNat
      | _ => (s.wu.sunrise.get b).ramp
    let share (g : Grant) : Nat := match g.purpose, zone with
      | .warning, _ => 0
      | .schedule, some b => min (ramp b) g.eff.level
      | _, _ => g.eff.level
    let flashes : Bool := match zone with | some b => (cycle b).map (·.1) == some true | none => false
    let level : Nat :=
      if held = true then 0
      else match load with
        | .outlet1 | .outlet2 => if live = [] then 0 else 255
        | .step => if live.all (fun g => share g == 0) then 0 else 255
        | _ => if flashes = true then 255 else (live.map share).foldl max 0
    mergeLoad load s = setTarget x.2 level { s with wu := match zone with
      | some b => { s.wu with
          flash := s.wu.flash.set b { s.wu.flash.get b with cycle := cycle b }
          sunrise := s.wu.sunrise.set b { s.wu.sunrise.get b with ramp := ramp b } }
      | none => s.wu }) ∧
  (∀ s : State,
    let warm : List Grant := s.au.table.filter (fun g =>
      g.load == .heater && (g.purpose == .comfort || g.purpose == .schedule) && g.state == .active)
    let held : Bool := s.au.table.any (fun g => g.load == .heater && g.state == .suspended)
    let m := mergedHeat s
    let u : State := { s with hs.merged := m }
    let t := mergeLoad .heater s
    let targets : Nat × Nat × Nat := ((chan 0 t).target, (chan 1 t).target, (chan 2 t).target)
    let restarts : Prop := t.hs.phase = .preheat ∧ t.hs.activation = true ∧ targets = (255, 50, 0) ∧
      t.hs.preheatDue = some (s.tu.clock + 40000000) ∧ Noticed .heaterPhase t ∧
      (t.hs.attempts, t.hs.flameOuts) = (if s.hs.activation then (s.hs.attempts, s.hs.flameOuts) else (0, 0))
    (held = true ∨ warm = [] → m = none) ∧
    (held = false → warm ≠ [] → ∃ k, m = some k ∧ (∀ g ∈ warm, g.eff.setpoint ≤ k.setpoint ∧ g.eff.maxStage ≤ k.maxStage) ∧
      (∃ g ∈ warm, g.eff.setpoint = k.setpoint) ∧ ∃ g ∈ warm, g.eff.maxStage = k.maxStage) ∧
    (m = s.hs.merged → t = s) ∧
    (s.hs.merged = none → m ≠ none →
      (s.hs.phase = .off ∨ s.hs.phase = .standby → s.ca.check = none → s.hs.flame.failed = false → restarts) ∧
      (s.hs.phase = .off ∨ s.hs.phase = .standby → s.ca.check.isSome = true ∨ s.hs.flame.failed = true → t = u) ∧
      (s.hs.phase = .purge → t = if s.hs.pending.isSome then u
        else { u with hs.purge := s.hs.purge.map (fun r => { r with followOn := .preheat }) }) ∧
      (s.hs.phase = .preheat ∨ s.hs.phase = .ignite ∨ s.hs.phase = .run ∨ s.hs.phase = .lockout → t = u)) ∧
    (s.hs.merged ≠ none → m = none →
      (s.hs.phase = .preheat ∨ s.hs.phase = .ignite ∨ s.hs.phase = .run →
        let full := s.hs.purgeOwed
        let length : Nat := if full then 180 else 20
        t.hs.phase = .purge ∧ t.hs.purgeOwed = full ∧ t.hs.pending = s.hs.pending ∧ t.hs.activation = false ∧
        t.hs.purge = some
          { full := full, entryClock := s.tu.clock, entryRtc := now s, due := s.tu.clock + 1000000 * length
            glowDue := if full then some (s.tu.clock + 30000000) else none
            followOn := if s.hs.pending.isSome then .lockout else .off } ∧
        targets = (if full then 255 else 0, 255, 0) ∧ Noticed .heaterPhase t ∧
        (findGrant .heater .purge t).map (·.endTime) = some (some (now s + BitVec.ofNat 32 length))) ∧
      (s.hs.phase = .purge → t = if s.hs.pending.isSome then u
        else { u with hs.activation := false, hs.purge := s.hs.purge.map (fun r => { r with followOn := .off }) }) ∧
      (s.hs.phase = .standby → t.hs.phase = .off ∧ t.hs.activation = false ∧ targets = (0, 0, 0) ∧
        Noticed .heaterPhase t) ∧
      (s.hs.phase = .off ∨ s.hs.phase = .lockout → t = u)) ∧
    (∀ old new, s.hs.merged = some old → m = some new → old ≠ new →
      (s.hs.phase = .run → ∀ k, s.hs.stage = some k →
        let limit : Nat := min new.maxStage
          (min (if s.rm.quiet.lower || s.rm.quiet.upper then s.policy.p36 else 4) (if s.hs.holdLimit then 1 else 4))
        (k ≤ limit → t = u) ∧ (limit < k → t.hs.phase = .run ∧ t.hs.stage = some limit)) ∧
      (s.hs.phase = .standby →
        let cold : Bool := match s.hs.tc with | some tc => decide (tc ≤ (new.setpoint : Int) - 1) | none => false
        (old.setpoint ≠ new.setpoint → cold = true → restarts) ∧
        (old.setpoint = new.setpoint ∨ cold = false → t = u)) ∧
      (s.hs.phase ≠ .run → s.hs.phase ≠ .standby → t = u)) ∧
    (TableSound s → t.au.table.filter (fun g => !(g.load == .heater && g.purpose == .purge)) =
      s.au.table.filter (fun g => !(g.load == .heater && g.purpose == .purge))) ∧
    (t.au.shedList, t.au.pointer) = (s.au.shedList, s.au.pointer) ∧ t.cs = s.cs ∧ t.wu = s.wu ∧
    (∀ n : Fin 12, 3 ≤ n.val → chan n t = chan n s) ∧ besideGrants t = besideGrants s) ∧
  (∀ s : State,
    mergeLoad .fridge s = (if s.cs.slotPending = true ∧ (findGrant .fridge .cooling s).map (·.state) = some .suspended then
        { s with cs.c := if -8 < s.cs.c then s.cs.c - 1 else s.cs.c, cs.slotPending := false }
      else s) ∧
    mergeAll s = ([.heater, .fridge, .zoneLower, .zoneUpper, .readLower, .readUpper, .step, .outlet1, .outlet2,
      .vent] : List Load).foldl (fun x load => mergeLoad load x) s)

/-- GRANT_REVOKE removes an entry whatever its state, for the purposes its link may revoke; the owner of a sunrise or of a
pre-warm hears WITHDRAWN (R47, R133, R152). -/
def Obligations.RevokeRemovesEntry : Prop :=
  ∀ (l : Link) (load : Load) (p : Purpose) (s : State), Serving l s →
    let mine : Bool := p == .comfort || (l == .v && (p == .schedule || p == .courtesy))
    (mine = false → exec (.grantRevoke l load p) s = .next (answered l 0x12#8 .notPermitted [] s)) ∧
    (mine = true → findGrant load p s = none →
      exec (.grantRevoke l load p) s = .next (answered l 0x12#8 .notFound [] s)) ∧
    (∀ g, findGrant load p s = some g → mine = true →
      ∃ t, exec (.grantRevoke l load p) s = .next t ∧ Answered l 0x12#8 .ok [] t ∧
        (p ≠ .schedule ∨ load ≠ .heater → findGrant load p t = none ∧ g.pos ∉ t.au.shedList ∧
          besideGrants t = besideGrants { s with tu.dozeDue := none }) ∧
        (p = .schedule → load = .zoneLower → t.wu.sunrise.lower.state = .withdrawn) ∧
        (p = .schedule → load = .zoneUpper → t.wu.sunrise.upper.state = .withdrawn) ∧
        (p = .schedule → load = .heater → ∀ e, s.rm.entryRest = some e → e.ended = false →
          ((t.rm.rests.get e.bunk).map (·.prewarmState)) =
            (s.rm.rests.get e.bunk).map (fun _ => PrewarmState.withdrawn)) ∧
        besideRests t = besideRests s)

/-- When the RTC reaches an entry's end AU removes it and forms the load's merge again, and when it reaches the start of a
WAITING entry that entry becomes ACTIVE without a new admission (a PURGE entry, which has no start and never waits, apart);
before those times nothing changes (R48, R51, R52). A PURGE entry is gone, but where its removal lets the merged heater grant
vanish under a burning heater, whose new purge places one (R84, R86). A pre-warm's rest is DONE, and RM reconciles: its entry is
gone, or placed anew for the next holder with that rest's figures (R94, R132, R133). A sunrise is DONE (R152). -/
def Obligations.StoredTimesEndAndStartEntries : Prop :=
  ∀ (load : Load) (p : Purpose) (s : State), Running s →
    let ended : Bool := match findGrant load p s with
      | some g => (match g.endTime with | some e => atOrAfter (now s) e | none => false)
      | none => false
    let starts : Bool := match findGrant load p s with
      | some g => g.state == .waiting && (match g.start with | some e => atOrAfter (now s) e | none => true)
      | none => false
    (ended = false → exec (.grantEndReached load p) s = .next s) ∧
    (ended = true → ∀ g, findGrant load p s = some g → ∃ t, exec (.grantEndReached load p) s = .next t ∧
      besideRests t = besideRests s ∧
      (p = .comfort ∨ p = .courtesy ∨ (p = .schedule ∧ load ≠ .heater) →
        findGrant load p t = none ∧ g.pos ∉ t.au.shedList ∧ besideGrants t = besideGrants s) ∧
      (p = .schedule → load = .zoneLower → t.wu.sunrise.lower.state = .done) ∧
      (p = .schedule → load = .zoneUpper → t.wu.sunrise.upper.state = .done) ∧
      (let gone := mergeLoad load (dropGrant load p s)
       (p = .comfort ∨ p = .courtesy ∨ p = .purge → t = gone) ∧
       (p = .purge → load = .heater →
         s.hs.merged = none ∨ (mergedHeat (dropGrant load p s)).isSome = true ∨
           (s.hs.phase ≠ .preheat ∧ s.hs.phase ≠ .ignite ∧ s.hs.phase ≠ .run) →
         findGrant .heater .purge t = none ∧ g.pos ∉ t.au.shedList) ∧
       (p = .schedule → load = .heater →
         let told : State := { gone with rm.entryRest := none }
         (t = reconcilePrewarm (match s.rm.entryRest with
           | some e => if e.ended then told else setPrewarm e.bunk .done told
           | none => told)) ∧
         (∀ e, s.rm.entryRest = some e → e.ended = false →
           (t.rm.rests.get e.bunk).map (·.prewarmState) = (s.rm.rests.get e.bunk).map (fun _ => .done)) ∧
         (∀ x, findGrant .heater .schedule t = some x → ∃ b, t.rm.holder = some b ∧ t.rm.entryRest = some ⟨b, false⟩ ∧
           (t.rm.rests.get b).map (·.prewarmState) = some .placed ∧
           ((t.rm.rests.get b).bind (·.plannedEnd)).map (fun q =>
             (some (q - BitVec.ofNat 32 (60 * s.policy.p37)), some (q + 900#32))) = some (x.start, x.endTime))))) ∧
    (starts = false → exec (.grantStartReached load p) s = .next s) ∧
    (starts = true → TableSound s → ∀ g, findGrant load p s = some g →
      ∃ t, exec (.grantStartReached load p) s = .next t ∧ besideGrants t = besideGrants s ∧
        (let started : List Grant := s.au.table.map
          (fun x => if x.load = load ∧ x.purpose = p then { x with state := .active } else x)
         t = mergeLoad load { s with au.table := started }) ∧
        (isExternal p = true ∨ load ≠ .heater → findGrant load p t = some { g with state := .active }))

/-- A victim of a shed is of the highest class that has one, the first of it at or after the shed pointer, going on from 0
after 15; none is found only where no grant of class 1 to 3 passes the test. It becomes SHED with the review's time, joins
the shed list by shed time and position, also where a TIME_SET back left later times [43], and the pointer goes to the
position after it. Outside surplus a review sheds ACTIVE victims one at a time while projected demand exceeds free charge
and stops at once where it no longer does or none is left, so that no sheddable grant is ever left ACTIVE while it exceeds
free charge (R40). Demand is formed again after each shed, by the model's inference, so that the start charge goes with the
last ACTIVE heater grant [13]. Where a review shed none and demand fits, it restores the first restorable grant, of the lowest
class and the earliest of it in the shed list, if the restore margin allows its projection and, by the model's choice between
R40 and R42, demand with it still fits [32], and else nothing. In surplus it restores every SHED grant that is not blocked, in
list order (R39, R40, R42, R91). -/
def Obligations.ReviewShedsByClassAndPointer : Prop :=
  let blocked (g : Grant) (s : State) : Bool :=
    inHold s || s.ca.check.isSome || (loadChannels g.load).any (fun n => (chan n s).state == .locked) ||
      (g.load == .heater && s.hs.lockout.isSome)
  let live (g : Grant) (s : State) : Grant := { g with
    shedTime := none
    state := match g.start with
      | some st => if atOrAfter (now s) st then .active else .waiting
      | none => .active }
  (∀ (test : Grant → Bool) (s : State), TableSound s → ∀ g, nextVictim test s = some g →
    g ∈ s.au.table ∧ test g = true ∧ 1 ≤ shedClass g.load g.purpose ∧
    ∀ x ∈ s.au.table, test x = true →
      shedClass x.load x.purpose ≤ shedClass g.load g.purpose ∧
      (shedClass x.load x.purpose = shedClass g.load g.purpose → s.au.pointer < 16 →
        (g.pos + 16 - s.au.pointer) % 16 ≤ (x.pos + 16 - s.au.pointer) % 16)) ∧
  (∀ (test : Grant → Bool) (s : State), TableSound s → nextVictim test s = none →
    ∀ x ∈ s.au.table, test x = true → shedClass x.load x.purpose = 0) ∧
  (∀ (t : RtcTime) (g : Grant) (s : State), TableSound s → ShedListed s → g ∈ s.au.table → g.state = .active →
    let ahead (p : Nat) : Bool := match (grantAt p s).bind (fun x => x.shedTime) with
      | some u => isBefore u t || (u == t && decide (p < g.pos))
      | none => true
    shedVictim t g s = { s with
      au.table := s.au.table.map (fun x => if x.pos = g.pos then { x with state := .shed, shedTime := some t } else x)
      au.shedList := s.au.shedList.takeWhile ahead ++ g.pos :: s.au.shedList.dropWhile ahead
      au.pointer := (g.pos + 1) % 16 }) ∧
  (∀ (h : Nat) (free : Int) (s : State), TableSound s → s.au.surplus = false →
    let r := reviewTable h free s
    r.1.au.deficit = decide (free < (demandOf s h s.au.table : Int)) ∧
    (free < (demandOf r.1 h r.1.au.table : Int) → ∀ g ∈ r.1.au.table, g.state = .active →
      shedClass g.load g.purpose = 0) ∧
    r.1.au.table.map (fun g => (g.pos, g.load, g.purpose, g.eff)) =
      s.au.table.map (fun g => (g.pos, g.load, g.purpose, g.eff)) ∧
    r.1.au.table.filter (fun g => shedClass g.load g.purpose == 0) =
      s.au.table.filter (fun g => shedClass g.load g.purpose == 0)) ∧
  (∀ (h : Nat) (free : Int) (s : State), TableSound s → s.au.surplus = false →
    let exceeds (x : State) : Prop := free < (demandOf x h x.au.table : Int)
    let victim (x : State) : Option Grant := nextVictim (fun g => g.state == .active) x
    ∃ (n : Nat) (chain : Nat → State), n ≤ 16 ∧ chain 0 = { s with au.deficit := decide (exceeds s) } ∧
      (∀ i, i < n → exceeds (chain i) ∧
        ∃ g, victim (chain i) = some g ∧ chain (i + 1) = shedVictim (now s) g (chain i)) ∧
      (¬exceeds (chain n) ∨ victim (chain n) = none) ∧
      (n ≠ 0 ∨ exceeds s → reviewTable h free s = (chain n, n, 0)) ∧
      (n = 0 → ¬exceeds s → reviewTable h free s =
        ((restoreOne h free (chain 0)).1, 0, (restoreOne h free (chain 0)).2))) ∧
  (∀ (g : Grant) (s : State), TableSound s → g ∈ s.au.table → g.state = .shed →
    restoreGrant g s = { s with
      au.table := s.au.table.map (fun x => if x.pos = g.pos then live x s else x)
      au.shedList := s.au.shedList.filter (fun p => p != g.pos)
      au.pointer := if s.au.pointer = g.pos then (g.pos + 1) % 16 else s.au.pointer }) ∧
  (∀ (h : Nat) (free : Int) (s : State), TableSound s → ShedListed s →
    (∀ g, firstRestorable s = some g →
      (g ∈ s.au.table ∧ g.state = .shed ∧ blocked g s = false) ∧
      (∀ x ∈ s.au.table, x.state = .shed → blocked x s = false → 1 ≤ shedClass x.load x.purpose →
        shedClass g.load g.purpose ≤ shedClass x.load x.purpose ∧
        (shedClass x.load x.purpose = shedClass g.load g.purpose →
          s.au.shedList.idxOf g.pos ≤ s.au.shedList.idxOf x.pos)) ∧
      restoreOne h free s =
        if (s.policy.p11 : Int) + (projection s h (live g s) : Int) ≤ free - (demandOf s h s.au.table : Int) ∧
          (demandOf s h (s.au.table.map (fun x => if x.pos = g.pos then live x s else x)) : Int) ≤ free
        then (restoreGrant g s, 1) else (s, 0)) ∧
    (firstRestorable s = none → restoreOne h free s = (s, 0) ∧
      ∀ x ∈ s.au.table, x.state = .shed → 1 ≤ shedClass x.load x.purpose → blocked x s = true)) ∧
  (∀ (h : Nat) (free : Int) (s : State), TableSound s → ShedListed s → s.au.surplus = true →
    let returns (p : Nat) : Bool := match grantAt p s with
      | some g => !blocked g s
      | none => false
    let back := s.au.shedList.filter returns
    reviewTable h free s = ({ s with
      au.deficit := false
      au.table := s.au.table.map (fun x => if x.state == .shed && !blocked x s then live x s else x)
      au.shedList := s.au.shedList.filter (fun p => !returns p)
      au.pointer := back.foldl (fun q p => if q = p then (p + 1) % 16 else q) s.au.pointer }, 0, back.length))

/-- A review takes the window mean and starts a new window, sets the surplus flag by it, and runs the table work of R39 to
R42 at the horizon and the free charge of its moment: the counts shed and restored, the deficit, the projected demand and the
table are that work's. Outside surplus BREACH is set where demand exceeds free charge after the sheds, with its time where it
was clear; it stands with its time while it lasts, and both clear otherwise (R41). The review records its figures, hands CS the flags and WU the reserve-low condition, adds
hold cause 4 after 300 s of BREACH and VOLTAGE_FLOOR, reconciles the sunrises, and marks the review that the doze timer waits
for, also where the review itself wakes a dozing part, by the order the model chose [16] (R20, R38 to R42, R142, R150, R163,
R176, R181). -/
def Obligations.ReviewRecordsAndHands : Prop :=
  ∀ s : State, Running s → ∃ t, exec .review s = .next t ∧
    t.tu.clock = max s.tu.clock s.au.reviewDue ∧ t.au.reviewDue = t.tu.clock + 60000000 ∧ t.tu.postExit = true ∧
    t.cm = { s.cm with winMean := windowMean s, winSum := 0, winCount := 0 } ∧
    t.au.surplus = decide ((s.policy.p12 : Int) ≤ windowMean s) ∧
    t.au.last.time = now s ∧ t.au.last.mean = windowMean s ∧ t.au.last.free = freeCharge s ∧
    t.au.last.horizon = horizon s ∧ t.au.last.headroom = freeCharge s - (t.au.last.demand : Int) ∧
    (t.au.last.surplus, t.au.last.deficit, t.au.last.breach) = (t.au.surplus, t.au.deficit, t.au.breach) ∧
    (t.cs.deficit, t.cs.surplus) = (t.au.deficit, t.au.surplus) ∧
    (t.au.surplus = true → t.au.deficit = false ∧ t.au.breach = false ∧ t.au.last.nShed = 0) ∧
    t.au.reserveLow = (t.au.breach || decide (t.au.last.headroom < (s.policy.p64 : Int))) ∧
    (findWarning .reserveLow .cab t).isSome = t.au.reserveLow ∧
    (t.au.last.nShed ≠ 0 → Noticed .grantShed t) ∧ (t.au.last.nRestored ≠ 0 → Noticed .grantRestored t) ∧
    (s.fu.cause4 = none →
      t.fu.cause4.isSome = (t.au.breach && s.cm.voltageFloor &&
        (match t.au.breachTime with | some b => decide (300 ≤ timeDiff (now s) b) | none => false))) ∧
    besideFaults { t with cm := s.cm } = besideFaults { s with tu.clock := max s.tu.clock s.au.reviewDue } ∧
    (let free := freeCharge s
     let t0 := max s.tu.clock s.au.reviewDue
     let mean : Int := if s.cm.winCount = 0 then 0 else Int.tdiv s.cm.winSum s.cm.winCount
     let surplus := decide ((s.policy.p12 : Int) ≤ mean)
     let r := reviewTable (horizon s) free { s with
       tu.clock := t0, au.reviewDue := t0 + 60000000, au.surplus := surplus
       cm.winMean := mean, cm.winSum := 0, cm.winCount := 0 }
     let p := demandOf r.1 (horizon s) r.1.au.table
     let breach : Bool := !surplus && decide (free < (p : Int))
     let since : Option RtcTime := if breach then (if s.au.breach then s.au.breachTime else some (now s)) else none
     let low : Bool := breach || decide (free - (p : Int) < (s.policy.p64 : Int))
     let figured : State := { r.1 with
       au.breach := breach, au.breachTime := since, au.reserveLow := low
       au.last :=
         { time := now s, mean := mean, free := free, horizon := horizon s, demand := p, headroom := free - (p : Int)
           surplus := surplus, deficit := r.1.au.deficit, breach := breach, nShed := r.2.1, nRestored := r.2.2 } }
     let noticed := if r.2.1 = 0 then figured else notifyBoth .grantShed figured
     let merged := mergeAll (if r.2.2 = 0 then noticed else notifyBoth .grantRestored noticed)
     let flagged : State := { merged with cs.deficit := r.1.au.deficit, cs.surplus := surplus }
     let told := if low then raiseWarning .reserveLow .cab .notice flagged else removeWarning .reserveLow .cab flagged
     let collapsed : Bool := breach && s.cm.voltageFloor &&
       (match since with | some x => decide (300 ≤ timeDiff (now s) x) | none => false)
     let held := if collapsed then addCause .voltageCollapse false told else told
     let u := reconcileSunrise .upper (reconcileSunrise .lower held)
     (t.au.last.nShed, t.au.last.nRestored, t.au.last.demand) = (r.2.1, r.2.2, p) ∧ t.au.deficit = r.1.au.deficit ∧
     (t.au.breach, t.au.breachTime) = (breach, since) ∧ t.tu.dozeDue = dozeTimer u.tu.dozeDue t ∧
     t = { u with tu.postExit := true, tu.dozeDue := t.tu.dozeDue })

/-! ### The Channel Array -/

/-- The first trip of an activation in STARTING, above 400 % or at 600 % of the rated current, makes the channel TRIPPED
with a 2 s retry and sets CHANNEL_RETRY. At the end of the retry time the channel starts again with a non-zero target, from
level 0 on a faded lamp, and is OFF with a zero one; at the end of the inrush window it is ON with trip count 0 (R56, R58
to R60, R62, R63). -/
def Obligations.FirstTripRetriesAndTimersAct : Prop :=
  (∀ (n : Fin 12) (current : Nat) (s : State), Running s → (chan n s).state = .starting → (chan n s).tripCount = 0 →
    let i := min current 65535
    let rated := rating s.policy n
    let t : State := notifyBoth .channelRetry (setChan n { chan n s with
      state := .tripped, output := 0, tripCount := 1, inrushDue := none, lowSince := none
      retryDue := some (s.tu.clock + 2000000), lastCurrent := i, pulseAt := none } s)
    (rated * 600 / 100 ≤ i → exec (.channelShort n current) s = .next t) ∧
    (rated * 400 / 100 < i → i < rated * 600 / 100 → exec (.channelOvercurrent n current) s = .next t) ∧
    (i < rated * 600 / 100 → exec (.channelShort n current) s = .next s) ∧
    (i ≤ rated * 400 / 100 → exec (.channelOvercurrent n current) s = .next s)) ∧
  ∀ (n : Fin 12) (s : State), Running s →
    (∀ due, (chan n s).inrushDue = some due → (chan n s).state = .starting →
      exec (.inrushWindowEnd n) s = .next (setChan n { chan n s with state := .on, tripCount := 0, inrushDue := none }
        { s with tu.clock := max s.tu.clock due })) ∧
    (∀ due, (chan n s).retryDue = some due → (chan n s).state = .tripped →
      let t := max s.tu.clock due
      let lamp : Bool := 4 ≤ n.val && n.val ≤ 7
      let lit : Nat := if n.val = 1 ∨ n.val = 2 ∨ n.val = 11 then (chan n s).target else 255
      exec (.retryTimerExpiry n) s = .next (setChan n
        (if (chan n s).target = 0 then { chan n s with state := .off, retryDue := none }
         else { chan n s with
           state := .starting
           output := if lamp then 0 else lit
           inrushDue := some (t + (if n.val = 0 then 2000000 else 500000))
           retryDue := none, lowSince := none, fadeAt := t, pulseAt := none })
        { s with tu.clock := t }))

/-- Any other trip locks the channel at once with its output off, FU captures it and suspends its load, and every grant of
the load becomes SUSPENDED; an overcurrent in ON alone is restartable (R49, R58, R62, R64, R157, R159). HS acts at the lock
of its channels: CH0 or CH2 purges a burning heater, in full where a purge is owed, with lockout pending, which a purge in
progress only takes where none was pending; CH1 locks the heater out at once with all three targets 0, its PURGE entry gone
and a purge owed left as it stands (R84, R89). CS takes CH3's lock as a run cut short: the run ends with the min-off timer
started, and a slot run that ran, and one that was pending, each cost one slot of credit (R98, R109). A heater in
STANDBY goes OFF as the suspension ends its merged grant (R52, R86). That 255 stands for the on target of CH0 and of the fan
is the model's choice [30]. -/
def Obligations.OtherTripsLockAndSuspend : Prop :=
  ∀ (n : Fin 12) (current : Nat) (short : Bool) (s : State), Running s →
    ((chan n s).state = .on ∨ (chan n s).state = .starting ∧ (chan n s).tripCount ≠ 0) →
    s.fu.record = none → isSuspended (channelLoad n) s = false →
    let i := min current 65535
    let rated := rating s.policy n
    let limit := if (chan n s).state = .on then rated * 150 / 100 else rated * 400 / 100
    (if short then rated * 600 / 100 ≤ i else limit < i ∧ i < rated * 600 / 100) →
    ∃ t, exec (if short then .channelShort n current else .channelOvercurrent n current) s = .next t ∧
      (chan n t).state = .locked ∧ (chan n t).output = 0 ∧ (chan n t).tripCount = (chan n s).tripCount ∧
      (chan n t).openLoad = (chan n s).openLoad ∧ (chan n t).lastCurrent = i ∧
      t.fu.record = some ⟨⟨.channel n, if short then .short else .overcurrent, i, .channel (chan n s).state,
        !short && (chan n s).state == .on⟩, now s⟩ ∧
      t.fu.susp = s.fu.susp ++ [⟨channelLoad n, !short && (chan n s).state == .on, true, .channel n,
        if short then .short else .overcurrent⟩] ∧
      (∀ g ∈ t.au.table, g.load = channelLoad n → g.state = .suspended) ∧ Noticed .fault t ∧
      (3 ≤ n.val → ∀ m : Fin 12, m ≠ n → chan m t = chan m s) ∧
      (n.val = 3 → t.cs.run = none) ∧
      (n.val = 0 ∨ n.val = 2 →
        let cause : LockCause := if n.val = 0 then .ch0 else .ch2
        t.hs.purgeOwed = s.hs.purgeOwed ∧ t.hs.lockout = s.hs.lockout ∧
        (s.hs.phase = .preheat ∨ s.hs.phase = .ignite ∨ s.hs.phase = .run →
          t.hs.phase = .purge ∧ t.hs.pending = some (s.hs.pending.getD cause) ∧
          t.hs.purge.map (fun r => (r.full, r.followOn)) = some (s.hs.purgeOwed, .lockout) ∧
          ((chan 0 t).target, (chan 1 t).target, (chan 2 t).target) = (if s.hs.purgeOwed then 255 else 0, 255, 0) ∧
          Noticed .heaterPhase t) ∧
        (s.hs.phase = .purge → t.hs.phase = .purge ∧ t.hs.pending = some (s.hs.pending.getD cause) ∧
          (s.hs.pending = none → t.hs.purge = s.hs.purge.map (fun r => { r with followOn := .lockout })) ∧
          (s.hs.pending.isSome = true → t.hs.purge = s.hs.purge)) ∧
        (s.hs.phase = .off ∨ s.hs.phase = .standby → t.hs.pending = s.hs.pending ∧
          t.hs.phase = if s.hs.merged.isSome then .off else s.hs.phase) ∧
        (s.hs.phase = .lockout → t.hs.phase = .lockout ∧ t.hs.pending = s.hs.pending)) ∧
      (n.val = 1 → t.hs.phase = .lockout ∧ t.hs.purgeOwed = s.hs.purgeOwed ∧
        (s.hs.phase = .lockout → t.hs.lockout = s.hs.lockout ∧ t.hs.pending = s.hs.pending) ∧
        (s.hs.phase ≠ .lockout →
          t.hs.lockout = some (match s.hs.lockout with | some c => c | none => s.hs.pending.getD .ch1) ∧
          t.hs.pending = none ∧ t.hs.purge = none ∧ t.hs.activation = false ∧ findGrant .heater .purge t = none ∧
          ((chan 0 t).target, (chan 1 t).target, (chan 2 t).target) = (0, 0, 0) ∧ Noticed .heaterPhase t)) ∧
      (n.val = 3 →
        let lowered (c : Int) : Int := if -8 < c then c - 1 else c
        let cut : Int := if s.cs.run = some .slot then lowered s.cs.c else s.cs.c
        let placed : Bool := (findGrant .fridge .cooling s).isSome
        t.cs.c = (if s.cs.slotPending = true ∧ placed = true then lowered cut else cut) ∧
        t.cs.slotPending = (s.cs.slotPending && !placed) ∧
        (s.cs.run.isSome = true → t.cs.runDue = none ∧ t.cs.minOffDue = some (s.tu.clock + 180000000) ∧
          (chan 3 t).target = 0) ∧
        (s.cs.run = none → t.cs.minOffDue = s.cs.minOffDue ∧ (chan 3 t).target = (chan 3 s).target)) ∧
      besideFaults t = besideFaults s

/-- An open load of a channel in ON sets its flag and OPEN_LOAD once in an activation and trips nothing, on CH2 at the first
low pulse 2 s or more after the timing began [2]; a faded lamp moves toward its target; a pump pulse takes the rate last
handed (R60, R65). A non-zero target takes an OFF channel to STARTING with its inrush window, a zero one takes STARTING or ON
to OFF at once with output 0, and from ON ends the activation; a driving channel takes a new level at once, fades to it or
pulses at it, and TRIPPED, LOCKED and TEST only store it (R57, R58, R60, R61) [30]. That pulses are timed in 39ths of a
microsecond, the clock and a fade's step in whole ones at or after their time, the first pulse at once, and a fade's next step
from its new target on, is the model's choice [50]. -/
def Obligations.OpenLoadFadeAndPulse : Prop :=
  (∀ (n : Fin 12) (target : Nat) (s : State),
    let c := chan n s
    let lamp : Bool := 4 ≤ n.val && n.val ≤ 7
    let lit : Nat := if n.val = 1 ∨ n.val = 2 ∨ n.val = 11 then target else 255
    let becomes (x : Channel) : Prop := setTarget n target s = setChan n x s
    (c.state = .off → target = 0 → becomes { c with target := 0 }) ∧
    (c.state = .off → target ≠ 0 → becomes { c with
      state := .starting, target := target, output := if lamp then 0 else lit
      inrushDue := some (s.tu.clock + (if n.val = 0 then 2000000 else 500000))
      retryDue := none, lowSince := none, fadeAt := s.tu.clock, pulseAt := none }) ∧
    (c.state = .starting ∨ c.state = .on →
      (target = 0 → becomes { c with
        state := .off, target := 0, output := 0, inrushDue := none, retryDue := none, lowSince := none, pulseAt := none
        tripCount := if c.state = .on then 0 else c.tripCount
        openLoad := if c.state = .on then false else c.openLoad }) ∧
      (target ≠ 0 → target = c.target → becomes c) ∧
      (target ≠ 0 → target ≠ c.target →
        (lamp = true → becomes { c with target := target, fadeAt := s.tu.clock }) ∧
        (n.val = 2 → becomes { c with target := target }) ∧
        (lamp = false → n.val ≠ 2 → becomes { c with target := target, output := lit }))) ∧
    (c.state = .tripped ∨ c.state = .locked ∨ c.state = .test → becomes { c with target := target })) ∧
  (∀ (n : Fin 12) (current : Nat) (s : State), Running s → n.val ≠ 2 → (chan n s).state = .on →
    (chan n s).target ≠ 0 → current < rating s.policy n * 2 / 100 →
    exec (.openLoadDetected n current) s = .next
      (if (chan n s).openLoad then setChan n { chan n s with lastCurrent := current } s
       else notifyBoth .openLoad (setChan n { chan n s with openLoad := true, lastCurrent := current } s))) ∧
  (∀ (current : Nat) (s : State), Running s → (chan 2 s).state = .on → (chan 2 s).target ≠ 0 → current < 8 →
    let p : Nat := match (chan 2 s).pulseAt with
      | some x => max (39 * s.tu.clock) (x + 39 * 60000000 / (chan 2 s).output)
      | none => 39 * s.tu.clock
    let t := max s.tu.clock ((p + 38) / 39)
    (∀ since, (chan 2 s).lowSince = some since →
      (since + 39 * 2000000 ≤ p → ∃ u, exec (.openLoadDetected 2 current) s = .next u ∧
        exec (.fuelPumpPulse current) s = .next u ∧ (chan 2 u).openLoad = true ∧ u.tu.clock = t) ∧
      (p < since + 39 * 2000000 → exec (.openLoadDetected 2 current) s = .next s)) ∧
    ((chan 2 s).lowSince = none → exec (.openLoadDetected 2 current) s = .next s)) ∧
  (∀ (n : Fin 12) (levels : Nat) (s : State), Running s → 4 ≤ n.val → n.val ≤ 7 →
    (chan n s).state = .starting ∨ (chan n s).state = .on → 0 < levels → (chan n s).output ≠ (chan n s).target →
    let c := chan n s
    let k := min levels ((c.output - c.target) + (c.target - c.output))
    let t := max s.tu.clock (c.fadeAt + (k * 20000 + 16) / 17)
    exec (.fade n levels) s = .next (setChan n
      { c with output := if c.output ≤ c.target then c.output + k else c.output - k, fadeAt := t }
      { s with tu.clock := t })) ∧
  (∀ (current : Nat) (s : State), Running s → (chan 2 s).state = .starting ∨ (chan 2 s).state = .on →
    let c := chan 2 s
    let i := min current 65535
    let p : Nat := match c.pulseAt with
      | some x => max (39 * s.tu.clock) (x + 39 * 60000000 / c.output)
      | none => 39 * s.tu.clock
    let t := max s.tu.clock ((p + 38) / 39)
    (8 ≤ i ∨ c.state = .starting →
      exec (.fuelPumpPulse current) s = .next (setChan 2
        { c with output := c.target, pulseAt := some p, lastCurrent := i, lowSince := none }
        { s with tu.clock := t })) ∧
    (i < 8 → c.state = .on → c.lowSince = none →
      exec (.fuelPumpPulse current) s = .next (setChan 2
        { c with output := c.target, pulseAt := some p, lastCurrent := i, lowSince := some p }
        { s with tu.clock := t })) ∧
    (i < 8 → c.state = .on → ∀ since, c.lowSince = some since → c.openLoad = true ∨ p < since + 39 * 2000000 →
      exec (.fuelPumpPulse current) s = .next (setChan 2
        { c with output := c.target, pulseAt := some p, lastCurrent := i, lowSince := some since }
        { s with tu.clock := t })) ∧
    (i < 8 → c.state = .on → c.openLoad = false → ∀ since, c.lowSince = some since → since + 39 * 2000000 ≤ p →
      exec (.fuelPumpPulse current) s = .next (notifyBoth .openLoad (setChan 2
        { c with output := c.target, pulseAt := some p, lastCurrent := i, lowSince := some since, openLoad := true }
        { s with tu.clock := t }))))

/-- WIRING_CHECK is refused CONDITION unless every channel is OFF, the heater is in OFF or LOCKOUT with nothing owed and no
compressor run is in progress; it puts every channel in TEST with CH0 driven. Each step gives its channel a class from the
peak current and the next begins; the twelfth completes the check with CHECK_DONE and gives the channels back to their
drivers' targets (R68 to R72). -/
def Obligations.WiringCheckRuns : Prop :=
  (∀ s : State, Serving .v s →
    let may : Bool := s.ca.chans.toList.all (fun c => c.state == .off) && (s.hs.phase == .off || s.hs.phase == .lockout) &&
      !s.hs.purgeOwed && s.cs.run.isNone
    (may = false → exec (.wiringCheck .v) s = .next (answered .v 0x54#8 .condition [] s)) ∧
    (may = true → ∃ t, exec (.wiringCheck .v) s = .next t ∧ Answered .v 0x54#8 .ok [] t ∧
      t.ca.check = some ⟨0, 8000, s.tu.clock + 100000, now s, Vector.replicate 12 ⟨.notTested, 0⟩⟩ ∧
      t.ca.results = none ∧
      (∀ n : Fin 12, chan n t = { chan n s with state := .test, output := if n = 0 then 255 else 0 }) ∧
      besideAnswer .v { t with ca := s.ca } = besideAnswer .v s)) ∧
  (∀ (tripped : Bool) (peak : Nat) (s : State), Running s → ∀ run, s.ca.check = some run →
    (if tripped then run.rating * 400 / 100 < peak else peak < run.rating * 600 / 100) → peak ≤ 65535 →
    let cls : WiringClass :=
      if tripped then .short else if peak < run.rating * 5 / 100 then .open_
      else if peak ≤ run.rating * 150 / 100 then .ok else .high
    let t := if tripped then s.tu.clock else max s.tu.clock run.stepDue
    let results := run.results.set run.underTest ⟨cls, peak⟩
    ∃ u, exec (.wiringStepEnd tripped peak) s = .next u ∧ u.tu.clock = t ∧
      (∀ m : Fin 12, m.val = run.underTest.val + 1 →
        u.ca.check = some ⟨m, rating s.policy m, t + 100000, run.startTime, results⟩ ∧
        (∀ n : Fin 12, (chan n u).state = .test ∧ (chan n u).target = (chan n s).target ∧
          (chan n u).output = if n = m then 255 else 0) ∧
        { u with ca := s.ca } = { s with tu.clock := t }) ∧
      (run.underTest.val = 11 →
        u.ca.check = none ∧ u.ca.results = some ⟨true, run.startTime, now s, results⟩ ∧ Noticed .checkDone u ∧
        (∀ n : Fin 12, (chan n u).state = if (chan n u).target = 0 then .off else .starting) ∧
        besideGrants { u with tu.dozeDue := none } = besideGrants { s with tu.clock := t, tu.dozeDue := none }))

/-- CLEAR_CHANNEL returns a LOCKED channel to OFF, from which it starts again where its driver's target is not zero; an
untied suspension of its load is released; in LOCKOUT with a purge owed the fan's return runs the purge in full (R66,
R67, R90, R161). At a restartable release the SUSPENDED entries come back in order of class and position: class 0 ACTIVE, in
SAFE HOLD SHED, else at the capped level or the highest lesser one that fits, else SHED with one GRANT_SHED (R49) [14]. -/
def Obligations.ClearChannelReturnsChannel : Prop :=
  (∀ s : State, Serving .v s →
    (∀ b : Byte, 12 ≤ b.toNat → exec (.clearChannel .v b) s = .next (answered .v 0x53#8 .notFound [] s)) ∧
    (∀ (b : Byte) (n : Fin 12), b.toNat = n.val →
      let c := chan n s
      let captured : Bool := match s.fu.record with | some x => x.report.source == .channel n | none => false
      let untied : Bool := match suspensionOf (channelLoad n) s with | some e => !e.tied | none => false
      let owes : Bool := n == 1 && s.hs.phase == .lockout && s.hs.lockout.isSome && s.hs.purgeOwed
      let freed := freedChannel n s.tu.clock c
      (c.state ≠ .locked ∨ captured = true → exec (.clearChannel .v b) s = .next (answered .v 0x53#8 .condition [] s)) ∧
      (c.state = .locked → captured = false → untied = false → owes = false →
        exec (.clearChannel .v b) s = .next (answered .v 0x53#8 .ok [] (setChan n freed s))) ∧
      (c.state = .locked → captured = false → owes = false → ∀ e, suspensionOf (channelLoad n) s = some e →
        e.tied = false → e.restartable = true →
        ∃ t, exec (.clearChannel .v b) s = .next t ∧ besideAnswer .v t = besideAnswer .v
          (entriesBack (channelLoad n) { setChan n freed s with
            fu := { s.fu with susp := s.fu.susp.filter (fun x => x.load != channelLoad n) } })) ∧
      (c.state = .locked → captured = false → untied = true ∨ owes = true →
        ∃ t, exec (.clearChannel .v b) s = .next t ∧ Answered .v 0x53#8 .ok [] t ∧ (chan n t).state ≠ .locked ∧
          (untied = true → isSuspended (channelLoad n) t = false) ∧
          (untied = false → t.hs.phase = .purge ∧ t.hs.purge.map (fun r => (r.full, r.followOn)) = some (true, .lockout)) ∧
          besideRests t = besideRests s))) ∧
  (∀ (shed : Bool) (g : Grant) (s : State),
    let live : Grant := { g with
      eff := capLevel (quietLimit s g.load g.purpose g.origin) g.req
      state := match g.start with | some x => if atOrAfter (now s) x then .active else .waiting | none => .active }
    let fits (v : Level) : Prop := s.au.surplus = true ∨
      (demandOf s (horizon s) (putAt { live with eff := v } s.au.table) : Int) ≤ freeCharge s
    let r := readmitSuspended (s, shed) g
    (shedClass g.load g.purpose = 0 →
      r = (updateGrant g.load g.purpose (fun x => { x with state := .active }) s, shed)) ∧
    (shedClass g.load g.purpose ≠ 0 → inHold s = true → r = (shedGrant (now s) g s, true)) ∧
    (shedClass g.load g.purpose ≠ 0 → inHold s = false →
      (fits live.eff → r = (placeGrant live s, shed)) ∧
      (¬fits live.eff →
        (∀ k : Nat, ∀ v, lesser g.load live.eff k = some v → fits v →
          (∀ j : Nat, k < j → ∀ w, lesser g.load live.eff j = some w → ¬fits w) →
          r = (placeGrant { live with eff := v } s, shed)) ∧
        ((∀ j : Nat, ∀ w, lesser g.load live.eff j = some w → ¬fits w) → r = (shedGrant (now s) g s, true)))))

/-! ### The Heater Sequencer -/

/-- Preheat's 40 s end in IGNITE with purge-owed set and its targets; a first failed attempt purges with PREHEAT to follow, a
second one purges with lockout pending and is reported to FU (R75, R78, R79, R84). -/
def Obligations.PreheatAndIgnitionExpire : Prop :=
  (∀ s : State, Running s → s.hs.phase = .preheat → ∀ due, s.hs.preheatDue = some due →
    ∃ t, exec .preheatTimerExpiry s = .next t ∧ t.hs.phase = .ignite ∧ t.hs.purgeOwed = true ∧
      t.hs.entryTemp = (match s.hs.tf with | some x => x | none => -40) ∧
      t.tu.clock = max s.tu.clock due ∧ t.hs.ignitionDue = some (t.tu.clock + 90000000) ∧ t.hs.preheatDue = none ∧
      ((chan 0 t).target, (chan 1 t).target, (chan 2 t).target) = (255, 80, 40) ∧
      (∀ n : Fin 12, 3 ≤ n.val → chan n t = chan n s) ∧ t.au = s.au ∧ t.cs = s.cs ∧ t.wu = s.wu ∧
      Noticed .heaterPhase t ∧ besideGrants t = besideGrants { s with tu.clock := max s.tu.clock due }) ∧
  (∀ s : State, Running s → s.hs.phase = .ignite → ∀ due, s.hs.ignitionDue = some due →
    ∃ t, exec .ignitionTimerExpiry s = .next t ∧ t.hs.phase = .purge ∧ t.hs.attempts = s.hs.attempts + 1 ∧
      t.hs.purgeOwed = s.hs.purgeOwed ∧ t.hs.purge.map (·.full) = some s.hs.purgeOwed ∧
      (chan 2 t).target = 0 ∧ (chan 1 t).target = 255 ∧ Noticed .heaterPhase t ∧
      (s.hs.attempts = 0 → t.hs.pending = s.hs.pending ∧
        (mergedHeat t = s.hs.merged → s.hs.pending = none → t.hs.purge.map (·.followOn) = some .preheat) ∧
        besideGrants t = besideGrants { s with tu.clock := max s.tu.clock due }) ∧
      (s.hs.attempts ≠ 0 →
        t.hs.pending = some (match s.hs.pending with | some c => c | none => .ignitionFailed) ∧
        t.hs.purge.map (·.followOn) = some .lockout ∧ isSuspended .heater t = true ∧
        (s.fu.record = none → t.fu.record =
          some ⟨⟨.heater, .ignitionFailed, (match s.hs.tf with | some x => x | none => 0), .heater .ignite, false⟩, now s⟩) ∧
        besideFaults t = besideFaults { s with tu.clock := max s.tu.clock due }))

/-- In RUN the regulation timer chooses the stage the setpoint asks for, under the limits, with its fan level and pump
rate; 180 s prove the flame; the satisfied test purges towards STANDBY; a first flame-out purges with PREHEAT to follow, and a second
one in the activation purges with lockout pending and is reported (R80 to R83). -/
def Obligations.RunTimersAct : Prop :=
  ∀ s : State, Running s → s.hs.phase = .run →
    (∀ due, s.hs.regulationDue = some due →
      ∃ t, exec .regulationTimerExpiry s = .next t ∧ t.tu.clock = max s.tu.clock due ∧
        t.hs.regulationDue = some (t.tu.clock + 30000000) ∧ t.hs.phase = .run ∧
        t.hs.demand = some (match s.hs.cabin.failed, s.hs.tc, s.hs.merged with
          | false, some tc, some m =>
            let e : Int := (m.setpoint : Int) - tc
            if 4 ≤ e then 4 else if 2 ≤ e then 3 else if e = 1 then 2 else 1
          | _, _, _ => 2) ∧
        t.hs.stage = t.hs.demand.map (fun d => min d (min (match s.hs.merged with | some m => m.maxStage | none => 4)
          (min (if s.rm.quiet.lower || s.rm.quiet.upper then s.policy.p36 else 4)
            (if s.hs.holdLimit && inHold s then 1 else 4)))) ∧
        (t.hs.stage = some 1 → ((chan 1 t).target, (chan 2 t).target) = (110, 30)) ∧
        (t.hs.stage = some 2 → ((chan 1 t).target, (chan 2 t).target) = (150, 45)) ∧
        (t.hs.stage = some 3 → ((chan 1 t).target, (chan 2 t).target) = (200, 65)) ∧
        (t.hs.stage = some 4 → ((chan 1 t).target, (chan 2 t).target) = (255, 90)) ∧
        (t.hs.stage ≠ some 1 → t.hs.satisfiedDue = none) ∧ (chan 0 t).target = 0 ∧
        (∀ n : Fin 12, 3 ≤ n.val → chan n t = chan n s) ∧ t.au = s.au ∧ t.cs = s.cs ∧
        besideGrants t = besideGrants { s with tu.clock := max s.tu.clock due }) ∧
    (∀ due, s.hs.provenDue = some due → exec .flameProvenTimeout s = .next
      { s with tu.clock := max s.tu.clock due, hs.proven := true, hs.provenDue := none }) ∧
    (∀ due, s.hs.satisfiedDue = some due →
      ∃ t, exec .satisfiedTimeout s = .next t ∧ t.hs.phase = .purge ∧
        t.hs.purge.map (·.full) = some s.hs.purgeOwed ∧ t.hs.purgeOwed = s.hs.purgeOwed ∧ (chan 2 t).target = 0 ∧
        (mergedHeat t = s.hs.merged → s.hs.pending = none → t.hs.purge.map (·.followOn) = some .standby) ∧
        besideGrants t = besideGrants { s with tu.clock := max s.tu.clock due }) ∧
    (∀ due, s.hs.flameOutDue = some due →
      ∃ t, exec .flameOut s = .next t ∧ t.hs.phase = .purge ∧ t.hs.flameOuts = s.hs.flameOuts + 1 ∧
        t.hs.purge.map (·.full) = some s.hs.purgeOwed ∧ (chan 2 t).target = 0 ∧
        (s.hs.flameOuts = 0 → t.hs.pending = s.hs.pending ∧
          (mergedHeat t = s.hs.merged → s.hs.pending = none → t.hs.purge.map (·.followOn) = some .preheat) ∧
          besideGrants t = besideGrants { s with tu.clock := max s.tu.clock due }) ∧
        (s.hs.flameOuts ≠ 0 →
          t.hs.pending = some (match s.hs.pending with | some c => c | none => .flameOutRepeat) ∧
          isSuspended .heater t = true ∧
          (s.fu.record = none → t.fu.record =
            some ⟨⟨.heater, .flameOutRepeat, (match s.hs.tf with | some x => x | none => 0), .heater .run, false⟩, now s⟩) ∧
          besideFaults t = besideFaults { s with tu.clock := max s.tu.clock due }))

/-- A cabin result clamps to −40..85 and serves the satisfied test and the fridge's AUTO rate mode; the third bad result
makes Tc absent (R76, R82, R101). -/
def Obligations.CabinResultsJudged : Prop :=
  (∀ (c : Int) (s : State), Running s → s.hs.cabin.failed = false ∨ 2 ≤ s.hs.cabin.goodCount →
    let t := max s.tu.clock s.hs.cabinDue
    let temp := max (-40) (min 85 c)
    let sensor : Sensor := { failed := false, badCount := 0, goodCount := s.hs.cabin.goodCount + 1 }
    (1 ≤ s.policy.p40 → s.policy.p40 ≤ 3 → s.hs.phase ≠ .standby →
      exec (.cabinTempConversion (.celsius c)) s = .next { s with
        tu.clock := t
        hs.cabinDue := t + 1000000
        hs.cabin := sensor
        hs.tc := some temp
        hs.satisfiedDue :=
          if s.hs.phase ≠ .run then s.hs.satisfiedDue
          else if s.hs.stage = some 1 ∧ (match s.hs.merged with | some m => decide ((m.setpoint : Int) + 2 ≤ temp) | none => false) = true then
            (match s.hs.satisfiedDue with | some d => some d | none => some (t + 300000000))
          else none }) ∧
    (s.policy.p40 = 0 → ∃ u, exec (.cabinTempConversion (.celsius c)) s = .next u ∧ u.hs.tc = some temp ∧
      u.cs.mode = (match s.cs.mode with
        | .normal => if 30 ≤ temp then .warm else if temp ≤ 10 then .cool else .normal
        | .warm => if temp ≤ 10 then .cool else if temp ≤ 28 then .normal else .warm
        | .cool => if 30 ≤ temp then .warm else if 12 ≤ temp then .normal else .cool) ∧
      besideGrants { u with tu.dozeDue := none } = besideGrants { s with tu.clock := t, tu.dozeDue := none }) ∧
    (s.hs.phase = .standby → ∀ m, s.hs.merged = some m → temp ≤ (m.setpoint : Int) - 1 →
      s.cs.enable = false ∨ 1 ≤ s.policy.p40 ∧ s.policy.p40 ≤ 3 →
      ∃ u, exec (.cabinTempConversion (.celsius c)) s = .next u ∧ u.hs.phase = .preheat)) ∧
  (∀ (r : TempResult) (code : FaultCode) (s : State),
    (r = .openCircuit ∧ code = .sensorOpen ∨ r = .shortCircuit ∧ code = .sensorShort) → Running s →
    s.hs.cabin.failed = false → 2 ≤ s.hs.cabin.badCount → s.fu.record = none →
    ∃ u, exec (.cabinTempConversion r) s = .next u ∧ u.hs.tc = none ∧ u.hs.cabin.failed = true ∧
      u.hs.satisfiedDue = none ∧ (s.hs.phase = .standby → u.hs.phase = .preheat) ∧
      (s.hs.phase ≠ .standby → u.hs.phase = s.hs.phase) ∧
      u.fu.record = some ⟨⟨.cabinTemp, code, 0, .heater s.hs.phase, true⟩, now s⟩ ∧ u.fu.susp = s.fu.susp ∧
      besideFaults u = besideFaults { s with tu.clock := max s.tu.clock s.hs.cabinDue })

/-- A flame result detects the flame in IGNITE, watches it in RUN, and from 250 °C up reports an overheat that locks the
heater out or purges it in full, and makes a SHORT purge in progress FULL, counted from its entry; an OPEN or SHORT result
while the sensor is GOOD leaves Tf, and the watch judges that value (R76, R79, R80, R83, R87). That the glow plug on is the
target 255 is the model's choice [30]. -/
def Obligations.FlameResultsJudged : Prop :=
  (∀ (c : Int) (s : State), Running s → s.hs.flame.failed = false ∨ 2 ≤ s.hs.flame.goodCount →
    let t := max s.tu.clock s.hs.flameDue
    let temp := max (-40) (min 400 c)
    (temp < 250 → s.hs.phase ≠ .ignite ∨ temp < s.hs.entryTemp + 15 →
      let proven := s.hs.proven || decide (60 ≤ temp)
      exec (.flameTempConversion (.celsius c)) s = .next { s with
        tu.clock := t
        hs.flameDue := t + 1000000
        hs.flame := { failed := false, badCount := 0, goodCount := s.hs.flame.goodCount + 1 }
        hs.tf := some temp
        hs.flameHot := false
        hs.proven := if s.hs.phase = .run then proven else s.hs.proven
        hs.provenDue := if s.hs.phase = .run ∧ proven = true then none else s.hs.provenDue
        hs.flameOutDue :=
          if s.hs.phase ≠ .run then s.hs.flameOutDue
          else if proven = true ∧ temp < 60 then
            (match s.hs.flameOutDue with | some d => some d | none => some (t + 10000000))
          else none }) ∧
    (temp < 250 → s.hs.phase = .ignite → s.hs.entryTemp + 15 ≤ temp →
      ∃ u, exec (.flameTempConversion (.celsius c)) s = .next u ∧ u.hs.phase = .run ∧ u.hs.attempts = 0 ∧
        u.hs.proven = false ∧ u.hs.provenDue = some (t + 180000000) ∧ u.hs.regulationDue = some (t + 30000000) ∧
        u.hs.tf = some temp ∧ u.hs.stage.isSome = true ∧ (chan 0 u).target = 0 ∧ Noticed .heaterPhase u ∧
        u.au = s.au ∧ u.cs = s.cs ∧ besideGrants u = besideGrants { s with tu.clock := t }) ∧
    (250 ≤ temp → s.hs.flameHot = false → s.fu.record = none →
      ∃ u, exec (.flameTempConversion (.celsius c)) s = .next u ∧ isSuspended .heater u = true ∧
        u.fu.record.map (fun x => (x.report.source, x.report.code, x.report.measured, x.time)) =
          some (.heater, .overheat, temp, now s) ∧
        (s.hs.phase = .off ∨ s.hs.phase = .standby →
          u.hs.phase = .lockout ∧ u.hs.lockout = some .overheat ∧ (chan 2 u).target = 0) ∧
        (s.hs.phase = .preheat ∨ s.hs.phase = .ignite ∨ s.hs.phase = .run →
          u.hs.phase = .purge ∧ u.hs.purge.map (fun r => (r.full, r.followOn)) = some (true, .lockout) ∧
          u.hs.pending.isSome = true) ∧
        (s.hs.phase = .purge → ∀ run, s.hs.purge = some run →
          let follow : FollowOn := if s.hs.pending.isNone then .lockout else run.followOn
          let lit : Bool := decide (t < run.entryClock + 30000000)
          u.hs.phase = .purge ∧ u.hs.pending = some (match s.hs.pending with | some c => c | none => .overheat) ∧
          (run.full = true → u.hs.purge = some { run with followOn := follow }) ∧
          (run.full = false →
            u.hs.purge = some { run with
              full := true
              due := run.entryClock + 180000000
              glowDue := if lit = true then some (run.entryClock + 30000000) else none
              followOn := follow } ∧
            (lit = true → (chan 0 u).target = 255) ∧
            (findGrant .heater .purge u).map (·.endTime) =
              (findGrant .heater .purge s).map (fun _ => some (run.entryRtc + 180#32)))) ∧
        (s.hs.phase = .lockout → u.hs.phase = .lockout ∧ u.hs.lockout = s.hs.lockout ∧ u.ca = s.ca) ∧
        besideFaults u = besideFaults { s with tu.clock := t })) ∧
  (∀ (r : TempResult) (s : State), r = .openCircuit ∨ r = .shortCircuit → Running s → s.hs.flame.failed = false →
    s.hs.flame.badCount < 2 →
    let t := max s.tu.clock s.hs.flameDue
    exec (.flameTempConversion r) s = .next { s with
      tu.clock := t
      hs.flameDue := t + 1000000
      hs.flame := { failed := false, badCount := s.hs.flame.badCount + 1, goodCount := 0 }
      hs.flameOutDue := match s.hs.phase, s.hs.tf with
        | .run, some x =>
          if s.hs.proven = true ∧ x < 60 then
            (match s.hs.flameOutDue with | some d => some d | none => some (t + 10000000))
          else none
        | _, _ => s.hs.flameOutDue })

/-- The flame sensor's third bad result acts by phase: PURGE with lockout pending and cause SENSOR, a pending lockout in
PURGE, LOCKOUT at once from OFF and STANDBY, nothing in LOCKOUT; its return to GOOD does not clear the lockout (R88). -/
def Obligations.FlameSensorFailureActsByPhase : Prop :=
  (∀ (r : TempResult) (code : FaultCode) (s : State),
    (r = .openCircuit ∧ code = .sensorOpen ∨ r = .shortCircuit ∧ code = .sensorShort) → Running s →
    s.hs.flame.failed = false → 2 ≤ s.hs.flame.badCount →
    ∃ u, exec (.flameTempConversion r) s = .next u ∧ u.hs.flame.failed = true ∧ isSuspended .heater u = true ∧
      u.hs.purgeOwed = s.hs.purgeOwed ∧
      (s.hs.phase = .preheat ∨ s.hs.phase = .ignite ∨ s.hs.phase = .run →
        u.hs.phase = .purge ∧ u.hs.purge.map (fun p => (p.full, p.followOn)) = some (s.hs.purgeOwed, .lockout) ∧
        u.hs.pending = some (match s.hs.pending with | some c => c | none => .sensor)) ∧
      (s.hs.phase = .purge → u.hs.phase = .purge ∧
        u.hs.pending = some (match s.hs.pending with | some c => c | none => .sensor) ∧
        (s.hs.pending = none → u.hs.purge = s.hs.purge.map (fun p => { p with followOn := .lockout }))) ∧
      (s.hs.phase = .off ∨ s.hs.phase = .standby → u.hs.phase = .lockout ∧ u.hs.lockout = some .sensor) ∧
      (s.hs.phase = .lockout → u.hs.phase = .lockout ∧ u.hs.lockout = s.hs.lockout) ∧
      (s.fu.record = none →
        u.fu.record = some ⟨⟨.flameTemp, code, 0, .heater s.hs.phase, false⟩, now s⟩) ∧
      besideFaults { u with tu.clock := s.tu.clock } = besideFaults s) ∧
  (∀ (c : Int) (s : State), Running s → s.hs.flame.failed = true → 2 ≤ s.hs.flame.goodCount → s.hs.phase = .lockout →
    ∃ u, exec (.flameTempConversion (.celsius c)) s = .next u ∧ u.hs.flame.failed = false ∧ u.hs.phase = .lockout ∧
      u.hs.lockout = s.hs.lockout)

/-- The glow plug goes off at the end of the first 30 s of a FULL purge; the purge's end clears purge-owed, withdraws the PURGE
entry and enters the follow-on phase, LOCKOUT with the pending cause first, STANDBY with the cabin sensor FAILED going on to
PREHEAT (R82, R84, R85); OFF ends the activation (R75). -/
def Obligations.PurgeRunsToFollowOn : Prop :=
  (∀ s : State, Running s → ∀ run, s.hs.purge = some run → ∀ due, run.glowDue = some due →
    ∃ t, exec .purgeGlowOff s = .next t ∧ (chan 0 t).target = 0 ∧
      t.hs = { s.hs with purge := some { run with glowDue := none } } ∧
      (∀ n : Fin 12, n ≠ 0 → chan n t = chan n s) ∧ t.au = s.au ∧ t.cs = s.cs ∧ t.wu = s.wu ∧
      besideGrants t = besideGrants { s with tu.clock := max s.tu.clock due }) ∧
  (∀ s : State, Running s → s.hs.phase = .purge → ∀ run, s.hs.purge = some run →
    let stays : Prop := mergedHeat (dropGrant .heater .purge s) = s.hs.merged
    ∃ t, exec .purgeComplete s = .next t ∧ t.hs.purgeOwed = false ∧ findGrant .heater .purge t = none ∧
      t.hs.purge = none ∧ t.hs.phase ≠ .purge ∧ Noticed .heaterPhase t ∧
      (∀ c, s.hs.pending = some c → t.hs.phase = .lockout ∧ t.hs.lockout = some c ∧ t.hs.pending = none ∧
        ((chan 0 t).target, (chan 1 t).target, (chan 2 t).target) = (0, 0, 0)) ∧
      (s.hs.pending = none → stays →
        (run.followOn = .off → t.hs.phase = .off ∧ t.hs.activation = false) ∧
        (run.followOn = .preheat → t.hs.phase = .preheat) ∧
        (run.followOn = .standby → s.hs.cabin.failed = false → t.hs.phase = .standby) ∧
        (run.followOn = .standby → s.hs.cabin.failed = true → t.hs.phase = .preheat)) ∧
      (∀ n : Fin 12, 3 ≤ n.val → chan n t = chan n s) ∧
      besideGrants t = besideGrants { s with tu.clock := max s.tu.clock run.due })

/-- CLEAR_LOCKOUT is refused CONDITION with no lockout set, with an unacknowledged heater capture, or with a purge owed and
the fan LOCKED; taken in LOCKOUT it runs an owed purge in full, by the model's choice also with the flame sensor FAILED [44],
or leaves the heater OFF or restarting (R92), or, with that sensor FAILED and nothing owed, in LOCKOUT (R88). Taken in PURGE
it clears lockout pending and changes the follow-on phase. An untied heater suspension whose latest source is HEATER or
FLAME_TEMP is released, after HS has acted by phase [16], and leaves the list: its entries come back, or are removed and the
pre-warm alone placed again (R133, R161). -/
def Obligations.ClearLockoutTaken : Prop :=
  ∀ s : State, Serving .v s →
    let captured : Bool := match s.fu.record with | some c => isHeaterSource c.report.source | none => false
    let refused : Bool := s.hs.lockout.isNone || captured || (s.hs.purgeOwed && (chan 1 s).state == .locked)
    let frees : Bool := match suspensionOf .heater s with
      | some e => !e.tied && (e.source == .heater || e.source == .flameTemp)
      | none => false
    (refused = true → exec (.clearLockout .v) s = .next (answered .v 0x52#8 .condition [] s)) ∧
    (refused = false → s.hs.phase = .lockout → frees = false →
      ∃ t, exec (.clearLockout .v) s = .next t ∧ Answered .v 0x52#8 .ok [] t ∧ Noticed .heaterPhase t ∧
        (s.hs.purgeOwed = true → t.hs.phase = .purge ∧ t.hs.purge.map (·.full) = some true ∧ t.hs.lockout = none) ∧
        (s.hs.purgeOwed = false → s.hs.flame.failed = false → t.hs.lockout = none ∧
          t.hs.phase = if s.hs.merged.isSome ∧ s.ca.check = none then .preheat else .off) ∧
        (s.hs.purgeOwed = false → s.hs.flame.failed = true → t.hs.phase = .lockout ∧ t.hs.lockout = some .sensor) ∧
        besideGrants t = besideGrants { s with tu.dozeDue := none }) ∧
    (refused = false → s.hs.phase = .purge → frees = false →
      let follow : FollowOn :=
        if s.hs.flame.failed then .lockout else if s.hs.merged.isSome then .preheat else .off
      exec (.clearLockout .v) s = .next (answered .v 0x52#8 .ok [] (notifyBoth .heaterPhase { s with
        hs.lockout := none
        hs.pending := if s.hs.flame.failed then some .sensor else none
        hs.purge := s.hs.purge.map (fun r => { r with followOn := follow }) }))) ∧
    (refused = false → frees = true → s.hs.phase = .lockout ∨ s.hs.phase = .purge →
      ∃ t, exec (.clearLockout .v) s = .next t ∧ Answered .v 0x52#8 .ok [] t ∧ Noticed .heaterPhase t ∧
        t.fu = { s.fu with susp := s.fu.susp.filter (fun x => x.load != .heater) } ∧
        (s.hs.phase = .purge ∨ s.hs.purgeOwed = true → t.hs.phase = .purge ∧ t.hs.lockout = none ∧
          (s.hs.phase = .lockout → t.hs.purge.map (·.full) = some true)) ∧
        (s.hs.phase = .lockout → s.hs.purgeOwed = false →
          (s.hs.flame.failed = true → t.hs.phase = .lockout ∧ t.hs.lockout = some .sensor) ∧
          (s.hs.flame.failed = false → t.hs.lockout = none ∧
            (s.hs.merged = mergedHeat s → t.hs.phase = .off ∨ t.hs.phase = .preheat))) ∧
        (TableSound s → ∀ e, suspensionOf .heater s = some e → ∀ p : Purpose, p ≠ .purge →
          ∀ g, findGrant .heater p s = some g → g.state = .suspended →
          (findGrant .heater p t).map (·.state) ≠ some .suspended ∧
          (e.restartable = false → p ≠ .schedule → findGrant .heater p t = none) ∧
          (e.restartable = true → (findGrant .heater p t).map (·.req) = some g.req)) ∧
        besideRests t = besideRests s)

/-! ### The Cold Store Controller -/

/-- FRIDGE_SET enables CS with the credit at 0, the next due one interval away and its COOLING entry in place, or disables
it with the entry withdrawn, the run ended and the credit kept; the state it has already changes nothing (R98, R99). -/
def Obligations.FridgeSetEnablesAndDisables : Prop :=
  ∀ (l : Link) (s : State), Serving l s →
    exec (.fridgeSet l s.cs.enable) s = .next (answered l 0x24#8 .ok [] s) ∧
    (s.cs.enable = false → ∃ t, exec (.fridgeSet l true) s = .next t ∧ Answered l 0x24#8 .ok [] t ∧
      t.cs.enable = true ∧ (findGrant .fridge .cooling t).isSome = true ∧ t.cs.run = s.cs.run ∧
      t.cs.nextDue = s.tu.rtc + BitVec.ofNat 32 (60 * (match s.cs.mode with
        | .normal => s.policy.p42 | .warm => s.policy.p43 | .cool => s.policy.p44)) ∧
      (s.cs.slotPending = false → t.cs.c = 0) ∧ t.ca = s.ca ∧ t.hs = s.hs ∧
      besideGrants t = besideGrants { s with tu.dozeDue := none }) ∧
    (s.cs.enable = true → ∃ t, exec (.fridgeSet l false) s = .next t ∧ Answered l 0x24#8 .ok [] t ∧
      t.cs.enable = false ∧ t.cs.slotPending = false ∧ t.cs.run = none ∧ t.cs.warm = false ∧ t.cs.c = s.cs.c ∧
      t.cs.nextDue = s.cs.nextDue ∧ findGrant .fridge .cooling t = none ∧ findWarning .cabinetWarm .cab t = none ∧
      (s.cs.run.isSome = true → t.cs.minOffDue = some (s.tu.clock + 180000000) ∧ (chan 3 t).target = 0) ∧
      (∀ n : Fin 12, n ≠ 3 → chan n t = chan n s) ∧
      besideGrants t = besideGrants { s with tu.dozeDue := none })

/-- A slot that falls due moves the next-due time one interval on and is decided by the first step that applies: banked
credit, a pending slot run, postponement above −8, else a slot run; at −8 the run is forced and aborts a wiring check
(R98, R102 to R105). -/
def Obligations.SlotDueDecidedInOrder : Prop :=
  ∀ s : State, Running s →
    let reached : Bool := s.cs.enable && atOrAfter (now s) s.cs.nextDue
    let due := s.cs.nextDue
    let interval := match s.cs.mode with | .normal => s.policy.p42 | .warm => s.policy.p43 | .cool => s.policy.p44
    let wanted : Bool := s.cs.deficit || s.ca.check.isSome || inHold s || coolingSuspended s ||
      ((s.rm.quiet.lower || s.rm.quiet.upper) && decide (-(s.policy.p46 : Int) < s.cs.c))
    let decided (d : SlotDecision) (c : Int) (pending : Bool) : Prop :=
      ∃ t, exec .slotDue s = .next t ∧ { t with cs.formed := s.cs.formed } = { s with
        cs.nextDue := due + BitVec.ofNat 32 (60 * interval)
        cs.c := c
        cs.slotPending := pending
        cs.lastDecision := some (d, due, c) }
    (reached = false → exec .slotDue s = .next s) ∧
    (reached = true →
      (0 < s.cs.c → decided .banked (s.cs.c - 1) s.cs.slotPending) ∧
      (s.cs.c ≤ 0 → s.cs.slotPending = true →
        decided .alreadyPending (if -8 < s.cs.c then s.cs.c - 1 else s.cs.c) true) ∧
      (s.cs.c ≤ 0 → s.cs.slotPending = false → wanted = true → -8 < s.cs.c →
        decided .postponed (s.cs.c - 1) false) ∧
      (s.cs.c ≤ 0 → s.cs.slotPending = false → wanted = false → -8 < s.cs.c → decided .counted s.cs.c true) ∧
      (s.cs.c = -8 → s.cs.slotPending = false → ∃ t, exec .slotDue s = .next t ∧ t.cs.c = -8 ∧
        t.cs.lastDecision = some (.counted, due, -8) ∧ t.ca.check = none ∧
        t.cs.nextDue = due + BitVec.ofNat 32 (60 * interval) ∧
        (coolingSuspended s = false → t.cs.slotPending = true) ∧
        (coolingSuspended s = true → t.cs.slotPending = false) ∧
        (s.ca.check.isSome = true → t.ca.results.map (·.completed) = some false ∧ Noticed .checkDone t)))

/-- A run starts where CS is enabled, COOLING is ACTIVE, no run, min-off or wiring check stands in the way, and one is
wanted: a pending slot first, then the override of a warm cabinet, a catch-up, a pull-in. A run's end starts the min-off
timer; catch-ups and pull-ins raise the credit to +8 at most; an override that leaves the cabinet warm raises CABINET_WARM
(R106 to R108). The cabinet is warm as its last result found it [48]; on is the target 255 [30]. -/
def Obligations.CompressorRuns : Prop :=
  (∀ s : State, Running s →
    let may : Bool := s.cs.enable && coolingActive s && s.cs.run.isNone && s.cs.minOffDue.isNone && s.ca.check.isNone
    let hot : Bool := s.cs.tk.isSome && s.cs.hot
    let starts (k : RunKind) : Prop := exec .runStart s = .next (setTarget 3 255 { s with
      cs.run := some k, cs.runDue := some (s.tu.clock + 60000000 * s.policy.p41)
      cs.slotPending := if k = .slot then false else s.cs.slotPending })
    (may = false → exec .runStart s = .next s) ∧
    (may = true → s.cs.slotPending = true → starts .slot) ∧
    (may = true → s.cs.slotPending = false → hot = true → starts .override_) ∧
    (may = true → s.cs.slotPending = false → hot = false → postponeWanted s = false → s.cs.c < 0 → starts .catchUp) ∧
    (may = true → s.cs.slotPending = false → hot = false → postponeWanted s = false → 0 ≤ s.cs.c → s.cs.c < 8 →
      s.cs.surplus = true → starts .pullIn) ∧
    (s.cs.slotPending = false → hot = false → postponeWanted s = true → exec .runStart s = .next s) ∧
    (s.cs.slotPending = false → hot = false → 0 ≤ s.cs.c → s.cs.surplus = false ∨ 8 ≤ s.cs.c →
      exec .runStart s = .next s)) ∧
  (∀ s : State, Running s → ∀ k, s.cs.run = some k → ∀ due, s.cs.runDue = some due →
    let t := max s.tu.clock due
    let hot : Bool := s.cs.tk.isSome && s.cs.hot
    (k ≠ .override_ ∨ hot = false →
      exec .runComplete s = .next (setTarget 3 0 { s with
        tu.clock := t, cs.run := none, cs.runDue := none, cs.minOffDue := some (t + 180000000)
        cs.c := if (k = .catchUp ∨ k = .pullIn) ∧ s.cs.c < 8 then s.cs.c + 1 else s.cs.c })) ∧
    (k = .override_ → hot = true → ∃ u, exec .runComplete s = .next u ∧ u.cs.run = none ∧
      u.cs.minOffDue = some (t + 180000000) ∧ u.cs.c = s.cs.c ∧ u.cs.warm = true ∧ (chan 3 u).target = 0 ∧
      (findWarning .cabinetWarm .cab u).isSome = true ∧ besideFaults u = besideFaults { s with tu.clock := t })) ∧
  (∀ s : State, Running s → ∀ due, s.cs.minOffDue = some due →
    exec .minOffExpiry s = .next { s with tu.clock := max s.tu.clock due, cs.minOffDue := none })

/-! ### The Rest Monitor -/

/-- An accumulation adds the elapsed time under the record's effective class: driving to both counters, a break to the
break segment and a rest to the rest segment; a segment that reaches its length qualifies once and clears what the rule
says, and without such a qualification the counters and the first part stand (R119, R120, R123, R124). The account timer
accumulates every record so. After an accumulation BREAK_SOON, BREAK_DUE, DAY_SOON and DAY_DUE hold as their ranges say, for a
record with a slot alone: one that begins stands in the warning list, at ALERT where it is due, one that ends is gone from it,
any other entry is as it was, and a list that agreed with the conditions agrees again; a slot lost by CARD ends them all
(R117, R126, R140). -/
def Obligations.AccumulationByEffectiveClass : Prop :=
  (∀ (p : Policy) (moving : Bool) (t : RtcTime) (r : Identity),
    let e := (timeDiff t r.lastUpdate).toNat
    let cls : Activity := if r.activity = .rest ∧ moving = true ∧ p.p59 % 2 = 0 then .available else r.activity
    let breaks : Bool := cls == .rest || (cls == .available && p.p59 / 2 % 2 == 1)
    let u := (accumulated p moving t r).1
    let breakNow : Bool := breaks && !r.breakQualified && (decide (p.p51 * 60 ≤ r.breakSeg + e) ||
      (r.firstPart && decide ((p.p51 - p.p52) * 60 ≤ r.breakSeg + e)))
    let restNow : Bool := cls == .rest && !r.restRegular && decide (p.p54 * 60 ≤ r.restSeg + e)
    (cls ≠ .drive → breakNow = false → restNow = false → u.continuous = r.continuous ∧ u.firstPart = r.firstPart) ∧
    (cls ≠ .drive → restNow = false → u.daily = r.daily ∧ u.shortRest = r.shortRest ∧ u.restRegular = r.restRegular) ∧
    (cls = .rest → r.restRegular = true → u.lastRestEnd = some t) ∧
    (restNow = false → cls ≠ .rest ∨ r.restRegular = false → u.lastRestEnd = r.lastRestEnd) ∧
    (cls = .drive → u = { r with lastUpdate := t, continuous := r.continuous + e, daily := r.daily + e }) ∧
    (cls ≠ .drive → breaks = false → u = { r with lastUpdate := t }) ∧
    (u.lastUpdate, u.key, u.slot, u.activity, u.activityStart, u.timeUncertain, u.lastActivity) =
      (t, r.key, r.slot, r.activity, r.activityStart, r.timeUncertain, r.lastActivity) ∧
    (breaks = true →
      let seg := r.breakSeg + e
      let whole : Bool := decide (p.p51 * 60 ≤ seg) || (r.firstPart && decide ((p.p51 - p.p52) * 60 ≤ seg))
      u.breakSeg = seg ∧ (cls = .available → u.restSeg = r.restSeg ∧ u.daily = r.daily) ∧
      (r.breakQualified = false → whole = true → u.continuous = 0 ∧ u.firstPart = false ∧ u.breakQualified = true) ∧
      (r.breakQualified = true ∨ whole = false → u.breakQualified = r.breakQualified)) ∧
    (cls = .rest →
      let seg := r.restSeg + e
      u.restSeg = seg ∧
      (r.restRegular = false → p.p54 * 60 ≤ seg → u.daily = 0 ∧ u.continuous = 0 ∧ u.firstPart = false ∧
        u.restRegular = true ∧ u.shortRest = none ∧ u.lastRestEnd = some t) ∧
      (seg < p.p54 * 60 → u.daily = r.daily ∧ u.restRegular = r.restRegular ∧ u.shortRest = r.shortRest) ∧
      (r.restWeekly = false → p.p57 * 60 ≤ seg → u.reducedUsed = 0 ∧ u.restWeekly = true) ∧
      (r.restWeekly = true ∨ seg < p.p57 * 60 → u.reducedUsed = r.reducedUsed ∧ u.restWeekly = r.restWeekly))) ∧
  (∀ s : State, Running s → ∃ t, exec .accountTimer s = .next t ∧
    t.tu.clock = max s.tu.clock s.rm.accountDue ∧ t.rm.accountDue = t.tu.clock + 60000000 ∧
    (∀ i : Fin 4, record i t = (record i s).map (fun r => (accumulated s.policy s.rm.moving (now s) r).1)) ∧
    t.rm.quiet = s.rm.quiet ∧ t.rm.moving = s.rm.moving ∧
    besideRests t = besideRests { s with tu.clock := max s.tu.clock s.rm.accountDue }) ∧
  (∀ s : State, Running s → ∃ t, exec .accountTimer s = .next t ∧ ∀ i : Fin 4, (record i s).isSome = true →
    let was := s.rm.conds[i]
    let is := rangeConds s.policy (record i t)
    let stood := listedConds i s
    let stands := listedConds i t
    t.rm.conds[i] = is ∧
    stands = ⟨if was.breakSoon = is.breakSoon then stood.breakSoon else is.breakSoon,
      if was.breakDue = is.breakDue then stood.breakDue else is.breakDue,
      if was.daySoon = is.daySoon then stood.daySoon else is.daySoon,
      if was.dayDue = is.dayDue then stood.dayDue else is.dayDue⟩ ∧
    (stood = was → stands = is) ∧
    (∀ k ∈ ([.breakSoon, .breakDue, .daySoon, .dayDue] : List WarnKind),
      (findWarning k (.record i) s = none → ∀ w, findWarning k (.record i) t = some w →
        (w.level, w.raiseTime, w.acked) = (if k = .breakDue ∨ k = .dayDue then .alert else .notice, now s, false)) ∧
      (∀ w, findWarning k (.record i) s = some w → ∀ x, findWarning k (.record i) t = some x → x = w))) ∧
  (∀ (d : DriverSlot) (s : State), Serving .v s → ∀ i, slotHolder d s = some i →
    ∃ t, exec (.card .v d 0#16) s = .next t ∧ t.rm.conds[i] = ⟨false, false, false, false⟩ ∧
      (listedConds i s = s.rm.conds[i] → listedConds i t = ⟨false, false, false, false⟩))

/-- ACCOUNT_READ accumulates the record its selector names and reports it, with the rest of a named bunk after the account's
figures [10], or answers NOT_FOUND; of the grant table it can touch a flash alone, whose warning the accumulation ends (R119,
R124, R135, R149). The end of quiet hours in a bunk forms the report of both bunks again [28], and AU applies its caps again
(R131): a COMFORT level of the zones, STEP and the vent is held under P23 or P24 but for the bunks at rest, lowers come first,
and a limit that rises raises levels in order of position, outside surplus as far as they fit (R43, R44). -/
def Obligations.AccountReadAndQuietHoursEnd : Prop :=
  (∀ (l : Link) (x : AccountSelector) (s : State), Serving l s →
    let named : Option (Fin 4 × Option Bunk) := match x with
      | .index i => if (record i s).isSome then some (i, none) else none
      | .slot d => (slotHolder d s).map (fun i => (i, none))
      | .bunk b => (s.rm.rests.get b).map (fun r => (r.record, some b))
    (named = none → exec (.accountRead l x) s = .next (answered l 0x20#8 .notFound [] s)) ∧
    (∀ n, named = some n → ∃ t, exec (.accountRead l x) s = .next t ∧
      Answered l 0x20#8 .ok (accountFigures n.1 t ++ (match n.2 with
        | some b => (match s.rm.rests.get b with | some r => encRest b r t | none => [])
        | none => [])) t ∧
      record n.1 t = (record n.1 s).map (fun r => (accumulated s.policy s.rm.moving (now s) r).1) ∧
      (∀ j : Fin 4, j ≠ n.1 → record j t = record j s) ∧ t.rm.rests = s.rm.rests ∧ t.rm.quiet = s.rm.quiet ∧
      t.au.table.filter (fun g => g.purpose != .warning) = s.au.table.filter (fun g => g.purpose != .warning) ∧
      besideRests t = besideRests s)) ∧
  (∀ (b : Bunk) (s : State), Running s →
    (s.rm.quiet.get b = false ∨ quietNow b s = true → exec (.quietHoursEnd b) s = .next s) ∧
    (s.rm.quiet.get b = true → quietNow b s = false → ∃ t, exec (.quietHoursEnd b) s = .next t ∧
      t.rm.quiet = ⟨quietNow .lower s, quietNow .upper s⟩ ∧ t.rm.recs = s.rm.recs ∧ besideRests t = besideRests s ∧
      (TableSound s → t.au.table.filter (fun g => g.load != .heater) =
        (applyCaps { s with rm.quiet := ⟨quietNow .lower s, quietNow .upper s⟩ }).au.table.filter
          (fun g => g.load != .heater)))) ∧
  (∀ s : State,
    let limit (g : Grant) : Option Nat :=
      if g.purpose = .comfort ∧ (s.rm.quiet.lower || s.rm.quiet.upper) = true ∧
        (match g.origin with
          | .lower => s.rm.rests.lower.isSome
          | .upper => s.rm.rests.upper.isSome
          | .cab => false) = false
      then (match g.load with
        | .zoneLower | .zoneUpper | .step => some s.policy.p23
        | .vent => some s.policy.p24
        | _ => none)
      else none
    let under (k : Option Nat) (v : Level) : Level :=
      { v with level := match k with | some m => min v.level m | none => v.level }
    let rises (g : Grant) : Bool := match g.quietLimit, limit g with
      | some _, none => true
      | some a, some b => decide (a < b)
      | none, _ => false
    let lowered : List Grant := s.au.table.map (fun g => { g with eff := under (limit g) g.eff })
    let u := applyCaps s
    u.au.table = (lowered.foldl raiseGrant { s with au.table := lowered }).au.table.map
      (fun g => { g with quietLimit := limit g }) ∧
    (TableSound s → ∀ g ∈ u.au.table, ∀ k, limit g = some k → g.eff.level ≤ k) ∧
    (TableSound s → ∀ g ∈ s.au.table,
      (rises g = false → { g with eff := under (limit g) g.eff, quietLimit := limit g } ∈ u.au.table) ∧
      (rises g = true → g.state = .shed ∨ g.state = .suspended ∨ s.au.surplus = true →
        { g with eff := under (limit g) g.req, quietLimit := limit g } ∈ u.au.table)) ∧
    (∀ g ∈ s.au.table, findGrant g.load g.purpose s = some g →
      (rises g = true → raiseGrant s g = updateGrant g.load g.purpose (fun y => { y with eff := raisedLevel s g }) s) ∧
      (rises g = false → raiseGrant s g = s) ∧
      (s.au.surplus = false → g.state = .active ∨ g.state = .waiting →
        let demandAt (k : Nat) : Int := (demandOf s (horizon s) s.au.table : Int) - projection s (horizon s) g +
          projection s (horizon s) { g with eff.level := k }
        let top := (under (limit g) g.req).level
        ∃ k, raisedLevel s g = { g.eff with level := k } ∧ g.eff.level ≤ k ∧
          (g.eff.level < k → k ≤ top ∧ demandAt k ≤ freeCharge s) ∧
          ∀ j : Nat, k < j → j ≤ top → freeCharge s < demandAt j)))

/-- CARD binds the record of the key, else the free record of lowest index, else the record bound to no slot and no bunk whose
last activity is the oldest, to the slot, which no other record then holds, and answers with its index, or is refused NO_ROOM;
key 0 withdraws the slot's card, answered with no payload [10] (R115 to R117, R119, R134). -/
def Obligations.CardBindsRecord : Prop :=
  ∀ (d : DriverSlot) (key : DriverKey) (s : State), Serving .v s →
    let known : Bool := s.rm.recs.toList.any (fun r => match r with | some x => x.key == key | none => false)
    let free : Bool := s.rm.recs.toList.any (·.isNone)
    let loose (i : Fin 4) : Bool := match record i s with
      | some x => x.slot.isNone && s.rm.rests.lower.map (·.record) != some i && s.rm.rests.upper.map (·.record) != some i
      | none => false
    let anyLoose : Bool := ([0, 1, 2, 3] : List (Fin 4)).any loose
    let fresh : Identity :=
      { key := key, slot := none, activity := .available, activityStart := now s, lastUpdate := now s
        lastActivity := now s, timeUncertain := s.tu.degraded || !s.tu.timeSet }
    let older (i j : Fin 4) : Bool := match record i s, record j s with
      | some x, some y => !atOrAfter x.lastActivity y.lastActivity
      | _, _ => false
    let binds (i : Fin 4) (r : Identity) : Prop := ∃ t, exec (.card .v d key) s = .next t ∧
      Answered .v 0x40#8 .ok [BitVec.ofNat 8 i.val] t ∧ hasNotice .account t.portV = true ∧
      record i t = some { r with slot := some d, lastActivity := now s } ∧
      (∀ j : Fin 4, j ≠ i →
        ((record j s).bind (·.slot) ≠ some d → record j t = record j s) ∧
        ((record j s).bind (·.slot) = some d →
          (record j t).map (fun x => (x.key, x.slot)) = (record j s).map (fun x => (x.key, none)) ∧
          (record j t).map (·.activity) ≠ some .drive ∧ (record j t).map (·.activity) ≠ some .work)) ∧
      t.rm.rests = s.rm.rests ∧ besideRests t = besideRests s
    (key ≠ 0#16 → known = false → free = false → anyLoose = false →
      exec (.card .v d key) s = .next (answered .v 0x40#8 .noRoom [] s)) ∧
    (key ≠ 0#16 → RecordsDistinct s → ∀ i : Fin 4,
      (∀ r, record i s = some r → r.key = key → binds i (accumulated s.policy s.rm.moving (now s) r).1) ∧
      (known = false → record i s = none → (∀ j : Fin 4, j < i → record j s ≠ none) → binds i fresh) ∧
      (known = false → free = false → loose i = true →
        (∀ j : Fin 4, loose j = true → (j < i → older i j = true) ∧ (i < j → older j i = false)) → binds i fresh)) ∧
    (key ≠ 0#16 → (known || free || anyLoose) = true → RecordsDistinct s → ∃ t, exec (.card .v d key) s = .next t ∧
      (port .v t).transfer = .none ∧ hasNotice .account t.portV = true ∧
      (∃ i : Fin 4, (port .v t).slot = some ⟨.ok, 0x40#8, [BitVec.ofNat 8 i.val]⟩ ∧
        (record i t).map (fun r => (r.key, r.slot, r.lastActivity, r.lastUpdate)) = some (key, some d, now s, now s) ∧
        (∀ j : Fin 4, j ≠ i → (record j t).map (·.key) = (record j s).map (·.key) ∧
          (record j t).bind (·.slot) ≠ some d) ∧
        (known = false → (record i t).map (fun r => (r.activity, r.continuous, r.daily, r.breakSeg, r.restSeg)) =
          some (.available, 0, 0, 0, 0))) ∧
      t.rm.rests = s.rm.rests ∧ besideRests t = besideRests s) ∧
    (slotHolder d s = none → exec (.card .v d 0#16) s = .next (answered .v 0x40#8 .ok [] s)) ∧
    (∀ i, slotHolder d s = some i → ∃ t, exec (.card .v d 0#16) s = .next t ∧ Answered .v 0x40#8 .ok [] t ∧
      (record i t).map (·.slot) = some none ∧ (record i t).map (·.activity) ≠ some .drive ∧
      (record i t).map (·.activity) ≠ some .work ∧ (∀ j : Fin 4, j ≠ i → record j t = record j s) ∧
      hasNotice .account t.portV = true ∧ besideRests t = besideRests s)

/-- ACTIVITY gives the slot's record its activity, accumulated first, and a leaving of REST ends the bunk rest bound to it;
MOTION accumulates every record and sets the moving flag; a class that leaves a break or a rest ends that segment, and the
rest is judged: regular, reduced while reduced rests are left, short or broken at a leaving by report, or nothing (R119, R121
to R123, R125, R129). SLOT_SWAP exchanges the slots (R118). -/
def Obligations.ActivityMotionAndSwap : Prop :=
  (∀ (d : DriverSlot) (act : Activity) (s : State), Serving .v s →
    (slotHolder d s = none → exec (.activity .v d act) s = .next (answered .v 0x41#8 .notFound [] s)) ∧
    (∀ i, slotHolder d s = some i → ∃ t, exec (.activity .v d act) s = .next t ∧ Answered .v 0x41#8 .ok [] t ∧
      (record i t).map (fun r => (r.activity, r.lastActivity, r.lastUpdate, r.slot)) =
        (record i s).map (fun r => (act, now s, now s, r.slot)) ∧
      (∀ r, record i s = some r → r.activity ≠ act → (record i t).map (·.activityStart) = some (now s)) ∧
      (∀ r, record i s = some r → r.activity = .rest → act ≠ .rest →
        ∀ b, boundBunk i s = some b → t.rm.rests.get b = none) ∧
      (∀ r, record i s = some r →
        let y : Identity := { (accumulated s.policy s.rm.moving (now s) r).1 with lastActivity := now s }
        let old := classOf s.policy.p59 s.rm.moving r.activity
        let new := classOf s.policy.p59 s.rm.moving act
        let w := breakJudged s.policy (breakFed s.policy.p59 old) (breakFed s.policy.p59 new)
          { y with activity := act, activityStart := now s }
        let target := shortAim i s
        (r.activity = act → record i t = some y) ∧
        (r.activity ≠ act → old ≠ .rest ∨ new = .rest → record i t = some w) ∧
        (r.activity ≠ act → old = .rest → new ≠ .rest →
          record i t = some (restJudged s.policy (now s) true target w) ∧
          (w.restRegular = false → ¬(s.policy.p55 * 60 ≤ w.restSeg ∧ w.reducedUsed < s.policy.p56) →
            s.policy.p51 * 60 ≤ w.restSeg →
            (findWarning (if target != .record && decide (w.restSeg < s.policy.p55 * 60) then .restBroken else .restShort)
              (match target with | .bunk b => .bunk b | .record => .record i) t).isSome = true))) ∧
      (∀ j : Fin 4, j ≠ i → record j t = record j s) ∧ besideRests t = besideRests s)) ∧
  (∀ (moving : Bool) (s : State), Serving .v s → ∃ t, exec (.motion .v moving) s = .next t ∧
    Answered .v 0x42#8 .ok [] t ∧ t.rm.moving = moving ∧ t.rm.rests = s.rm.rests ∧
    (∀ i : Fin 4, (record i t).map (fun r => (r.key, r.slot, r.activity, r.lastUpdate)) =
      (record i s).map (fun r => (r.key, r.slot, r.activity, now s))) ∧
    (∀ i : Fin 4, record i t = (record i s).map (fun r => reclassed s.policy s.policy.p59 s.rm.moving moving (now s)
      (shortAim i s) (accumulated s.policy s.rm.moving (now s) r).1)) ∧
    besideRests t = besideRests s) ∧
  (∀ s : State, Serving .v s →
    let swapped : State := { s with rm.recs := s.rm.recs.map (fun r => r.map (fun x => { x with
      slot := match x.slot with | some .driver => some .coDriver | some .coDriver => some .driver | none => none })) }
    exec (.slotSwap .v) s = .next (answered .v 0x43#8 .ok []
      (if s.rm.recs.toList.any (fun r => match r with | some x => x.slot.isSome | none => false)
       then notify .v .account swapped else swapped)))

/-- BUNK_REST begins or updates the rest of the record in the slot, with its planned end held within 24 h, or is refused
CONDITION; SNOOZE moves the planned end at most three times; BUNK_WAKE and the wake timeout end the rest with its WAKE
entry, its sunrise and its quiet hours (R127 to R131, R141, R150). The pre-warm is reconciled, by the account timer among
others [38]: the candidate of the earliest planned end holds it, its figures stand, are placed, are refused or have passed,
and a rest that had the entry is WANTED again; at a rest's end a WAITING or SHED entry is withdrawn and an ACTIVE one stays
(R94, R132, R133), as does, by the model's choice, a SUSPENDED one [54]. -/
def Obligations.BunkRestLifecycle : Prop :=
  (∀ (b : Bunk) (d : DriverSlot) (planned : Option RtcTime) (prewarm : Bool) (s : State), Serving .b s →
    let c : Instr := .bunkRest .b b d planned prewarm
    let other : Bunk := match b with | .lower => .upper | .upper => .lower
    let late : Bool := match planned with | some p => atOrAfter (now s) p | none => false
    let held := planned.map (fun p => if atOrAfter (now s + 86400#32) p then p else now s + 86400#32)
    (slotHolder d s = none → exec c s = .next (answered .b 0x60#8 .condition [] s)) ∧
    (∀ i, slotHolder d s = some i →
      let elsewhere : Bool := (s.rm.rests.get other).map (·.record) == some i && (s.rm.rests.get b).map (·.record) != some i
      let occupied : Bool := match s.rm.rests.get b with | some r => r.record != i | none => false
      (elsewhere = true ∨ occupied = true ∨ late = true → exec c s = .next (answered .b 0x60#8 .condition [] s)) ∧
      (elsewhere = false → occupied = false → late = false → (s.rm.rests.get other).map (·.record) ≠ some i →
        ∃ t, exec c s = .next t ∧ Answered .b 0x60#8 .ok [] t ∧
        (t.rm.rests.get b).map (fun r => (r.record, r.start, r.plannedEnd, r.prewarm, r.snoozes)) =
          some (match s.rm.rests.get b with
            | none => (i, now s, held, prewarm, 0)
            | some r => (i, r.start, held, prewarm, r.snoozes)) ∧
        (s.rm.rests.get b = none → ∀ j : Fin 4, ∀ broken : Bool,
          (record j t).bind (·.shortRest) ≠ some (broken, .bunk b)) ∧
        (t.rm.rests.get other).map (fun r => (r.record, r.start, r.plannedEnd, r.prewarm, r.snoozes)) =
          (s.rm.rests.get other).map (fun r => (r.record, r.start, r.plannedEnd, r.prewarm, r.snoozes)) ∧
        hasNotice .account t.portB = true ∧ besideRests t = besideRests s))) ∧
  (∀ (b : Bunk) (s : State), Serving .b s →
    (s.rm.rests.get b = none → exec (.bunkWake .b b) s = .next (answered .b 0x61#8 .notFound [] s)) ∧
    ((s.rm.rests.get b).isSome = true → ∃ t, exec (.bunkWake .b b) s = .next t ∧ Answered .b 0x61#8 .ok [] t ∧
      t.rm.rests.get b = none ∧ t.rm.quiet.get b = false ∧ findWarning .wake (.bunk b) t = none ∧
      findGrant (bunkZone b) .schedule t = none ∧ (t.wu.sunrise.get b).state = .done ∧ t.rm.recs = s.rm.recs ∧
      (∀ g, findGrant .heater .schedule s = some g → g.state = .active → s.rm.entryRest = some ⟨b, false⟩ →
        (findGrant .heater .schedule t).map (fun x => (x.pos, x.state, x.start, x.endTime)) =
          some (g.pos, .active, g.start, g.endTime) ∧ t.rm.entryRest = some ⟨b, true⟩) ∧
      hasNotice .account t.portB = true ∧ besideRests t = besideRests s)) ∧
  (∀ (b : Bunk) (s : State), Serving .b s →
    let target : Option RtcTime := match s.rm.rests.get b with
      | some r => if r.snoozes < 3 then r.plannedEnd else none
      | none => none
    (target = none → exec (.snooze .b b) s = .next (answered .b 0x62#8 .condition [] s)) ∧
    (∀ p, target = some p → ∃ t, exec (.snooze .b b) s = .next t ∧ Answered .b 0x62#8 .ok [] t ∧
      (let later := (if atOrAfter p (now s) then p else now s) + 600#32
       (t.rm.rests.get b).map (fun r => (r.record, r.start, r.plannedEnd, r.prewarm, r.snoozes)) =
        (s.rm.rests.get b).map (fun r => (r.record, r.start,
          some (if atOrAfter (now s + 86400#32) later then later else now s + 86400#32), r.prewarm, r.snoozes + 1))) ∧
      t.rm.recs = s.rm.recs ∧ hasNotice .account t.portB = true ∧ besideRests t = besideRests s)) ∧
  (∀ (b : Bunk) (s : State), Running s →
    let passed : Bool := match (s.rm.rests.get b).bind (·.plannedEnd) with
      | some p => atOrAfter (now s) (p + 1800#32)
      | none => false
    (passed = false → exec (.wakeTimeout b) s = .next s) ∧
    (passed = true → ∃ t, exec (.wakeTimeout b) s = .next t ∧ t.rm.rests.get b = none ∧ t.rm.quiet.get b = false ∧
      findWarning .wake (.bunk b) t = none ∧ (t.wu.sunrise.get b).state = .done ∧ t.rm.recs = s.rm.recs ∧
      besideRests t = besideRests s)) ∧
  (∀ s : State, Running s → exec .accountTimer s = .next (reconcilePrewarm (accumulateAll (now s)
    { s with tu.clock := max s.tu.clock s.rm.accountDue
             rm.accountDue := max s.tu.clock s.rm.accountDue + 60000000 }))) ∧
  (∀ s : State,
    let candidate (b : Bunk) : Option RtcTime := match s.rm.rests.get b with
      | some r =>
        if s.policy.p37 ≠ 0 ∧ (r.prewarmState = .wanted ∨ r.prewarmState = .placed ∨ r.prewarmState = .refused)
        then r.plannedEnd else none
      | none => none
    let holder : Option (Bunk × RtcTime) := match candidate .lower, candidate .upper with
      | none, none => none
      | some p, none => some (.lower, p)
      | none, some q => some (.upper, q)
      | some p, some q => if atOrAfter q p then some (.lower, p) else some (.upper, q)
    let state (b : Bunk) (x : State) : Option PrewarmState := (x.rm.rests.get b).map (·.prewarmState)
    let u := reconcilePrewarm s
    u.rm.holder = holder.map (·.1) ∧
    (holder = none →
      (findGrant .heater .schedule s = none → u = { s with rm.holder := none }) ∧
      (∀ g, findGrant .heater .schedule s = some g →
        (g.state = .active → u = { s with rm.holder := none }) ∧
        (g.state ≠ .active → findGrant .heater .schedule u = none ∧ u.rm.entryRest = none ∧ u.rm.rests = s.rm.rests))) ∧
    (∀ h, holder = some h →
      let start : RtcTime := h.2 - BitVec.ofNat 32 (60 * s.policy.p37)
      let stop : RtcTime := h.2 + 900#32
      let ask : GrantAsk :=
        { load := .heater, purpose := .schedule, requester := .internal
          origin := match h.1 with | .lower => .lower | .upper => .upper
          level := { level := 0, setpoint := match findGrant .heater .comfort s with | some g => g.req.setpoint | none => 20
                     maxStage := 2 }
          start := some start, endTime := some stop }
      let kept : Bool := match findGrant .heater .schedule s with
        | some g => decide (g.start = some start ∧ g.endTime = some stop) ||
          (g.state == .active && (match s.rm.entryRest with | some e => e.ended | none => false))
        | none => false
      let a := judgeAsk ask { s with rm.holder := some h.1 }
      (kept = true → u = { s with rm.holder := some h.1 }) ∧
      (kept = false → atOrAfter (now s) stop = true → state h.1 u = some .done ∧ u.au = s.au ∧ u.hs = s.hs) ∧
      (kept = false → atOrAfter (now s) stop = false → a.status = .ok ∨ a.status = .reduced →
        u.au = a.state.au ∧ u.hs = a.state.hs ∧ u.ca = a.state.ca ∧ u.rm.entryRest = some ⟨h.1, false⟩ ∧
        state h.1 u = some .placed ∧
        ∀ e, s.rm.entryRest = some e → e.bunk ≠ h.1 → e.ended = false →
          state e.bunk u = (state e.bunk s).map (fun _ => .wanted)) ∧
      (kept = false → atOrAfter (now s) stop = false → a.status ≠ .ok → a.status ≠ .reduced →
        u.au = s.au ∧ u.hs = s.hs ∧ u.rm.entryRest = s.rm.entryRest ∧ state h.1 u = some .refused))) ∧
  (∀ (b : Bunk) (s : State),
    (s.rm.entryRest ≠ some ⟨b, false⟩ → leavePrewarm b s = s) ∧
    (s.rm.entryRest = some ⟨b, false⟩ → ∀ g, findGrant .heater .schedule s = some g →
      (g.state = .waiting ∨ g.state = .shed →
        findGrant .heater .schedule (leavePrewarm b s) = none ∧ (leavePrewarm b s).rm.entryRest = none) ∧
      (g.state = .active ∨ g.state = .suspended →
        leavePrewarm b s = { s with rm.entryRest := some ⟨b, true⟩ })))

/-! ### The Warning Unit -/

/-- ACK_WARNING acknowledges an entry of its link's targets, which leaves the chime, and an acknowledged WAKE ends the
bunk's rest; P60 after its raise an unacknowledged NOTICE becomes ALERT; the WAKE condition raises its entry at the lead
time and makes it ALERT at the planned end (R139 to R144). -/
def Obligations.WarningsAckEscalateAndWake : Prop :=
  (∀ (l : Link) (k : WarnKind) (x : WarnTarget) (s : State), Serving l s →
    let may : Bool := match l, x with
      | .v, .bunk _ => false
      | .b, .record _ => false
      | _, _ => true
    (may = false → exec (.ackWarning l k x) s = .next (answered l 0x18#8 .notPermitted [] s)) ∧
    (may = true → findWarning k x s = none → exec (.ackWarning l k x) s = .next (answered l 0x18#8 .notFound [] s)) ∧
    (may = true → ∀ w, findWarning k x s = some w →
      (w.acked = true → exec (.ackWarning l k x) s = .next (answered l 0x18#8 .ok [] s)) ∧
      (w.acked = false → ∃ t, exec (.ackWarning l k x) s = .next t ∧ Answered l 0x18#8 .ok [] t ∧
        (k ≠ .wake → findWarning k x t = some { w with acked := true } ∧
          besideGrants t = besideGrants { s with tu.dozeDue := none }) ∧
        (k = .wake → ∀ b ∈ [Bunk.lower, .upper], x = .bunk b → (s.rm.rests.get b).isSome = true →
          t.rm.rests.get b = none ∧ findWarning .wake (.bunk b) t = none) ∧
        (match t.wu.chime with | .playing _ k' x' _ => k' == k && x' == x | .idle _ => false) = false ∧ besideRests t = besideRests s))) ∧
  (∀ (k : WarnKind) (x : WarnTarget) (s : State), Running s →
    let later : Bool := match k with | .restShort | .restBroken | .reserveLow | .cabinetWarm => true | _ => false
    (findWarning k x s = none ∨ later = false → exec (.escalation k x) s = .next s) ∧
    (∀ w, findWarning k x s = some w → w.acked = false → w.level = .notice → later = true →
      ∃ t, exec (.escalation k x) s = .next t ∧
        findWarning k x t = some { w with level := .alert, lastPlay := none } ∧
        t.tu.clock = max s.tu.clock (w.raisedAt + 1000000 * s.policy.p60) ∧
        (deliveredV x = true → hasNotice .warning t.portV = true) ∧
        (deliveredB x = true → hasNotice .warning t.portB = true) ∧ t.rm = s.rm ∧
        besideFaults t = besideFaults { s with tu.clock := max s.tu.clock (w.raisedAt + 1000000 * s.policy.p60) })) ∧
  (∀ (b : Bunk) (s : State), Running s →
    let lead : Option RtcTime := match (s.rm.rests.get b).bind (·.plannedEnd) with
      | some p => if atOrAfter (now s) (p - BitVec.ofNat 32 (60 * s.policy.p61)) then some p else none
      | none => none
    (lead = none → exec (.wakeLeadReached b) s = .next s) ∧
    (∀ p, lead = some p →
      (findWarning .wake (.bunk b) s = none → ∃ t, exec (.wakeLeadReached b) s = .next t ∧
        (findWarning .wake (.bunk b) t).map (fun w => (w.level, w.raiseTime, w.acked, w.lastPlay)) =
          some (if atOrAfter (now s) p then .alert else .notice, now s, false, none) ∧
        hasNotice .warning t.portB = true ∧ besideFaults t = besideFaults s) ∧
      (atOrAfter (now s) p = true → ∀ w, findWarning .wake (.bunk b) s = some w → w.acked = false →
        ∃ t, exec (.plannedEndReached b) s = .next t ∧
          (findWarning .wake (.bunk b) t).map (fun x => (x.level, x.acked, x.raiseTime)) =
            some (.alert, false, w.raiseTime) ∧ besideFaults t = besideFaults s)))

/-- A flash phase ends in the other one, 1 s long, and the zone is fully lit in an on-phase; WU places the flash entry while a
bunk has an unacknowledged ALERT, withdraws it with the last one, and gives the flash up at a non-restartable removal (R37,
R148, R149). A sunrise is placed for a rest's planned end, refused, done or left as it stands, and its step forms the ramp
level, 160 from 20 min before its end on and never above (R150, R151). The chime goes to the first entry in list order that
wants it, ALERT before NOTICE; its pattern's tones sound in turn, and 1 s of silence follows (R146, R147). That no planned
end stands beside NONE, or beside DONE after a rest [29], and that the 10 s between plays are counted on the RTC [25], is
the model's choice. -/
def Obligations.FlashSunriseAndChime : Prop :=
  let zone (b : Bunk) : Load := match b with | .lower => .zoneLower | .upper => .zoneUpper
  let origin (b : Bunk) : Origin := match b with | .lower => .lower | .upper => .upper
  (∀ (b : Bunk) (s : State), Running s → ∀ c, (s.wu.flash.get b).cycle = some c →
    (findGrant (bunkZone b) .warning s).map (·.state) = some .active → hasSuspended (bunkZone b) s = false →
    ∃ t, exec (.flashPhaseChange b) s = .next t ∧ t.tu.clock = max s.tu.clock c.2 ∧
      (t.wu.flash.get b).cycle = some (!c.1, t.tu.clock + 1000000) ∧ t.wu.list = s.wu.list ∧
      (let n : Fin 12 := match b with | .lower => 4 | .upper => 5
       (c.1 = false → (chan n t).target = 255) ∧ (c.1 = true → (chan n t).target = highestLevel (bunkZone b) t) ∧
       ∀ m : Fin 12, m ≠ n → chan m t = chan m s) ∧
      t.au = s.au ∧ t.cs = s.cs ∧ t.hs = s.hs ∧
      besideGrants t = besideGrants { s with tu.clock := max s.tu.clock c.2 }) ∧
  (∀ (b : Bunk) (s : State),
    let wanted : Bool := s.wu.list.any (fun w => w.target == .bunk b && w.level == .alert && !w.acked)
    let present : Bool := (findGrant (zone b) .warning s).isSome
    let marked (x : Bool) : State :=
      { s with wu.flash := s.wu.flash.set b { s.wu.flash.get b with givenUp := x } }
    let u := reconsiderFlash b s
    (wanted = true → present = true ∨ (s.wu.flash.get b).givenUp = true → u = s) ∧
    (wanted = true → present = false → (s.wu.flash.get b).givenUp = false →
      let held : Bool := hasSuspended (zone b) s || loadLocked (zone b) s || isSuspended (zone b) s
      u.au.table = putAt
        { pos := freePosition s.au.table, load := zone b, purpose := .warning, requester := .internal, origin := origin b
          req := {}, eff := {}, start := none, endTime := none, state := if held then .suspended else .active
          shedTime := none, quietLimit := none } s.au.table ∧
      ((s.wu.flash.get b).cycle = none →
        (u.wu.flash.get b).cycle = (if held then none else some (true, s.tu.clock + 1000000)) ∧
        (chan (match b with | .lower => 4 | .upper => 5) u).target = if held then 0 else 255) ∧
      u.wu.list = s.wu.list ∧ u.hs = s.hs ∧ u.cs = s.cs) ∧
    (wanted = false → findGrant (zone b) .warning u = none ∧ (u.wu.flash.get b).givenUp = false ∧
      (present = true → (u.wu.flash.get b).cycle = none) ∧
      (present = false → u = marked false)) ∧
    (wanted = true → flashRemoved b .nonRestartable s = marked true)) ∧
  (∀ (b : Bunk) (s : State), Running s → ∀ p, (s.rm.rests.get b).bind (·.plannedEnd) = some p →
    atOrAfter (now s) p = true → ∀ w, findWarning .wake (.bunk b) s = some w → w.acked = false → w.level = .notice →
    ∃ t, exec (.plannedEndReached b) s = .next t ∧
      ((findGrant (zone b) .warning t).isSome = true ∨ (t.wu.flash.get b).givenUp = true)) ∧
  (∀ (b : Bunk) (s : State), Running s → ∀ g, findGrant (bunkZone b) .schedule s = some g → g.state = .active →
    ∀ st, g.start = some st → ∀ e, g.endTime = some e →
    ∃ t, exec (.sunriseStep b) s = .next t ∧
      (t.wu.sunrise.get b).ramp = (let r := timeDiff (e - 1200#32) st
        if r ≤ 0 then 160 else (max 0 (min 160 (160 * timeDiff (now s) st / r))).toNat) ∧
      (t.wu.sunrise.get b).ramp ≤ 160 ∧ (t.wu.sunrise.get b).state = (s.wu.sunrise.get b).state ∧
      t.wu.list = s.wu.list ∧ t.au = s.au ∧ t.cs = s.cs ∧ t.hs = s.hs ∧ besideGrants t = besideGrants s) ∧
  (∀ (b : Bunk) (s : State),
    let planned : Option RtcTime := if s.policy.p62 = 0 then none else (s.rm.rests.get b).bind (·.plannedEnd)
    let x := s.wu.sunrise.get b
    let u := reconcileSunrise b s
    (planned = none → findGrant (zone b) .schedule u = none ∧ (u.wu.sunrise.get b).plannedEnd = none ∧
      (u.wu.sunrise.get b).state = if x.state = .done ∧ s.rm.rests.get b = none then .done else .none) ∧
    (∀ p, planned = some p →
      let start : RtcTime := p - BitVec.ofNat 32 (60 * s.policy.p62)
      let stop : RtcTime := p + 1200#32
      let kept : Bool := (x.state == .withdrawn || x.state == .done) && x.plannedEnd == some p ||
        (match findGrant (zone b) .schedule s with
          | some g => decide (g.start = some start ∧ g.endTime = some stop)
          | none => false)
      let a := judgeAsk { load := zone b, purpose := .schedule, requester := .internal, origin := origin b
                          level := { level := 160 }, start := some start, endTime := some stop } s
      (atOrAfter (now s) stop = true → (u.wu.sunrise.get b).state = .done ∧
        (u.wu.sunrise.get b).plannedEnd = some p ∧ u.au = s.au ∧ u.ca = s.ca) ∧
      (atOrAfter (now s) stop = false → kept = true → u = s) ∧
      (atOrAfter (now s) stop = false → kept = false → u.au = a.state.au ∧ u.ca = a.state.ca ∧
        (u.wu.sunrise.get b).plannedEnd = some p ∧
        (u.wu.sunrise.get b).state = if a.status = .ok ∨ a.status = .reduced then .placed else .refused))) ∧
  (∀ s : State, Running s →
    let wants (w : Warning) : Bool :=
      (match w.kind, w.target with
        | .wake, .bunk _ | .restShort, .bunk _ | .restBroken, .bunk _ | .reserveLow, .cab | .cabinetWarm, .cab => true
        | _, _ => false) &&
      !w.acked &&
      (w.kind != .reserveLow || (s.rm.rests.lower.isNone && s.rm.rests.upper.isNone) || s.policy.p63 == 1) &&
      (match w.lastPlay with
        | none => true
        | some t => w.level == .alert && atOrAfter (now s) (t + 10#32))
    let pattern (w : Warning) : ChimePattern := match w.kind with
      | .wake => .triad | .restShort | .restBroken => .double | _ => .triple
    let length (w : Warning) : Nat := match pattern w with | .double => 600000 | .triple => 750000 | .triad => 750000
    (∀ w ∈ s.wu.list, wantsChime s w = wants w) ∧
    ((∀ w ∈ s.wu.list, wants w = false) → exec .chimePatternStart s = .next s) ∧
    (∀ p k x due, s.wu.chime = .playing p k x due → exec .chimePatternStart s = .next s) ∧
    (∀ gap, s.wu.chime = .idle gap → ∀ i w, s.wu.list[i]? = some w → wants w = true →
      (w.level = .alert → ∀ x ∈ s.wu.list.take i, x.level = .alert → wants x = false) →
      (w.level = .notice → (∀ x ∈ s.wu.list, x.level = .alert → wants x = false) ∧
        ∀ x ∈ s.wu.list.take i, wants x = false) →
      exec .chimePatternStart s = .next { s with
        tu.clock := max s.tu.clock gap
        wu.chime := .playing (pattern w) w.kind w.target (max s.tu.clock gap + length w)
        wu.list := s.wu.list.map (fun x =>
          if x.kind = w.kind ∧ x.target = w.target then { x with lastPlay := some (now s) } else x) })) ∧
  (∀ s : State, Running s →
    (chimeChoice s = none → exec .chimePatternStart s = .next s) ∧
    (∀ w, chimeChoice s = some w → w ∈ s.wu.list ∧ wantsChime s w = true ∧ w.acked = false ∧
      ((∃ x ∈ s.wu.list, x.level = .alert ∧ wantsChime s x = true) → w.level = .alert) ∧
      ∀ gap, s.wu.chime = .idle gap →
        ∃ t, exec .chimePatternStart s = .next t ∧
          (∀ p, patternOf w.kind w.target = some p → t.wu.chime = .playing p w.kind w.target
            (max s.tu.clock gap + (match p with | .double => 600000 | .triple => 750000 | .triad => 750000))) ∧
          (findWarning w.kind w.target t).map (·.lastPlay) = some (some (now s)) ∧
          { t with wu := s.wu } = { s with tu.clock := max s.tu.clock gap })) ∧
  (∀ s : State, Running s →
    ∀ p k x due, s.wu.chime = .playing p k x due →
    (let e (length : Nat) : Nat := s.tu.clock + length - due
     chimeTone s = match p with
      | .double => if e 600000 < 200000 then some 2800 else if e 600000 < 400000 then none
        else if e 600000 < 600000 then some 2800 else none
      | .triple => if e 750000 < 150000 then some 3300 else if e 750000 < 300000 then none
        else if e 750000 < 450000 then some 3300 else if e 750000 < 600000 then none
        else if e 750000 < 750000 then some 3300 else none
      | .triad => if e 750000 < 250000 then some 2000 else if e 750000 < 500000 then some 2500
        else if e 750000 < 750000 then some 3100 else none) ∧
    exec .chimePatternEnd s = .next { s with
      tu.clock := max s.tu.clock due, wu.chime := .idle (max s.tu.clock due + 1000000) }) ∧
  (∀ (s : State) (gap : Nat), s.wu.chime = .idle gap → chimeTone s = none)

/-! ### The Fault Unit -/

/-- HOLD enters SAFE HOLD with cause 3, at whose entry every live external grant is shed; RELEASE_HOLD leaves it where no
capture stands and no cause holds, and clears the entry time [39]; ACK_FAULT of the record releases a restartable LOCKED
channel and the tied suspension of its load, whose SUSPENDED entries come back as at CLEAR_CHANNEL, or are removed where it is
not restartable and their owners told: a sunrise is REFUSED, a pre-warm WANTED and reconciled, a flash given up, COOLING placed
again while the fridge is enabled (R49, R50, R66, R90, R99, R133, R149, R152, R160, R163, R165). A fault taken while the record stands is a double fault:
the record is kept, the hold record written, its load suspended untied, and SAFE HOLD entered with cause 1, at which a heater
fault purges the burning heater and any other limits it to stage 1 (R93, R159, R162). A BATT_TEMP fault carries the charge
path's state [33]. -/
def Obligations.HoldReleaseAndAckFault : Prop :=
  (∀ s : State, Serving .v s →
    (s.fu.cause3.isSome = true → exec (.hold .v) s = .next (answered .v 0x50#8 .ok [] s)) ∧
    (s.fu.cause3 = none → ∃ t, exec (.hold .v) s = .next t ∧ Answered .v 0x50#8 .ok [] t ∧ inHold t = true ∧
      t.fu = { s.fu with
        cause3 := some (now s), entryTime := if inHold s then s.fu.entryTime else some (now s) } ∧
      Noticed .hold t ∧
      (inHold s = false → TableSound s → ∀ g ∈ t.au.table, isExternal g.purpose = true →
        g.state = .shed ∨ g.state = .suspended) ∧
      (inHold s = true → t.au = s.au ∧ t.hs = s.hs) ∧ besideFaults t = besideFaults s)) ∧
  (∀ s : State, Serving .v s →
    let holds : Bool := (s.fu.cause2.isSome && s.cm.pathLost) || (s.fu.cause4.isSome && s.cm.voltageFloor)
    (inHold s = false ∨ s.fu.record.isSome = true ∨ holds = true →
      exec (.releaseHold .v) s = .next (answered .v 0x51#8 .condition [] s)) ∧
    (inHold s = true → s.fu.record = none → holds = false →
      exec (.releaseHold .v) s = .next (answered .v 0x51#8 .ok [] (notifyBoth .hold { s with fu :=
        { s.fu with cause1 := none, cause2 := none, cause3 := none, cause4 := none, holdRecord := none
                    entryTime := none } })))) ∧
  (∀ (l : Link) (source : FaultSource) (time : RtcTime) (s : State), Serving l s →
    (s.fu.record = none → exec (.ackFault l source time) s = .next (answered l 0x1C#8 .notFound [] s)) ∧
    (∀ c, s.fu.record = some c → c.report.source ≠ source ∨ c.time ≠ time →
      exec (.ackFault l source time) s = .next (answered l 0x1C#8 .condition [] s)) ∧
    (∀ c, s.fu.record = some c →
      ∃ t, exec (.ackFault l c.report.source c.time) s = .next t ∧ Answered l 0x1C#8 .ok [] t ∧
        t.fu.record = none ∧ Noticed .fault t ∧ inHold t = inHold s ∧
        (∀ n : Fin 12, c.report.source = .channel n → c.report.restartable = true → (chan n t).state ≠ .locked) ∧
        (∀ load, sourceLoad c.report.source = some load → (suspensionOf load s).map (·.tied) = some true →
          isSuspended load t = false) ∧
        (∀ e ∈ s.fu.susp, sourceLoad c.report.source ≠ some e.load → e ∈ t.fu.susp) ∧
        besideRests t = besideRests s ∧
        (let x := clearReleased l s
         let returned : State := match c.report.source with
           | .channel n => if c.report.restartable = true ∧ (chan n s).state = .locked then returnChannel n x else x
           | _ => x
         let released : State := match (sourceLoad c.report.source).bind (fun load => suspensionOf load s) with
           | some e =>
             let freed : State := { returned with fu.susp := s.fu.susp.filter (fun y => y.load != e.load) }
             if e.tied = false then returned else if e.restartable then entriesBack e.load freed else entriesGone e.load freed
           | none => returned
         besideAnswer l t = besideAnswer l (notifyBoth .fault { released with fu.record := none })))) ∧
  (∀ (n : Fin 12) (s : State),
    let owes : Bool := n == 1 && s.hs.phase == .lockout && s.hs.lockout.isSome && s.hs.purgeOwed
    let u := returnChannel n s
    (owes = false → u = setChan n (freedChannel n s.tu.clock (chan n s)) s) ∧
    (owes = true → u.hs.phase = .purge ∧ u.hs.pending = (if s.hs.pending.isSome then s.hs.pending else s.hs.lockout) ∧
      u.hs.purge.map (fun r => (r.full, r.followOn)) = some (true, .lockout) ∧ (findGrant .heater .purge u).isSome = true)) ∧
  (∀ (load : Load) (p : Purpose) (s : State),
    let u := reportRemoval load p .nonRestartable s
    let wanted : State := match s.rm.entryRest with
      | some e => if e.ended then { s with rm.entryRest := none } else setPrewarm e.bunk .wanted { s with rm.entryRest := none }
      | none => s
    let sunless (b : Bunk) : State := { s with wu.sunrise := s.wu.sunrise.set b { s.wu.sunrise.get b with
      state := .refused, plannedEnd := (s.rm.rests.get b).bind (·.plannedEnd) } }
    let unlit (b : Bunk) : State := reconsiderFlash b
      { s with wu.flash := s.wu.flash.set b { s.wu.flash.get b with givenUp := true } }
    (p = .comfort ∨ p = .courtesy ∨ p = .purge → u = s) ∧
    (load = .heater → p = .schedule → u = reconcilePrewarm wanted) ∧
    (load = .zoneLower → p = .schedule → u = sunless .lower) ∧ (load = .zoneUpper → p = .schedule → u = sunless .upper) ∧
    (load = .zoneLower → p = .warning → u = unlit .lower) ∧ (load = .zoneUpper → p = .warning → u = unlit .upper) ∧
    (load = .fridge → p = .cooling → s.cs.enable = false → u = s) ∧
    (load = .fridge → p = .cooling → s.cs.enable = true → (findGrant .fridge .cooling u).isSome = true ∧
      (TableSound s →
        u.au.table.filter (fun g => g.load != .fridge) = s.au.table.filter (fun g => g.load != .fridge)) ∧
      u.hs = s.hs ∧ u.ca = s.ca)) ∧
  (∀ (r : FaultReport) (s : State), s.fu.record.isSome = true → inHold s = false →
    let load : Option Load := match r.source with
      | .channel n => some (channelLoad n)
      | .heater | .flameTemp => some .heater
      | _ => none
    let t := takeFault r s
    t.fu.record = s.fu.record ∧ t.fu.holdRecord = some ⟨r.source, r.code, now s⟩ ∧
    (t.fu.cause1, t.fu.cause2, t.fu.cause3, t.fu.cause4) =
      (some (now s), if r.code = .chargePath then some (now s) else none, none, none) ∧
    t.fu.entryTime = some (now s) ∧ Noticed .fault t ∧ Noticed .hold t ∧
    (s.tu.mode = .doze → t.tu.exitDue.isSome = true) ∧
    (load = none → t.fu.susp = s.fu.susp) ∧
    (∀ x, load = some x → isSuspended x t = true ∧
      (isSuspended x s = false → t.fu.susp = s.fu.susp ++ [⟨x, r.restartable, false, r.source, r.code⟩] ∧
        ∀ g ∈ t.au.table, g.load = x → g.state = .suspended)) ∧
    (TableSound s → ∀ g ∈ t.au.table, isExternal g.purpose = true → g.state = .shed ∨ g.state = .suspended) ∧
    (load = some .heater → s.hs.phase = .preheat ∨ s.hs.phase = .ignite ∨ s.hs.phase = .run →
      t.hs.phase = .purge ∧ t.hs.purge.map (·.full) = some s.hs.purgeOwed ∧ (chan 2 t).target = 0 ∧
      (mergedHeat s = s.hs.merged →
        t.hs.purge.map (·.followOn) = some (if s.hs.pending.isSome then .lockout else .off))) ∧
    besideFaults t = besideFaults s) ∧
  (∀ (r : TempResult) (code : FaultCode) (s : State),
    (r = .openCircuit ∧ code = .sensorOpen ∨ r = .shortCircuit ∧ code = .sensorShort) → Running s →
    s.cm.sensor.failed = false → 2 ≤ s.cm.sensor.badCount →
    exec (.battTempConversion r) s = .next (takeFault ⟨.battTemp, code, 0, .chargePath s.cm.pathLost, true⟩ { s with
      tu.clock := max s.tu.clock s.cm.tempDue
      cm.tempDue := max s.tu.clock s.cm.tempDue + 1000000
      cm.sensor := { failed := true, badCount := s.cm.sensor.badCount + 1, goodCount := 0 } })) ∧
  (∀ (cause1 : Bool) (s : State),
    let u := heaterHoldEntry cause1 s
    (cause1 = true → s.hs.phase = .preheat ∨ s.hs.phase = .ignite ∨ s.hs.phase = .run →
      u.hs.phase = .purge ∧ (chan 2 u).target = 0 ∧ u.hs.pending = s.hs.pending ∧
      u.hs.purge.map (fun x => (x.full, x.followOn)) =
        some (s.hs.purgeOwed, if s.hs.pending.isSome then .lockout else .off)) ∧
    (cause1 = false → s.hs.phase = .run → ∀ k, s.hs.stage = some k → 1 ≤ k →
      (∀ m, s.hs.merged = some m → 1 ≤ m.maxStage) → 1 ≤ s.policy.p36 →
      u.hs.phase = .run ∧ u.hs.stage = some 1 ∧ u.hs.holdLimit = true ∧
      (k ≠ 1 → ((chan 1 u).target, (chan 2 u).target) = (110, 30)) ∧
      (k = 1 → u = { s with hs.holdLimit := true })) ∧
    (s.hs.phase ≠ .run → cause1 = false ∨ s.hs.phase ≠ .preheat ∧ s.hs.phase ≠ .ignite → u = s))

/-! ### The time base and DOZE -/

/-- Each second of the clock source adds one to the RTC; a stopped crystal fails over to SLOW with the records marked and
SLOW_OSC_STOP reported, a capture or, beside an unacknowledged one, a double fault; 1 s of steady edges returns the count to
the crystal, without a notice in a main reset (R162, R170, R171, R175). TIME_SET sets the RTC; RM accumulates every record at
the old time and takes the new one as its last update, clears the marks, reports quiet hours, ends a rest whose wake timeout
has passed and reconciles the pre-warm; after a set forward AU removes every entry whose end has passed and starts every one
whose start has, by position, and CS takes one slot due at once; WU tests each WAKE again (R48, R102, R119, R129, R131, R132,
R134, R141, R169, R172), with a changed mark alone in the notice of R134 [52]. That RM takes the set first, its pre-warm last
in its turn, then AU, CS and WU, is the model's order [16], of which R172 says that it does not change the outcome. -/
def Obligations.ClockSourceAndTimeSet : Prop :=
  (∀ s : State, exec .rtcSecond s = .next { s with tu.rtc := s.tu.rtc + 1#32, tu.subSecond := 0 }) ∧
  (∀ s : State,
    (s.tu.source = .slow → exec .crystalStop s = .next { s with tu.stableDue := none }) ∧
    (s.tu.source = .crystal → s.tu.resetHold.isSome = true → exec .crystalStop s = .next { s with
      tu.source := .slow, tu.degraded := true, tu.stableDue := none }) ∧
    (s.tu.source = .crystal → s.tu.resetHold = none → s.fu.record = none →
      ∃ t, exec .crystalStop s = .next t ∧ t.tu.source = .slow ∧ t.tu.degraded = true ∧ t.tu.rtc = s.tu.rtc ∧
        t.fu.record = some ⟨⟨.timebase, .slowOscStop, 0, .mode s.tu.mode, true⟩, now s⟩ ∧ t.fu.susp = s.fu.susp ∧
        (∀ i : Fin 4, record i t = (record i s).map (fun r => { r with timeUncertain := true })) ∧
        Noticed .rtcDegraded t ∧ Noticed .fault t ∧
        besideRests t = besideRests { s with tu.source := .slow, tu.degraded := true, tu.stableDue := none }) ∧
    (s.tu.source = .slow → exec .crystalEdgesResume s = .next { s with tu.stableDue := some (s.tu.clock + 1000000) }) ∧
    (s.tu.source = .crystal → exec .crystalEdgesResume s = .next s ∧ exec .crystalReturn s = .next s) ∧
    (Running s → s.tu.source = .slow → ∀ due, s.tu.stableDue = some due →
      exec .crystalReturn s = .next (notifyBoth .rtcDegraded { s with
        tu.clock := max s.tu.clock due, tu.source := .crystal, tu.degraded := false, tu.stableDue := none })) ∧
    (s.tu.resetHold.isSome = true → s.tu.source = .slow → ∀ due, s.tu.stableDue = some due →
      exec .crystalReturn s = .next { s with
        tu.clock := max s.tu.clock due, tu.source := .crystal, tu.degraded := false, tu.stableDue := none }) ∧
    (Running s → s.tu.source = .crystal → ∃ t, exec .crystalStop s = .next t ∧
      t = takeFault ⟨.timebase, .slowOscStop, 0, .mode s.tu.mode, true⟩ (marked true (notifyBoth .rtcDegraded
        { s with tu.source := .slow, tu.degraded := true, tu.stableDue := none })) ∧
      (s.fu.record.isSome = true → inHold s = false → t.fu.record = s.fu.record ∧ t.fu.cause1 = some (now s) ∧
        t.fu.holdRecord = some ⟨.timebase, .slowOscStop, now s⟩ ∧ t.fu.susp = s.fu.susp ∧ Noticed .hold t) ∧
      (s.fu.record.isSome = true → inHold s = true → t.fu = s.fu))) ∧
  (∀ (time : RtcTime) (s : State), Serving .v s → ∃ t, exec (.timeSet .v time) s = .next t ∧
    Answered .v 0x39#8 .ok [] t ∧ t.tu.timeSet = true ∧
    (∀ i : Fin 4, (record i t).map (fun r => (r.key, r.slot, r.activity, r.lastUpdate, r.timeUncertain)) =
      (record i s).map (fun r => (r.key, r.slot, r.activity, time, false))) ∧
    (∀ i : Fin 4, record i t = (record i s).map (fun r =>
      { (accumulated s.policy s.rm.moving (now s) r).1 with lastUpdate := time, timeUncertain := false })) ∧
    besideRests t = besideRests { s with tu.rtc := time, tu.subSecond := 0, tu.timeSet := true } ∧
    (Running s →
      let counted := accumulateAll (now s) { clearReleased .v s with
        tu.rtc := time, tu.subSecond := 0, tu.timeSet := true }
      let told := quietTold (marked false
        { counted with rm.recs := counted.rm.recs.map (fun r => r.map (fun x => { x with lastUpdate := time })) })
      let rested := reconcilePrewarm (after (.wakeTimeout .upper) (after (.wakeTimeout .lower) told))
      let forward : Bool := decide (0 < timeDiff time (now s))
      let ended := rested.au.table.foldl (fun x g => after (.grantEndReached g.load g.purpose) x) rested
      let started := ended.au.table.foldl (fun x g => after (.grantStartReached g.load g.purpose) x) ended
      let passed := if forward then started else rested
      let due : Bool := forward && s.cs.enable && atOrAfter time s.cs.nextDue
      besideAnswer .v t = besideAnswer .v
        (wakeTested .upper (wakeTested .lower (if due then slotNow passed else passed))) ∧
      (due = false → t.cs.nextDue = s.cs.nextDue ∧ t.cs.lastDecision = s.cs.lastDecision) ∧
      (due = true → t.cs.lastDecision.map (·.2.1) = some time ∧
        t.cs.nextDue = time + BitVec.ofNat 32 (60 * (match s.cs.mode with
          | .normal => s.policy.p42 | .warm => s.policy.p43 | .cool => s.policy.p44))) ∧
      (∀ b : Bunk, t.rm.quiet.get b = quietNow b t ∧
        (findWarning .wake (.bunk b) t).isSome = (wakeHolds b t).isSome ∧
        (t.rm.rests.get b).isSome = (match s.rm.rests.get b with
          | some r => (match r.plannedEnd with | some p => !atOrAfter time (p + 1800#32) | none => true)
          | none => false))))

/-- The doze timer's end puts the part in DOZE where both links are released and quiet, a review has followed the last
exit and no wiring check runs. The timer runs while the part is AWAKE with no exit in progress, both links are released, that
review has completed and no wiring check runs: it starts afresh for 2 s where the last of these becomes true, and at the end
of every transfer while they hold; it stops at a transfer's start and where one of them fails, and, by the model's inference,
does not run while the other link's transfer is open [24]. RELEASE alone sets a link's
released flag, every other request but FETCH clears it, and an empty transfer leaves it (R176, R181, R195). The end of an
exit's 2 ms puts the part in AWAKE with WAKE on both links (R179), and starts the timer where a review completed in those
2 ms (R181). -/
def Obligations.DozeEntryAndExit : Prop :=
  (∀ s : State, Running s → ∀ due, s.tu.dozeDue = some due →
    (s.tu.mode = .awake → s.tu.exitDue = none → s.tu.postExit = true → s.ca.check = none →
      s.portV.released = true → s.portB.released = true → s.portV.transfer = .none → s.portB.transfer = .none →
      exec .dozeTimerExpiry s = .next { s with
        tu.clock := max s.tu.clock due, tu.mode := .doze, tu.dozeDue := none }) ∧
    (s.tu.mode = .doze ∨ s.tu.postExit = false ∨ s.ca.check.isSome = true ∨ s.portV.released = false ∨
      s.portB.released = false → exec .dozeTimerExpiry s = .next s)) ∧
  (∀ s : State, Running s → ∀ due, s.tu.exitDue = some due →
    let awake : State := notifyBoth .wake { s with
      tu.clock := max s.tu.clock due, tu.mode := .awake, tu.exitDue := none }
    exec .dozeExitComplete s = .next { awake with tu.dozeDue := dozeTimer s.tu.dozeDue awake } ∧
    (s.tu.postExit = false → exec .dozeExitComplete s = .next { awake with tu.dozeDue := none })) ∧
  (∀ s : State, Running s → s.tu.exitDue = none → exec .dozeExitComplete s = .next s) ∧
  (∀ (l : Link) (s : State), Running s → (port l s).transfer = .none → ∃ t, exec (.transferStart l) s = .next t ∧
    t.tu.dozeDue = none ∧ (port l t).released = (port l s).released) ∧
  (∀ (l : Link) (s : State), Serving l s → s.tu.dozeDue = none → ∃ t, exec (.release l) s = .next t ∧
    (port l t).released = true ∧ t.tu.dozeDue = dozeTimer none t) ∧
  (∀ (l : Link) (n : Nat) (s : State), Serving l s → s.tu.dozeDue = none → ∃ t, exec (.fetch l n) s = .next t ∧
    (port l t).released = (port l s).released ∧ t.tu.dozeDue = dozeTimer none t) ∧
  (∀ (l : Link) (s : State), Serving l s → s.tu.dozeDue = none → ∃ t, exec (.undefinedRequest l []) s = .next t ∧
    (port l t).released = (port l s).released ∧ t.tu.dozeDue = dozeTimer none t) ∧
  (∀ (c : Instr) (l : Link) (k : Byte) (s : State), requestKind c = some (l, k) → c ≠ .release l → Serving l s →
    ∃ t, exec c s = .next t ∧ (port l t).released = false ∧ t.tu.dozeDue = none) ∧
  (∀ s : State, Running s → s.tu.mode = .awake → s.tu.exitDue = none → s.portV.released = true →
    s.portB.released = true → s.portV.transfer = .none → s.portB.transfer = .none → s.ca.check = none →
    s.tu.dozeDue = none → ∃ t, exec .review s = .next t ∧ t.tu.dozeDue = some (t.tu.clock + 2000000)) ∧
  (∀ (tripped : Bool) (peak : Nat) (s : State), Running s → ∀ run, s.ca.check = some run → s.tu.dozeDue = none →
    ∃ t, exec (.wiringStepEnd tripped peak) s = .next t ∧ t.tu.dozeDue = dozeTimer none t)

/-! ### The Handset Receiver -/

/-- PAIR_HANDSET opens the 30 s window that its close ends; a paired handset's frame is acted on and recorded, an unpaired
one's pairs it while the window is open and is ignored otherwise, as are then its repeats. Keys 0x01 to 0x07 request or
revoke the bunk's lights and the heat, the heat with no end by the model's choice [53], 0x08 snoozes the bunk's rest and
0x09 acknowledges the bunk's warnings and CAB's, and HR records the outcome. A repeat of a frame acted on steps LIGHT_UP or
LIGHT_DOWN again 200 ms after the last step, and does nothing but wake the part otherwise. That a whole frame or repeat may
come in one command, the repeat ending at most 13.5 ms after the repeat window, is the model's choice [18] (R130, R145,
R184 to R189). -/
def Obligations.HandsetFramesAndPairing : Prop :=
  let zone (b : Bunk) : Load := match b with | .lower => .zoneLower | .upper => .zoneUpper
  let reading (b : Bunk) : Load := match b with | .lower => .readLower | .upper => .readUpper
  let mine (id : Byte) (s : State) : Option Bunk :=
    if s.hr.paired.lower = some id then some .lower else if s.hr.paired.upper = some id then some .upper else none
  let heard (t : Nat) (s : State) : State := { s with
    tu.clock := t, hr.rx := .repeatWindow, hr.edgeAt := t - 8000, hr.windowDue := some (t - 8000 + 120000) }
  let does (u x : State) (outcome : ActionOutcome) : Prop :=
    u.au = x.au ∧ u.ca = x.ca ∧ u.hs = x.hs ∧ u.cs = x.cs ∧ u.hr.lastAction.map (·.outcome) = some outcome
  let asks (u x : State) (b : Bunk) (load : Load) (v : Level) : Prop :=
    let a := grantAsk { load := load, purpose := .comfort, requester := .handset
                        origin := match b with | .lower => .lower | .upper => .upper
                        level := v, start := none, endTime := none } x
    does u a.state ⟨a.status, none⟩
  let steps (u x : State) (b : Bunk) (key : Byte) : Prop :=
    let base : Nat := match findGrant (zone b) .comfort x with | some g => g.req.level | none => 0
    (key = 0x02#8 → (base = 255 → does u x ⟨.ok, none⟩) ∧
      (base ≠ 255 → asks u x b (zone b) { level := min 255 (base + 16) })) ∧
    (key = 0x03#8 → (base = 0 → does u x ⟨.ok, none⟩) ∧ (0 < base → asks u x b (zone b) { level := base - 16 }))
  let recorded (u s : State) (b : Bunk) (id key : Byte) : Prop :=
    u.hr.lastAction.map (fun a => (a.bunk, a.id, a.key, a.time)) = some (b, id, key, now s) ∧
      hasNotice .handsetAction u.portB = true ∧ (s.tu.mode = .doze → u.tu.exitDue.isSome = true)
  (∀ (b : Bunk) (s : State), Serving .b s → exec (.pairHandset .b b) s = .next (answered .b 0x63#8 .ok []
    { s with hr.window := some (b, s.tu.clock + 30000000) })) ∧
  (∀ s : State, Running s → ∀ w, s.hr.window = some w → exec .pairingWindowClose s = .next
    { s with tu.clock := max s.tu.clock w.2, hr.window := none }) ∧
  (∀ (id key : Byte) (elapsed : Nat) (s : State), Running s →
    let t := max s.tu.clock (s.hr.edgeAt + elapsed)
    let x := heard t s
    let arrives : Bool := match s.hr.rx with
      | .idle | .repeatWindow => true
      | .stop (some bits) true => frameFields bits == (id, key, frameCheck id key)
      | _ => false
    (arrives = false → exec (.handsetFrame id key elapsed) s = .next s) ∧
    (arrives = true → id = 0#8 ∨ mine id s = none ∧ s.hr.window = none →
      exec (.handsetFrame id key elapsed) s = .next { x with hr.repeatable := false }) ∧
    (arrives = true → id ≠ 0#8 → mine id s = none → ∀ w, s.hr.window = some w →
      exec (.handsetFrame id key elapsed) s = .next (wake .handset (notify .b .paired { x with
        hr.paired := (match w.1 with
          | .lower => { s.hr.paired with lower := some id }
          | .upper => { s.hr.paired with upper := some id })
        hr.window := none, hr.repeatable := false }))) ∧
    (arrives = true → id ≠ 0#8 → ∀ b, mine id s = some b → ∃ u, exec (.handsetFrame id key elapsed) s = .next u ∧
      (let revokes (load : Load) : Prop := does u (mergeLoad load (dropGrant load .comfort x)) ⟨.ok, none⟩
       let entry (load : Load) : Option Grant := findGrant load .comfort s
       let live (load : Load) : Bool := (entry load).map (·.state) == some .active
       let target : Option RtcTime := match s.rm.rests.get b with
         | some r => if r.snoozes < 3 then r.plannedEnd else none
         | none => none
       let waiting := s.wu.list.filter (fun w => !w.acked && (w.target == .bunk b || w.target == .cab))
       (key = 0x01#8 → (live (zone b) = true → revokes (zone b)) ∧
         (live (zone b) = false → asks u x b (zone b) { level := 160 })) ∧
       steps u x b key ∧
       (key = 0x04#8 → (live (reading b) = true → revokes (reading b)) ∧
         (live (reading b) = false → asks u x b (reading b) { level := 255 })) ∧
       (key = 0x05#8 → (live .heater = true → revokes .heater) ∧
         (live .heater = false → asks u x b .heater
           { setpoint := (match entry .heater with | some g => g.req.setpoint | none => 20), maxStage := 4 })) ∧
       (key = 0x06#8 ∨ key = 0x07#8 →
         (entry .heater = none → does u x ⟨.notFound, none⟩) ∧
         (∀ g, entry .heater = some g → asks u x b .heater
           { setpoint := max 5 (min 30 (if key = 0x06#8 then g.req.setpoint + 1 else g.req.setpoint - 1))
             maxStage := g.req.maxStage })) ∧
       (key = 0x08#8 →
         (target = none → does u x ⟨.condition, none⟩ ∧ u.rm = s.rm ∧ u.wu = s.wu) ∧
         (∀ p, target = some p → u.hr.lastAction.map (·.outcome) = some ⟨.ok, none⟩ ∧
           (let later := (if atOrAfter p (now s) then p else now s) + 600#32
            (u.rm.rests.get b).map (fun r => (r.record, r.start, r.plannedEnd, r.prewarm, r.snoozes)) =
             (s.rm.rests.get b).map (fun r => (r.record, r.start,
               some (if atOrAfter (now s + 86400#32) later then later else now s + 86400#32), r.prewarm,
               r.snoozes + 1))) ∧
           u.rm.recs = s.rm.recs ∧ hasNotice .account u.portB = true)) ∧
       (key = 0x09#8 → u.hr.lastAction.map (·.outcome) = some ⟨.ok, some waiting.length⟩ ∧
         (∀ w ∈ u.wu.list, w.target = .bunk b ∨ w.target = .cab → w.acked = true) ∧
         (waiting.any (fun w => w.kind == .wake && w.target == .bunk b) = true → u.rm.rests.get b = none)) ∧
       (0x09 < key.toNat ∨ key = 0#8 → does u x ⟨.ok, none⟩ ∧ u.rm = s.rm ∧ u.wu = s.wu)) ∧
      recorded u s b id key ∧
      { u.hr with lastAction := s.hr.lastAction } = { x.hr with lastFrame := some ⟨id, key, t⟩, repeatable := true } ∧
      (key.toNat ≤ 0x07 → besideFaults { u with hr := s.hr } = besideFaults { s with tu.clock := t }) ∧
      besideRests { u with hr := s.hr } = besideRests { s with tu.clock := t })) ∧
  (∀ (elapsed : Nat) (s : State), Running s →
    let t := max s.tu.clock (s.hr.edgeAt + elapsed)
    let arrives : Bool := match s.hr.rx, s.hr.windowDue with
      | .repeatWindow, some w => decide (t ≤ w + 13500)
      | .repeatWindow, none => true
      | .stop none true, _ => true
      | _, _ => false
    (arrives = false → exec (.handsetRepeat elapsed) s = .next s) ∧
    (arrives = true → s.hr.repeatable = false ∨ s.hr.lastFrame = none →
      exec (.handsetRepeat elapsed) s = .next (heard t s)) ∧
    (arrives = true → s.hr.repeatable = true → ∀ f, s.hr.lastFrame = some f →
      let again : Bool := (f.key == 0x02#8 || f.key == 0x03#8) && decide (f.stepAt + 200000 ≤ t)
      (mine f.id s = none ∨ again = false → exec (.handsetRepeat elapsed) s = .next (wake .handset (heard t s))) ∧
      (again = true → ∀ b, mine f.id s = some b →
        let x : State := { wake .handset (heard t s) with hr.lastFrame := some { f with stepAt := t } }
        ∃ u, exec (.handsetRepeat elapsed) s = .next u ∧ steps u x b f.key ∧ recorded u s b f.id f.key ∧
          { u.hr with lastAction := s.hr.lastAction } = x.hr ∧
          besideFaults { u with hr := s.hr } = besideFaults { s with tu.clock := t })))

/-- The receiver's marks and spaces: a leader, twenty bits and a stop mark make a frame; a leader with the short space in the
repeat window makes a repeat; a duration out of its range and the end of the window go to IDLE (R183, R184). At the gap after
its stop mark a frame of twenty bits whose check fails is a check error, which discards it and goes to IDLE, and one whose
check holds is none (R184). That a check error may also stand for a whole frame received from IDLE or the repeat window, and
that TIMING_ERROR leaves the repeat window and the gap after a stop mark as they are, is the model's choice [18]. Twenty bits
sent most significant first are read back as the id and the key they were sent for. -/
def Obligations.ReceiverFollowsEdges : Prop :=
  (∀ (start : Bool) (elapsed : Nat) (s : State), Running s →
    let t := max s.tu.clock (s.hr.edgeAt + elapsed)
    let goes (rx : RxState) : Prop := exec (.infraredMarkEdge start elapsed) s = .next { s with
      tu.clock := t, hr.edgeAt := t, hr.rx := rx, hr.windowDue := none }
    (start = true → s.hr.rx = .idle → goes (.leader false false)) ∧
    (start = true → s.hr.rx = .repeatWindow → goes (.leader (match s.hr.windowDue with
      | some d => decide (t ≤ d) | none => false) false)) ∧
    (∀ x, s.hr.rx = .leader x false → start = false →
      if 2400 ≤ elapsed ∧ elapsed ≤ 4000 then goes (.leader x true) else goes .idle) ∧
    (∀ x, s.hr.rx = .leader x true → start = true →
      if 1200 ≤ elapsed ∧ elapsed ≤ 2000 then goes (.bits [] false)
      else if x = true ∧ 600 ≤ elapsed ∧ elapsed ≤ 1000 then goes (.stop none false) else goes .idle) ∧
    (∀ bits, s.hr.rx = .bits bits false → start = false →
      if 300 ≤ elapsed ∧ elapsed ≤ 500 then goes (.bits bits true) else goes .idle) ∧
    (∀ bits, s.hr.rx = .bits bits true → start = true →
      let next (b : Bool) : RxState :=
        if bits.length = 19 then .stop (some (bits ++ [b])) false else .bits (bits ++ [b]) false
      if 300 ≤ elapsed ∧ elapsed ≤ 500 then goes (next false)
      else if 900 ≤ elapsed ∧ elapsed ≤ 1500 then goes (next true) else goes .idle) ∧
    (∀ f, s.hr.rx = .stop f false → start = false →
      if 300 ≤ elapsed ∧ elapsed ≤ 500 then goes (.stop f true) else goes .idle) ∧
    (∀ f, s.hr.rx = .stop f true → start = true → elapsed < 8000 → goes .idle)) ∧
  (∀ s : State, Running s →
    ((match s.hr.rx with | .repeatWindow | .stop _ true => false | _ => true) = true →
      exec .timingError s = .next { s with hr.rx := .idle, hr.windowDue := none }) ∧
    (s.hr.rx = .repeatWindow → exec .timingError s = .next s ∧ ∀ due, s.hr.windowDue = some due →
      exec .repeatWindowTimeout s = .next { s with
        tu.clock := max s.tu.clock due, hr.rx := .idle, hr.windowDue := none })) ∧
  (∀ (elapsed : Nat) (s : State), Running s → s.hr.rx = .idle ∨ s.hr.rx = .repeatWindow →
    let t := max s.tu.clock (s.hr.edgeAt + elapsed)
    exec (.checkError elapsed) s = .next { s with
      tu.clock := t, hr.edgeAt := t - 8000, hr.rx := .idle, hr.windowDue := none }) ∧
  (∀ (elapsed : Nat) (s : State), Running s →
    let t := max s.tu.clock (s.hr.edgeAt + elapsed)
    (∀ bits, s.hr.rx = .stop (some bits) true →
      let read := frameFields bits
      (read.2.2 ≠ frameCheck read.1 read.2.1 → exec (.checkError elapsed) s = .next { s with
        tu.clock := t, hr.edgeAt := t - 8000, hr.rx := .idle, hr.windowDue := none }) ∧
      (read.2.2 = frameCheck read.1 read.2.1 → exec (.checkError elapsed) s = .next s)) ∧
    ((match s.hr.rx with | .leader _ _ | .bits _ _ | .stop _ false | .stop none true => true | _ => false) = true →
      exec (.checkError elapsed) s = .next s)) ∧
  (∀ s : State, Running s → (match s.hr.rx with | .stop _ true => true | _ => false) = true →
    exec .timingError s = .next { s with hr.windowDue := none }) ∧
  (∀ id key : Byte,
    let check : BitVec 4 := BitVec.ofNat 4 (id.toNat / 16 + id.toNat % 16 + key.toNat / 16 + key.toNat % 16)
    frameFields (((List.range 8).map id.getMsbD ++ (List.range 8).map key.getMsbD) ++ (List.range 4).map check.getMsbD) =
      (id, key, frameCheck id key))

/-! ### The Event Inputs -/

/-- INPUT_CONFIG stores a configuration and judges the input afresh; a changed pin starts the 20 ms debounce, or acts at once
without it; a change to active is an input event with its routed notices, its wake and its fixed function: the floor
detector's stop, the overheat, the STEP light for 120 s, a bunk's acknowledgement or its light (R87, R145, R190 to R193). In a
main reset a pin's level alone is kept [19]; INPUT_CONFIG keeps the time of the last event [51]. -/
def Obligations.InputsConfiguredAndDebounced : Prop :=
  (∀ (b : Byte) (config : InputConfig) (s : State), Serving .v s →
    (8 ≤ b.toNat → exec (.inputConfig .v b config) s = .next (answered .v 0x48#8 .notFound [] s)) ∧
    (b.toNat < 2 → s.policyLock = true → exec (.inputConfig .v b config) s = .next (answered .v 0x48#8 .locked [] s)) ∧
    (∀ n : Fin 8, b.toNat = n.val → 2 ≤ n.val ∨ s.policyLock = false →
      let raw : Bool := (input n s).pin == (config.polarity == .activeHigh)
      (config.debounce = true → exec (.inputConfig .v b config) s = .next (answered .v 0x48#8 .ok [] (setInput n
        { input n s with
          config := config, active := false
          debounceDue := if raw then some (s.tu.clock + 20000) else none } s))) ∧
      (config.debounce = false → ∃ t, exec (.inputConfig .v b config) s = .next t ∧ Answered .v 0x48#8 .ok [] t ∧
        input n t = { input n s with
          config := config, active := raw, debounceDue := none
          lastEvent := if raw then some (now s) else (input n s).lastEvent } ∧
        (∀ m : Fin 8, m ≠ n → input m t = input m s) ∧ t.policyLock = s.policyLock ∧ t.policy = s.policy))) ∧
  (∀ (n : Fin 8) (high : Bool) (s : State),
    ((input n s).pin = high → exec (.inputRawChange n high) s = .next s) ∧
    ((input n s).pin ≠ high → s.tu.resetHold.isSome = true →
      exec (.inputRawChange n high) s = .next (setInput n { input n s with pin := high } s)) ∧
    ((input n s).pin ≠ high → Running s → (input n s).config.debounce = true →
      exec (.inputRawChange n high) s = .next (setInput n
        { input n s with pin := high, debounceDue := some (s.tu.clock + 20000) } s)) ∧
    ((input n s).pin ≠ high → Running s → (input n s).config.debounce = false → ∃ t,
      exec (.inputRawChange n high) s = .next t ∧ (input n t).pin = high ∧
      (input n t).active = (high == ((input n s).config.polarity == .activeHigh)))) ∧
  (∀ (n : Fin 8) (s : State), Running s → ∀ due, (input n s).debounceDue = some due →
    let x := input n s
    let raw : Bool := x.pin == (x.config.polarity == .activeHigh)
    (raw = false ∨ x.active = true → exec (.debounceExpiry n) s = .next (setInput n
      { x with debounceDue := none, active := raw } { s with tu.clock := max s.tu.clock due })) ∧
    (raw = true → x.active = false → ∃ t, exec (.debounceExpiry n) s = .next t ∧
      input n t = { x with debounceDue := none, active := true, lastEvent := some (now s) } ∧
      (∀ m : Fin 8, m ≠ n → input m t = input m s) ∧
      (x.config.noticeV = true → hasNotice .input t.portV = true) ∧
      (x.config.noticeB = true → hasNotice .input t.portB = true) ∧
      (x.config.wake = true ∨ n = 0 → s.tu.mode = .doze → t.tu.exitDue.isSome = true) ∧
      (n = 0 → t.cm.floorStart = none) ∧
      (n = 1 → s.fu.record = none → t.fu.record.map (fun c => (c.report.source, c.report.code)) = some (.heater, .overheat)) ∧
      (let s1 : State := { s with tu.clock := max s.tu.clock due }
       let does (u : State) : Prop := t.au = u.au ∧ t.ca = u.ca ∧ t.hs = u.hs
       (n = 2 →
         let a := grantAsk { load := .step, purpose := .courtesy, requester := .input, origin := .cab
                             level := { level := 255 }, start := none, endTime := some (now s + 120#32) } s1
         does a.state ∧ t.ei.doorOutcome = some (⟨a.status, none⟩, now s)) ∧
       (∀ b : Bunk, n = (match b with | .lower => 3 | .upper => 4) →
         let waiting := s.wu.list.filter (fun w => !w.acked && (w.target == .bunk b || w.target == .cab))
         let zone : Load := match b with | .lower => .zoneLower | .upper => .zoneUpper
         let outcome := match b with | .lower => t.ei.lowerOutcome | .upper => t.ei.upperOutcome
         (waiting ≠ [] → outcome = some (⟨.ok, some waiting.length⟩, now s) ∧
           ∀ w ∈ t.wu.list, w.target = .bunk b ∨ w.target = .cab → w.acked = true) ∧
         (waiting = [] → (findGrant zone .comfort s).map (·.state) = some .active →
           does (mergeLoad zone (dropGrant zone .comfort s1)) ∧ outcome = some (⟨.ok, none⟩, now s)) ∧
         (waiting = [] → (findGrant zone .comfort s).map (·.state) ≠ some .active →
           let a := grantAsk { load := zone, purpose := .comfort, requester := .input
                               origin := match b with | .lower => .lower | .upper => .upper
                               level := { level := 160 }, start := none, endTime := none } s1
           does a.state ∧ outcome = some (⟨a.status, none⟩, now s)))) ∧
      (n = 2 → t.ei.doorOutcome.map (·.2) = some (now s)) ∧ (n = 3 → t.ei.lowerOutcome.map (·.2) = some (now s)) ∧
      (n = 4 → t.ei.upperOutcome.map (·.2) = some (now s)) ∧
      (5 ≤ n.val → t.au = s.au ∧ t.ca = s.ca ∧ t.hs = s.hs ∧ t.cm = s.cm ∧ t.rm = s.rm ∧ t.fu = s.fu ∧ t.wu = s.wu)))

/-! ### Policy storage -/

/-- POLICY_SET stores a value clamped to its item's range and answers with it; under the policy lock only a raise of the
start reserve is stored; an unknown item is NOT_FOUND. No other item changes but those whose range the change moves, which are
lowered to it; each item's range is its owner's table's (R8, R22, R53, R96, R112, R136, R154, R204 to R206). A changed value is
applied at once: AU revalidates at P01 to P03, P13 to P21 and P30 to P33 (R45, R46) and applies the caps at P23 and P24 (R44);
HS lowers its stage at P36 (R81); P37 moves quiet hours and the pre-warm (R131, R132); P40 sets a fixed rate mode, and the
interval in force forms the next due again (R101, R102), from the interval that the model keeps beside it [11]; P59 accumulates every record under the old settings and then changes
its class (R121, R136), which by the model's inference ends the break segment of an AVAILABLE record that it no longer feeds [31];
P60 escalates what is due (R143), P61 tests WAKE again (R141), P62 reconciles the sunrises (R150). Every
other item acts at its next use. -/
def Obligations.PolicySetClampsAndLocks : Prop :=
  (∀ (b : Byte) (value : BitVec 32) (s : State), Serving .v s →
    (policyItem? s.policy b.toNat = none →
      exec (.policySet .v b value) s = .next (answered .v 0x30#8 .notFound [] s)) ∧
    (∀ old, policyItem? s.policy b.toNat = some old →
      let range := itemRange s.policy b.toNat
      let new := max range.1 (min range.2 value.toNat)
      let barred : Bool := s.policyLock && !(b == 2#8 && decide (old < new))
      (barred = true → exec (.policySet .v b value) s = .next (answered .v 0x30#8 .locked [] s)) ∧
      (barred = false → new = old →
        exec (.policySet .v b value) s = .next (answered .v 0x30#8 .ok (encNat32 new) s)) ∧
      (barred = false → new ≠ old → ∃ t, exec (.policySet .v b value) s = .next t ∧
        Answered .v 0x30#8 .ok (encNat32 new) t ∧ policyItem? t.policy b.toNat = some new ∧
        t.policyLock = s.policyLock ∧
        (∀ j : Nat, j ≠ b.toNat → (b.toNat, j) ∉ [(1, 2), (51, 52), (54, 55)] →
          policyItem? t.policy j = policyItem? s.policy j) ∧
        (b = 1#8 → t.cm.q = min s.cm.q new ∧ (s.policy.p02 ≤ new / 2 → t.policy.p02 = s.policy.p02) ∧
          (new / 2 < s.policy.p02 → t.policy.p02 = new / 2)) ∧
        (b = 1#8 → (new < s.cm.q → t.cm.r = 0) ∧ (s.cm.q ≤ new → t.cm.r = s.cm.r)) ∧
        (b = 51#8 → t.policy.p52 = min s.policy.p52 (new - 5)) ∧
        (b = 54#8 → t.policy.p55 = min s.policy.p55 new) ∧
        (b ≠ 1#8 → t.cm = s.cm) ∧
        besideRests { t with policy := s.policy, cm := s.cm } = besideRests s ∧
        (Running s →
          let x : State := { clearReleased .v s with policy := storeItem b.toNat new s.policy }
          let leaves (u : State) : Prop := besideAnswer .v t = besideAnswer .v u
          (b = 1#8 → leaves (revalidate { x with
            policy := { x.policy with p02 := min s.policy.p02 (new / 2) }
            cm := if new < s.cm.q then { s.cm with q := new, r := 0 } else s.cm })) ∧
          (b.toNat ∈ [2, 3, 13, 14, 15, 16, 17, 18, 19, 20, 21, 30, 31, 32, 33] → leaves (revalidate x)) ∧
          (b.toNat ∈ [23, 24] → leaves (applyCaps x)) ∧
          (b = 36#8 → leaves (lowerStage x)) ∧
          (b = 37#8 → leaves (reconcilePrewarm (quietTold x))) ∧
          (b = 40#8 →
            let fixed : RateMode := if new = 0 then s.cs.mode else if new = 1 then .normal else if new = 2 then .warm else .cool
            leaves (if fixed = s.cs.mode then x else dueReformed { x with cs.mode := fixed })) ∧
          (b.toNat ∈ [42, 43, 44] →
            let inForce : Nat := match s.cs.mode with | .normal => 42 | .warm => 43 | .cool => 44
            leaves (if b.toNat = inForce then dueReformed x else x)) ∧
          (b = 51#8 → leaves { x with policy := { x.policy with p52 := min s.policy.p52 (new - 5) } }) ∧
          (b = 54#8 → leaves { x with policy := { x.policy with p55 := min s.policy.p55 new } }) ∧
          (b = 59#8 → t.rm.rests = s.rm.rests ∧ ∀ i : Fin 4, record i t = (record i s).map (fun r =>
            reclassed x.policy old s.rm.moving s.rm.moving (now s) (shortAim i s)
              (accumulated s.policy s.rm.moving (now s) r).1)) ∧
          (b = 60#8 → WarningsDistinct s → leaves (s.wu.list.foldl (fun y w =>
            if w.raisedAt + 1000000 * new ≤ s.tu.clock then after (.escalation w.kind w.target) y else y) x)) ∧
          (b = 61#8 → leaves (wakeTested .upper (wakeTested .lower x))) ∧
          (b = 62#8 → leaves (reconcileSunrise .upper (reconcileSunrise .lower x))) ∧
          (b.toNat ∈ [4, 5, 6, 7, 10, 11, 12, 34, 35, 41, 45, 46, 50, 52, 53, 55, 56, 57, 58, 63, 64] → leaves x))))) ∧
  (∀ s : State, Serving .v s →
    exec (.policyLock .v) s = .next (answered .v 0x32#8 .ok [] { s with policyLock := true })) ∧
  (∀ p : Policy,
    (∀ x ∈ ([(1, 20000, 800000), (3, 0, 6), (4, 200, 256), (5, 24000, 30000), (6, 10, 1000), (7, 20000, 25000),
        (10, 60, 720), (11, 0, 20000), (12, 50, 2000), (13, 100, 10000), (14, 100, 10000), (15, 100, 10000),
        (16, 100, 10000), (17, 100, 10000), (18, 100, 10000), (19, 100, 10000), (20, 100, 10000), (21, 100, 10000),
        (23, 0, 255), (24, 0, 255), (30, 300, 5000), (31, 300, 5000), (32, 300, 5000), (33, 300, 5000), (34, 0, 2000),
        (35, 0, 2000), (36, 1, 4), (37, 0, 120), (40, 0, 3), (41, 2, 15), (42, 20, 120), (43, 20, 120), (44, 20, 120),
        (45, 2, 20), (46, 0, 8), (50, 120, 360), (51, 30, 90), (53, 240, 900), (54, 480, 900), (56, 0, 5),
        (57, 1440, 4320), (58, 5, 60), (59, 0, 3), (60, 30, 600), (61, 0, 30), (62, 0, 60), (63, 0, 1),
        (64, 0, 20000)] : List (Nat × Nat × Nat)), itemRange p x.1 = x.2) ∧
    itemRange p 2 = (0, p.p01 / 2) ∧ itemRange p 52 = (5, p.p51 - 5) ∧ itemRange p 55 = (360, p.p54) ∧
    ∀ id, (policyItem? p id).isSome = true → id ≤ 64)

/-! ### What every step keeps -/

/-- Every step keeps the charge count within 0..C_nom and the residue within 0..3599 mC, and the slot credit within −8..+8,
from every state that has them there (R5, R98). -/
def Obligations.ChargeAndCreditStayInRange : Prop :=
  (∀ s t : State, ChargeInRange s → step s = .next t → ChargeInRange t) ∧
  (∀ s t : State, CreditInRange s → step s = .next t → CreditInRange t)

/-- Every step keeps purge-owed clear in OFF and STANDBY, and the fuel pump without target or drive outside IGNITE and
RUN (R79, R85). -/
def Obligations.HeaterStaysSafe : Prop :=
  (∀ s t : State, PurgeSettled s → step s = .next t → PurgeSettled t) ∧
  (∀ s t : State, PumpGated s → step s = .next t → PumpGated t)

/-- Every step keeps the output of each channel in OFF, TRIPPED or LOCKED off (R57). -/
def Obligations.OutputsStayOff : Prop :=
  ∀ s t : State, OutputsOff s → step s = .next t → OutputsOff t

/-- Every step keeps the grant table in order of position with distinct pairs, at most 12 external entries and no internal
pair but those of R24, and with it the shed list equal to the positions of the SHED grants, each once (R24, R40). -/
def Obligations.GrantTableStaysSound : Prop :=
  (∀ s t : State, TableSound s → step s = .next t → TableSound t) ∧
  (∀ s t : State, TableSound s → ShedListed s → step s = .next t → ShedListed t)

/-- Every step keeps the identity records' keys, slots and bunks distinct, and continuous driving within daily driving
(R114, R120). -/
def Obligations.RecordsStayDistinct : Prop :=
  (∀ s t : State, RecordsDistinct s → step s = .next t → RecordsDistinct t) ∧
  (∀ s t : State, DrivingOrdered s → step s = .next t → DrivingOrdered t)

/-- Every step keeps the pairing list, the suspension list and the warning list without doubles, and bits 17 to 31 of the
notice masks and the enables at 0 (R138, R159, R185, R200, R201). -/
def Obligations.ListsStayDistinct : Prop :=
  (∀ s t : State, PairingDistinct s → step s = .next t → PairingDistinct t) ∧
  (∀ s t : State, SuspensionsDistinct s → step s = .next t → SuspensionsDistinct t) ∧
  (∀ s t : State, WarningsDistinct s → step s = .next t → WarningsDistinct t) ∧
  (∀ s t : State, MasksInRange s → step s = .next t → MasksInRange t)
end

