-- ==== Sys2Proof/Laws/State.lean ====
section
/-! SUPPORT. What each named update of State leaves alone, one lemma per field, and what it writes. -/

namespace Sys2Proof.Machine

/-! ### The internal clock -/

@[simp] theorem reach_portV (t : Nat) (s : State) : (reach t s).portV = s.portV := rfl
@[simp] theorem reach_portB (t : Nat) (s : State) : (reach t s).portB = s.portB := rfl
@[simp] theorem reach_cm (t : Nat) (s : State) : (reach t s).cm = s.cm := rfl
@[simp] theorem reach_au (t : Nat) (s : State) : (reach t s).au = s.au := rfl
@[simp] theorem reach_ca (t : Nat) (s : State) : (reach t s).ca = s.ca := rfl
@[simp] theorem reach_hs (t : Nat) (s : State) : (reach t s).hs = s.hs := rfl
@[simp] theorem reach_cs (t : Nat) (s : State) : (reach t s).cs = s.cs := rfl
@[simp] theorem reach_rm (t : Nat) (s : State) : (reach t s).rm = s.rm := rfl
@[simp] theorem reach_wu (t : Nat) (s : State) : (reach t s).wu = s.wu := rfl
@[simp] theorem reach_fu (t : Nat) (s : State) : (reach t s).fu = s.fu := rfl
@[simp] theorem reach_hr (t : Nat) (s : State) : (reach t s).hr = s.hr := rfl
@[simp] theorem reach_ei (t : Nat) (s : State) : (reach t s).ei = s.ei := rfl
@[simp] theorem reach_policy (t : Nat) (s : State) : (reach t s).policy = s.policy := rfl
@[simp] theorem reach_policyLock (t : Nat) (s : State) : (reach t s).policyLock = s.policyLock := rfl
@[simp] theorem reach_pending (t : Nat) (s : State) : (reach t s).pending = s.pending := rfl

@[simp] theorem reach_tu_rtc (t : Nat) (s : State) : (reach t s).tu.rtc = s.tu.rtc := rfl
@[simp] theorem reach_tu_subSecond (t : Nat) (s : State) : (reach t s).tu.subSecond = s.tu.subSecond := rfl
@[simp] theorem reach_tu_timeSet (t : Nat) (s : State) : (reach t s).tu.timeSet = s.tu.timeSet := rfl
@[simp] theorem reach_tu_source (t : Nat) (s : State) : (reach t s).tu.source = s.tu.source := rfl
@[simp] theorem reach_tu_degraded (t : Nat) (s : State) : (reach t s).tu.degraded = s.tu.degraded := rfl
@[simp] theorem reach_tu_lastCause (t : Nat) (s : State) : (reach t s).tu.lastCause = s.tu.lastCause := rfl
@[simp] theorem reach_tu_kporFlag (t : Nat) (s : State) : (reach t s).tu.kporFlag = s.tu.kporFlag := rfl
@[simp] theorem reach_tu_stableDue (t : Nat) (s : State) : (reach t s).tu.stableDue = s.tu.stableDue := rfl
@[simp] theorem reach_tu_resetHold (t : Nat) (s : State) : (reach t s).tu.resetHold = s.tu.resetHold := rfl
@[simp] theorem reach_tu_mode (t : Nat) (s : State) : (reach t s).tu.mode = s.tu.mode := rfl
@[simp] theorem reach_tu_exitDue (t : Nat) (s : State) : (reach t s).tu.exitDue = s.tu.exitDue := rfl
@[simp] theorem reach_tu_postExit (t : Nat) (s : State) : (reach t s).tu.postExit = s.tu.postExit := rfl
@[simp] theorem reach_tu_dozeDue (t : Nat) (s : State) : (reach t s).tu.dozeDue = s.tu.dozeDue := rfl
@[simp] theorem reach_tu_lastWake (t : Nat) (s : State) : (reach t s).tu.lastWake = s.tu.lastWake := rfl
@[simp] theorem reach_clock (t : Nat) (s : State) : (reach t s).tu.clock = max s.tu.clock t := rfl

/-! ### Channels -/

@[simp] theorem setChan_tu (n : Fin 12) (c : Channel) (s : State) : (setChan n c s).tu = s.tu := rfl
@[simp] theorem setChan_portV (n : Fin 12) (c : Channel) (s : State) : (setChan n c s).portV = s.portV := rfl
@[simp] theorem setChan_portB (n : Fin 12) (c : Channel) (s : State) : (setChan n c s).portB = s.portB := rfl
@[simp] theorem setChan_cm (n : Fin 12) (c : Channel) (s : State) : (setChan n c s).cm = s.cm := rfl
@[simp] theorem setChan_au (n : Fin 12) (c : Channel) (s : State) : (setChan n c s).au = s.au := rfl
@[simp] theorem setChan_hs (n : Fin 12) (c : Channel) (s : State) : (setChan n c s).hs = s.hs := rfl
@[simp] theorem setChan_cs (n : Fin 12) (c : Channel) (s : State) : (setChan n c s).cs = s.cs := rfl
@[simp] theorem setChan_rm (n : Fin 12) (c : Channel) (s : State) : (setChan n c s).rm = s.rm := rfl
@[simp] theorem setChan_wu (n : Fin 12) (c : Channel) (s : State) : (setChan n c s).wu = s.wu := rfl
@[simp] theorem setChan_fu (n : Fin 12) (c : Channel) (s : State) : (setChan n c s).fu = s.fu := rfl
@[simp] theorem setChan_hr (n : Fin 12) (c : Channel) (s : State) : (setChan n c s).hr = s.hr := rfl
@[simp] theorem setChan_ei (n : Fin 12) (c : Channel) (s : State) : (setChan n c s).ei = s.ei := rfl
@[simp] theorem setChan_policy (n : Fin 12) (c : Channel) (s : State) : (setChan n c s).policy = s.policy := rfl
@[simp] theorem setChan_policyLock (n : Fin 12) (c : Channel) (s : State) : (setChan n c s).policyLock = s.policyLock := rfl
@[simp] theorem setChan_pending (n : Fin 12) (c : Channel) (s : State) : (setChan n c s).pending = s.pending := rfl

@[simp] theorem setChan_check (n : Fin 12) (c : Channel) (s : State) : (setChan n c s).ca.check = s.ca.check := rfl
@[simp] theorem setChan_results (n : Fin 12) (c : Channel) (s : State) : (setChan n c s).ca.results = s.ca.results := rfl

@[simp] theorem chan_setChan_self (n : Fin 12) (c : Channel) (s : State) : chan n (setChan n c s) = c := by
  simp [chan, setChan]

theorem chan_setChan_ne {n m : Fin 12} (h : m ≠ n) (c : Channel) (s : State) : chan m (setChan n c s) = chan m s := by
  have : n.val ≠ m.val := fun e => h (Fin.ext e.symm)
  simp [chan, setChan, this]

/-! ### Event inputs -/

@[simp] theorem setInput_tu (n : Fin 8) (x : EventInput) (s : State) : (setInput n x s).tu = s.tu := rfl
@[simp] theorem setInput_portV (n : Fin 8) (x : EventInput) (s : State) : (setInput n x s).portV = s.portV := rfl
@[simp] theorem setInput_portB (n : Fin 8) (x : EventInput) (s : State) : (setInput n x s).portB = s.portB := rfl
@[simp] theorem setInput_cm (n : Fin 8) (x : EventInput) (s : State) : (setInput n x s).cm = s.cm := rfl
@[simp] theorem setInput_au (n : Fin 8) (x : EventInput) (s : State) : (setInput n x s).au = s.au := rfl
@[simp] theorem setInput_ca (n : Fin 8) (x : EventInput) (s : State) : (setInput n x s).ca = s.ca := rfl
@[simp] theorem setInput_hs (n : Fin 8) (x : EventInput) (s : State) : (setInput n x s).hs = s.hs := rfl
@[simp] theorem setInput_cs (n : Fin 8) (x : EventInput) (s : State) : (setInput n x s).cs = s.cs := rfl
@[simp] theorem setInput_rm (n : Fin 8) (x : EventInput) (s : State) : (setInput n x s).rm = s.rm := rfl
@[simp] theorem setInput_wu (n : Fin 8) (x : EventInput) (s : State) : (setInput n x s).wu = s.wu := rfl
@[simp] theorem setInput_fu (n : Fin 8) (x : EventInput) (s : State) : (setInput n x s).fu = s.fu := rfl
@[simp] theorem setInput_hr (n : Fin 8) (x : EventInput) (s : State) : (setInput n x s).hr = s.hr := rfl
@[simp] theorem setInput_policy (n : Fin 8) (x : EventInput) (s : State) : (setInput n x s).policy = s.policy := rfl
@[simp] theorem setInput_policyLock (n : Fin 8) (x : EventInput) (s : State) : (setInput n x s).policyLock = s.policyLock := rfl
@[simp] theorem setInput_pending (n : Fin 8) (x : EventInput) (s : State) : (setInput n x s).pending = s.pending := rfl

@[simp] theorem input_setInput_self (n : Fin 8) (x : EventInput) (s : State) : input n (setInput n x s) = x := by
  simp [input, setInput]

theorem input_setInput_ne {n m : Fin 8} (h : m ≠ n) (x : EventInput) (s : State) :
    input m (setInput n x s) = input m s := by
  have : n.val ≠ m.val := fun e => h (Fin.ext e.symm)
  simp [input, setInput, this]

/-! ### Identity records -/

@[simp] theorem setRecord_tu (i : Fin 4) (r : Option Identity) (s : State) : (setRecord i r s).tu = s.tu := rfl
@[simp] theorem setRecord_portV (i : Fin 4) (r : Option Identity) (s : State) : (setRecord i r s).portV = s.portV := rfl
@[simp] theorem setRecord_portB (i : Fin 4) (r : Option Identity) (s : State) : (setRecord i r s).portB = s.portB := rfl
@[simp] theorem setRecord_cm (i : Fin 4) (r : Option Identity) (s : State) : (setRecord i r s).cm = s.cm := rfl
@[simp] theorem setRecord_au (i : Fin 4) (r : Option Identity) (s : State) : (setRecord i r s).au = s.au := rfl
@[simp] theorem setRecord_ca (i : Fin 4) (r : Option Identity) (s : State) : (setRecord i r s).ca = s.ca := rfl
@[simp] theorem setRecord_hs (i : Fin 4) (r : Option Identity) (s : State) : (setRecord i r s).hs = s.hs := rfl
@[simp] theorem setRecord_cs (i : Fin 4) (r : Option Identity) (s : State) : (setRecord i r s).cs = s.cs := rfl
@[simp] theorem setRecord_wu (i : Fin 4) (r : Option Identity) (s : State) : (setRecord i r s).wu = s.wu := rfl
@[simp] theorem setRecord_fu (i : Fin 4) (r : Option Identity) (s : State) : (setRecord i r s).fu = s.fu := rfl
@[simp] theorem setRecord_hr (i : Fin 4) (r : Option Identity) (s : State) : (setRecord i r s).hr = s.hr := rfl
@[simp] theorem setRecord_ei (i : Fin 4) (r : Option Identity) (s : State) : (setRecord i r s).ei = s.ei := rfl
@[simp] theorem setRecord_policy (i : Fin 4) (r : Option Identity) (s : State) : (setRecord i r s).policy = s.policy := rfl
@[simp] theorem setRecord_policyLock (i : Fin 4) (r : Option Identity) (s : State) : (setRecord i r s).policyLock = s.policyLock := rfl
@[simp] theorem setRecord_pending (i : Fin 4) (r : Option Identity) (s : State) : (setRecord i r s).pending = s.pending := rfl

@[simp] theorem record_setRecord_self (i : Fin 4) (r : Option Identity) (s : State) : record i (setRecord i r s) = r := by
  simp [record, setRecord]

theorem record_setRecord_ne {i j : Fin 4} (h : j ≠ i) (r : Option Identity) (s : State) :
    record j (setRecord i r s) = record j s := by
  have : i.val ≠ j.val := fun e => h (Fin.ext e.symm)
  simp [record, setRecord, this]

/-! ### Ports -/

@[simp] theorem mapPort_tu (l : Link) (f : Port → Port) (s : State) : (mapPort l f s).tu = s.tu := by cases l <;> rfl
@[simp] theorem mapPort_cm (l : Link) (f : Port → Port) (s : State) : (mapPort l f s).cm = s.cm := by cases l <;> rfl
@[simp] theorem mapPort_au (l : Link) (f : Port → Port) (s : State) : (mapPort l f s).au = s.au := by cases l <;> rfl
@[simp] theorem mapPort_ca (l : Link) (f : Port → Port) (s : State) : (mapPort l f s).ca = s.ca := by cases l <;> rfl
@[simp] theorem mapPort_hs (l : Link) (f : Port → Port) (s : State) : (mapPort l f s).hs = s.hs := by cases l <;> rfl
@[simp] theorem mapPort_cs (l : Link) (f : Port → Port) (s : State) : (mapPort l f s).cs = s.cs := by cases l <;> rfl
@[simp] theorem mapPort_rm (l : Link) (f : Port → Port) (s : State) : (mapPort l f s).rm = s.rm := by cases l <;> rfl
@[simp] theorem mapPort_wu (l : Link) (f : Port → Port) (s : State) : (mapPort l f s).wu = s.wu := by cases l <;> rfl
@[simp] theorem mapPort_fu (l : Link) (f : Port → Port) (s : State) : (mapPort l f s).fu = s.fu := by cases l <;> rfl
@[simp] theorem mapPort_hr (l : Link) (f : Port → Port) (s : State) : (mapPort l f s).hr = s.hr := by cases l <;> rfl
@[simp] theorem mapPort_ei (l : Link) (f : Port → Port) (s : State) : (mapPort l f s).ei = s.ei := by cases l <;> rfl
@[simp] theorem mapPort_policy (l : Link) (f : Port → Port) (s : State) : (mapPort l f s).policy = s.policy := by cases l <;> rfl
@[simp] theorem mapPort_policyLock (l : Link) (f : Port → Port) (s : State) : (mapPort l f s).policyLock = s.policyLock := by cases l <;> rfl
@[simp] theorem mapPort_pending (l : Link) (f : Port → Port) (s : State) : (mapPort l f s).pending = s.pending := by cases l <;> rfl

@[simp] theorem port_mapPort_self (l : Link) (f : Port → Port) (s : State) : port l (mapPort l f s) = f (port l s) := by
  cases l <;> rfl

@[simp] theorem port_mapPort_other (l : Link) (f : Port → Port) (s : State) :
    port (otherLink l) (mapPort l f s) = port (otherLink l) s := by
  cases l <;> rfl

/-! ### Notices -/

@[simp] theorem notify_tu (l : Link) (n : Notice) (s : State) : (notify l n s).tu = s.tu := by cases l <;> rfl
@[simp] theorem notify_cm (l : Link) (n : Notice) (s : State) : (notify l n s).cm = s.cm := by cases l <;> rfl
@[simp] theorem notify_au (l : Link) (n : Notice) (s : State) : (notify l n s).au = s.au := by cases l <;> rfl
@[simp] theorem notify_ca (l : Link) (n : Notice) (s : State) : (notify l n s).ca = s.ca := by cases l <;> rfl
@[simp] theorem notify_hs (l : Link) (n : Notice) (s : State) : (notify l n s).hs = s.hs := by cases l <;> rfl
@[simp] theorem notify_cs (l : Link) (n : Notice) (s : State) : (notify l n s).cs = s.cs := by cases l <;> rfl
@[simp] theorem notify_rm (l : Link) (n : Notice) (s : State) : (notify l n s).rm = s.rm := by cases l <;> rfl
@[simp] theorem notify_wu (l : Link) (n : Notice) (s : State) : (notify l n s).wu = s.wu := by cases l <;> rfl
@[simp] theorem notify_fu (l : Link) (n : Notice) (s : State) : (notify l n s).fu = s.fu := by cases l <;> rfl
@[simp] theorem notify_hr (l : Link) (n : Notice) (s : State) : (notify l n s).hr = s.hr := by cases l <;> rfl
@[simp] theorem notify_ei (l : Link) (n : Notice) (s : State) : (notify l n s).ei = s.ei := by cases l <;> rfl
@[simp] theorem notify_policy (l : Link) (n : Notice) (s : State) : (notify l n s).policy = s.policy := by cases l <;> rfl
@[simp] theorem notify_policyLock (l : Link) (n : Notice) (s : State) : (notify l n s).policyLock = s.policyLock := by cases l <;> rfl
@[simp] theorem notify_pending (l : Link) (n : Notice) (s : State) : (notify l n s).pending = s.pending := by cases l <;> rfl

/-! ### Notices on both links -/

@[simp] theorem notifyBoth_tu (n : Notice) (s : State) : (notifyBoth n s).tu = s.tu := rfl
@[simp] theorem notifyBoth_cm (n : Notice) (s : State) : (notifyBoth n s).cm = s.cm := rfl
@[simp] theorem notifyBoth_au (n : Notice) (s : State) : (notifyBoth n s).au = s.au := rfl
@[simp] theorem notifyBoth_ca (n : Notice) (s : State) : (notifyBoth n s).ca = s.ca := rfl
@[simp] theorem notifyBoth_hs (n : Notice) (s : State) : (notifyBoth n s).hs = s.hs := rfl
@[simp] theorem notifyBoth_cs (n : Notice) (s : State) : (notifyBoth n s).cs = s.cs := rfl
@[simp] theorem notifyBoth_rm (n : Notice) (s : State) : (notifyBoth n s).rm = s.rm := rfl
@[simp] theorem notifyBoth_wu (n : Notice) (s : State) : (notifyBoth n s).wu = s.wu := rfl
@[simp] theorem notifyBoth_fu (n : Notice) (s : State) : (notifyBoth n s).fu = s.fu := rfl
@[simp] theorem notifyBoth_hr (n : Notice) (s : State) : (notifyBoth n s).hr = s.hr := rfl
@[simp] theorem notifyBoth_ei (n : Notice) (s : State) : (notifyBoth n s).ei = s.ei := rfl
@[simp] theorem notifyBoth_policy (n : Notice) (s : State) : (notifyBoth n s).policy = s.policy := rfl
@[simp] theorem notifyBoth_policyLock (n : Notice) (s : State) : (notifyBoth n s).policyLock = s.policyLock := rfl
@[simp] theorem notifyBoth_pending (n : Notice) (s : State) : (notifyBoth n s).pending = s.pending := rfl

@[simp] theorem notifyBoth_portV (n : Notice) (s : State) : (notifyBoth n s).portV = setNotice n s.portV := rfl
@[simp] theorem notifyBoth_portB (n : Notice) (s : State) : (notifyBoth n s).portB = setNotice n s.portB := rfl
@[simp] theorem setNotice_slot (n : Notice) (p : Port) : (setNotice n p).slot = p.slot := rfl
@[simp] theorem setNotice_enables (n : Notice) (p : Port) : (setNotice n p).enables = p.enables := rfl
@[simp] theorem setNotice_released (n : Notice) (p : Port) : (setNotice n p).released = p.released := rfl
@[simp] theorem setNotice_transfer (n : Notice) (p : Port) : (setNotice n p).transfer = p.transfer := rfl
@[simp] theorem setNotice_out (n : Notice) (p : Port) : (setNotice n p).out = p.out := rfl

/-! ### Wake requests -/

@[simp] theorem wake_portV (c : WakeCause) (s : State) : (wake c s).portV = s.portV := by unfold wake; split <;> rfl
@[simp] theorem wake_portB (c : WakeCause) (s : State) : (wake c s).portB = s.portB := by unfold wake; split <;> rfl
@[simp] theorem wake_cm (c : WakeCause) (s : State) : (wake c s).cm = s.cm := by unfold wake; split <;> rfl
@[simp] theorem wake_au (c : WakeCause) (s : State) : (wake c s).au = s.au := by unfold wake; split <;> rfl
@[simp] theorem wake_ca (c : WakeCause) (s : State) : (wake c s).ca = s.ca := by unfold wake; split <;> rfl
@[simp] theorem wake_hs (c : WakeCause) (s : State) : (wake c s).hs = s.hs := by unfold wake; split <;> rfl
@[simp] theorem wake_cs (c : WakeCause) (s : State) : (wake c s).cs = s.cs := by unfold wake; split <;> rfl
@[simp] theorem wake_rm (c : WakeCause) (s : State) : (wake c s).rm = s.rm := by unfold wake; split <;> rfl
@[simp] theorem wake_wu (c : WakeCause) (s : State) : (wake c s).wu = s.wu := by unfold wake; split <;> rfl
@[simp] theorem wake_fu (c : WakeCause) (s : State) : (wake c s).fu = s.fu := by unfold wake; split <;> rfl
@[simp] theorem wake_hr (c : WakeCause) (s : State) : (wake c s).hr = s.hr := by unfold wake; split <;> rfl
@[simp] theorem wake_ei (c : WakeCause) (s : State) : (wake c s).ei = s.ei := by unfold wake; split <;> rfl
@[simp] theorem wake_policy (c : WakeCause) (s : State) : (wake c s).policy = s.policy := by unfold wake; split <;> rfl
@[simp] theorem wake_policyLock (c : WakeCause) (s : State) : (wake c s).policyLock = s.policyLock := by unfold wake; split <;> rfl
@[simp] theorem wake_pending (c : WakeCause) (s : State) : (wake c s).pending = s.pending := by unfold wake; split <;> rfl

/-! ### The doze timer -/

@[simp] theorem syncDoze_portV (s : State) : (syncDoze s).portV = s.portV := by unfold syncDoze; split <;> rfl
@[simp] theorem syncDoze_portB (s : State) : (syncDoze s).portB = s.portB := by unfold syncDoze; split <;> rfl
@[simp] theorem syncDoze_cm (s : State) : (syncDoze s).cm = s.cm := by unfold syncDoze; split <;> rfl
@[simp] theorem syncDoze_au (s : State) : (syncDoze s).au = s.au := by unfold syncDoze; split <;> rfl
@[simp] theorem syncDoze_ca (s : State) : (syncDoze s).ca = s.ca := by unfold syncDoze; split <;> rfl
@[simp] theorem syncDoze_hs (s : State) : (syncDoze s).hs = s.hs := by unfold syncDoze; split <;> rfl
@[simp] theorem syncDoze_cs (s : State) : (syncDoze s).cs = s.cs := by unfold syncDoze; split <;> rfl
@[simp] theorem syncDoze_rm (s : State) : (syncDoze s).rm = s.rm := by unfold syncDoze; split <;> rfl
@[simp] theorem syncDoze_wu (s : State) : (syncDoze s).wu = s.wu := by unfold syncDoze; split <;> rfl
@[simp] theorem syncDoze_fu (s : State) : (syncDoze s).fu = s.fu := by unfold syncDoze; split <;> rfl
@[simp] theorem syncDoze_hr (s : State) : (syncDoze s).hr = s.hr := by unfold syncDoze; split <;> rfl
@[simp] theorem syncDoze_ei (s : State) : (syncDoze s).ei = s.ei := by unfold syncDoze; split <;> rfl
@[simp] theorem syncDoze_policy (s : State) : (syncDoze s).policy = s.policy := by unfold syncDoze; split <;> rfl
@[simp] theorem syncDoze_policyLock (s : State) : (syncDoze s).policyLock = s.policyLock := by unfold syncDoze; split <;> rfl
@[simp] theorem syncDoze_pending (s : State) : (syncDoze s).pending = s.pending := by unfold syncDoze; split <;> rfl

@[simp] theorem wake_tu_clock (c : WakeCause) (s : State) : (wake c s).tu.clock = s.tu.clock := by unfold wake; split <;> rfl
@[simp] theorem wake_tu_rtc (c : WakeCause) (s : State) : (wake c s).tu.rtc = s.tu.rtc := by unfold wake; split <;> rfl
@[simp] theorem wake_tu_subSecond (c : WakeCause) (s : State) : (wake c s).tu.subSecond = s.tu.subSecond := by unfold wake; split <;> rfl
@[simp] theorem wake_tu_timeSet (c : WakeCause) (s : State) : (wake c s).tu.timeSet = s.tu.timeSet := by unfold wake; split <;> rfl
@[simp] theorem wake_tu_source (c : WakeCause) (s : State) : (wake c s).tu.source = s.tu.source := by unfold wake; split <;> rfl
@[simp] theorem wake_tu_degraded (c : WakeCause) (s : State) : (wake c s).tu.degraded = s.tu.degraded := by unfold wake; split <;> rfl
@[simp] theorem wake_tu_lastCause (c : WakeCause) (s : State) : (wake c s).tu.lastCause = s.tu.lastCause := by unfold wake; split <;> rfl
@[simp] theorem wake_tu_kporFlag (c : WakeCause) (s : State) : (wake c s).tu.kporFlag = s.tu.kporFlag := by unfold wake; split <;> rfl
@[simp] theorem wake_tu_stableDue (c : WakeCause) (s : State) : (wake c s).tu.stableDue = s.tu.stableDue := by unfold wake; split <;> rfl
@[simp] theorem wake_tu_resetHold (c : WakeCause) (s : State) : (wake c s).tu.resetHold = s.tu.resetHold := by unfold wake; split <;> rfl
@[simp] theorem wake_tu_mode (c : WakeCause) (s : State) : (wake c s).tu.mode = s.tu.mode := by unfold wake; split <;> rfl

@[simp] theorem syncDoze_tu_clock (s : State) : (syncDoze s).tu.clock = s.tu.clock := by unfold syncDoze; split <;> rfl
@[simp] theorem syncDoze_tu_rtc (s : State) : (syncDoze s).tu.rtc = s.tu.rtc := by unfold syncDoze; split <;> rfl
@[simp] theorem syncDoze_tu_subSecond (s : State) : (syncDoze s).tu.subSecond = s.tu.subSecond := by unfold syncDoze; split <;> rfl
@[simp] theorem syncDoze_tu_timeSet (s : State) : (syncDoze s).tu.timeSet = s.tu.timeSet := by unfold syncDoze; split <;> rfl
@[simp] theorem syncDoze_tu_source (s : State) : (syncDoze s).tu.source = s.tu.source := by unfold syncDoze; split <;> rfl
@[simp] theorem syncDoze_tu_degraded (s : State) : (syncDoze s).tu.degraded = s.tu.degraded := by unfold syncDoze; split <;> rfl
@[simp] theorem syncDoze_tu_lastCause (s : State) : (syncDoze s).tu.lastCause = s.tu.lastCause := by unfold syncDoze; split <;> rfl
@[simp] theorem syncDoze_tu_kporFlag (s : State) : (syncDoze s).tu.kporFlag = s.tu.kporFlag := by unfold syncDoze; split <;> rfl
@[simp] theorem syncDoze_tu_stableDue (s : State) : (syncDoze s).tu.stableDue = s.tu.stableDue := by unfold syncDoze; split <;> rfl
@[simp] theorem syncDoze_tu_resetHold (s : State) : (syncDoze s).tu.resetHold = s.tu.resetHold := by unfold syncDoze; split <;> rfl
@[simp] theorem syncDoze_tu_mode (s : State) : (syncDoze s).tu.mode = s.tu.mode := by unfold syncDoze; split <;> rfl
@[simp] theorem syncDoze_tu_exitDue (s : State) : (syncDoze s).tu.exitDue = s.tu.exitDue := by unfold syncDoze; split <;> rfl
@[simp] theorem syncDoze_tu_postExit (s : State) : (syncDoze s).tu.postExit = s.tu.postExit := by unfold syncDoze; split <;> rfl
@[simp] theorem syncDoze_tu_lastWake (s : State) : (syncDoze s).tu.lastWake = s.tu.lastWake := by unfold syncDoze; split <;> rfl

/-! ### Targets -/

@[simp] theorem setTarget_tu (n : Fin 12) (k : Nat) (s : State) : (setTarget n k s).tu = s.tu := rfl
@[simp] theorem setTarget_portV (n : Fin 12) (k : Nat) (s : State) : (setTarget n k s).portV = s.portV := rfl
@[simp] theorem setTarget_portB (n : Fin 12) (k : Nat) (s : State) : (setTarget n k s).portB = s.portB := rfl
@[simp] theorem setTarget_cm (n : Fin 12) (k : Nat) (s : State) : (setTarget n k s).cm = s.cm := rfl
@[simp] theorem setTarget_au (n : Fin 12) (k : Nat) (s : State) : (setTarget n k s).au = s.au := rfl
@[simp] theorem setTarget_hs (n : Fin 12) (k : Nat) (s : State) : (setTarget n k s).hs = s.hs := rfl
@[simp] theorem setTarget_cs (n : Fin 12) (k : Nat) (s : State) : (setTarget n k s).cs = s.cs := rfl
@[simp] theorem setTarget_rm (n : Fin 12) (k : Nat) (s : State) : (setTarget n k s).rm = s.rm := rfl
@[simp] theorem setTarget_wu (n : Fin 12) (k : Nat) (s : State) : (setTarget n k s).wu = s.wu := rfl
@[simp] theorem setTarget_fu (n : Fin 12) (k : Nat) (s : State) : (setTarget n k s).fu = s.fu := rfl
@[simp] theorem setTarget_hr (n : Fin 12) (k : Nat) (s : State) : (setTarget n k s).hr = s.hr := rfl
@[simp] theorem setTarget_ei (n : Fin 12) (k : Nat) (s : State) : (setTarget n k s).ei = s.ei := rfl
@[simp] theorem setTarget_policy (n : Fin 12) (k : Nat) (s : State) : (setTarget n k s).policy = s.policy := rfl
@[simp] theorem setTarget_policyLock (n : Fin 12) (k : Nat) (s : State) : (setTarget n k s).policyLock = s.policyLock := rfl
@[simp] theorem setTarget_pending (n : Fin 12) (k : Nat) (s : State) : (setTarget n k s).pending = s.pending := rfl

/-! ### Heater targets -/

@[simp] theorem heaterTargets_tu (g : Bool) (f p : Nat) (s : State) : (heaterTargets g f p s).tu = s.tu := rfl
@[simp] theorem heaterTargets_portV (g : Bool) (f p : Nat) (s : State) : (heaterTargets g f p s).portV = s.portV := rfl
@[simp] theorem heaterTargets_portB (g : Bool) (f p : Nat) (s : State) : (heaterTargets g f p s).portB = s.portB := rfl
@[simp] theorem heaterTargets_cm (g : Bool) (f p : Nat) (s : State) : (heaterTargets g f p s).cm = s.cm := rfl
@[simp] theorem heaterTargets_au (g : Bool) (f p : Nat) (s : State) : (heaterTargets g f p s).au = s.au := rfl
@[simp] theorem heaterTargets_hs (g : Bool) (f p : Nat) (s : State) : (heaterTargets g f p s).hs = s.hs := rfl
@[simp] theorem heaterTargets_cs (g : Bool) (f p : Nat) (s : State) : (heaterTargets g f p s).cs = s.cs := rfl
@[simp] theorem heaterTargets_rm (g : Bool) (f p : Nat) (s : State) : (heaterTargets g f p s).rm = s.rm := rfl
@[simp] theorem heaterTargets_wu (g : Bool) (f p : Nat) (s : State) : (heaterTargets g f p s).wu = s.wu := rfl
@[simp] theorem heaterTargets_fu (g : Bool) (f p : Nat) (s : State) : (heaterTargets g f p s).fu = s.fu := rfl
@[simp] theorem heaterTargets_hr (g : Bool) (f p : Nat) (s : State) : (heaterTargets g f p s).hr = s.hr := rfl
@[simp] theorem heaterTargets_ei (g : Bool) (f p : Nat) (s : State) : (heaterTargets g f p s).ei = s.ei := rfl
@[simp] theorem heaterTargets_policy (g : Bool) (f p : Nat) (s : State) : (heaterTargets g f p s).policy = s.policy := rfl
@[simp] theorem heaterTargets_policyLock (g : Bool) (f p : Nat) (s : State) : (heaterTargets g f p s).policyLock = s.policyLock := rfl
@[simp] theorem heaterTargets_pending (g : Bool) (f p : Nat) (s : State) : (heaterTargets g f p s).pending = s.pending := rfl

/-! ### Bunk rests -/

@[simp] theorem setRest_tu (b : Bunk) (r : Option BunkRest) (s : State) : (setRest b r s).tu = s.tu := rfl
@[simp] theorem setRest_portV (b : Bunk) (r : Option BunkRest) (s : State) : (setRest b r s).portV = s.portV := rfl
@[simp] theorem setRest_portB (b : Bunk) (r : Option BunkRest) (s : State) : (setRest b r s).portB = s.portB := rfl
@[simp] theorem setRest_cm (b : Bunk) (r : Option BunkRest) (s : State) : (setRest b r s).cm = s.cm := rfl
@[simp] theorem setRest_au (b : Bunk) (r : Option BunkRest) (s : State) : (setRest b r s).au = s.au := rfl
@[simp] theorem setRest_ca (b : Bunk) (r : Option BunkRest) (s : State) : (setRest b r s).ca = s.ca := rfl
@[simp] theorem setRest_hs (b : Bunk) (r : Option BunkRest) (s : State) : (setRest b r s).hs = s.hs := rfl
@[simp] theorem setRest_cs (b : Bunk) (r : Option BunkRest) (s : State) : (setRest b r s).cs = s.cs := rfl
@[simp] theorem setRest_wu (b : Bunk) (r : Option BunkRest) (s : State) : (setRest b r s).wu = s.wu := rfl
@[simp] theorem setRest_fu (b : Bunk) (r : Option BunkRest) (s : State) : (setRest b r s).fu = s.fu := rfl
@[simp] theorem setRest_hr (b : Bunk) (r : Option BunkRest) (s : State) : (setRest b r s).hr = s.hr := rfl
@[simp] theorem setRest_ei (b : Bunk) (r : Option BunkRest) (s : State) : (setRest b r s).ei = s.ei := rfl
@[simp] theorem setRest_policy (b : Bunk) (r : Option BunkRest) (s : State) : (setRest b r s).policy = s.policy := rfl
@[simp] theorem setRest_policyLock (b : Bunk) (r : Option BunkRest) (s : State) : (setRest b r s).policyLock = s.policyLock := rfl
@[simp] theorem setRest_pending (b : Bunk) (r : Option BunkRest) (s : State) : (setRest b r s).pending = s.pending := rfl

@[simp] theorem PerBunk.get_set_self {α : Type} (p : PerBunk α) (b : Bunk) (x : α) : (p.set b x).get b = x := by
  cases b <;> rfl

@[simp] theorem PerBunk.get_set_other {α : Type} (p : PerBunk α) (b : Bunk) (x : α) :
    (p.set b x).get (otherBunk b) = p.get (otherBunk b) := by
  cases b <;> rfl

end Sys2Proof.Machine
end

