-- ==== Sys2Proof/Laws/Grants.lean ====
section
/-! SUPPORT. What the work on channels, the heater and the grant table leaves alone: one lemma for each operation, all
of the one form `besideGrants (op s) = besideGrants s`. -/

namespace Sys2Proof.Machine

/-! ### Reading a field through the frame -/

theorem besideGrants_field {α : Type} (f : State → α) {s t : State} (h : besideGrants t = besideGrants s)
    (hf : ∀ x, f (besideGrants x) = f x) : f t = f s := by
  rw [← hf t, h, hf s]

theorem besideGrants_tu {s t : State} (h : besideGrants t = besideGrants s) : t.tu = s.tu := besideGrants_field State.tu h fun _ => rfl
theorem besideGrants_cm {s t : State} (h : besideGrants t = besideGrants s) : t.cm = s.cm := besideGrants_field State.cm h fun _ => rfl
theorem besideGrants_rm {s t : State} (h : besideGrants t = besideGrants s) : t.rm = s.rm := besideGrants_field State.rm h fun _ => rfl
theorem besideGrants_fu {s t : State} (h : besideGrants t = besideGrants s) : t.fu = s.fu := besideGrants_field State.fu h fun _ => rfl
theorem besideGrants_hr {s t : State} (h : besideGrants t = besideGrants s) : t.hr = s.hr := besideGrants_field State.hr h fun _ => rfl
theorem besideGrants_ei {s t : State} (h : besideGrants t = besideGrants s) : t.ei = s.ei := besideGrants_field State.ei h fun _ => rfl
theorem besideGrants_policy {s t : State} (h : besideGrants t = besideGrants s) : t.policy = s.policy :=
  besideGrants_field State.policy h fun _ => rfl

/-- A fold of operations that keep a view keeps it. -/
theorem foldl_keeps {α β γ : Type} (view : α → γ) (f : α → β → α) (hf : ∀ a b, view (f a b) = view a) :
    ∀ (xs : List β) (a : α), view (xs.foldl f a) = view a
  | [], _ => rfl
  | x :: xs, a => by rw [List.foldl_cons, foldl_keeps view f hf xs, hf]

/-! ### Updates of the erased parts -/

@[simp] theorem besideGrants_withAu (s : State) (x : AdmissionUnit) : besideGrants { s with au := x } = besideGrants s := rfl
@[simp] theorem besideGrants_withHs (s : State) (x : Heater) : besideGrants { s with hs := x } = besideGrants s := rfl
@[simp] theorem besideGrants_withCa (s : State) (x : ChannelArray) : besideGrants { s with ca := x } = besideGrants s := rfl
@[simp] theorem besideGrants_withCs (s : State) (x : ColdStore) : besideGrants { s with cs := x } = besideGrants s := rfl
@[simp] theorem besideGrants_withWu (s : State) (x : WarningUnit) : besideGrants { s with wu := x } = besideGrants s := rfl

@[simp] theorem mapPort_besideGrants (l : Link) (f : Port → Port) (s : State) :
    besideGrants (mapPort l f s) = besideGrants s := by cases l <;> rfl
@[simp] theorem notify_besideGrants (l : Link) (n : Notice) (s : State) : besideGrants (notify l n s) = besideGrants s := by
  simp [notify]
@[simp] theorem notifyBoth_besideGrants (n : Notice) (s : State) : besideGrants (notifyBoth n s) = besideGrants s := by
  simp [notifyBoth]

/-! ### Channels and the table -/

@[simp] theorem setChan_besideGrants (n : Fin 12) (c : Channel) (s : State) :
    besideGrants (setChan n c s) = besideGrants s := rfl
@[simp] theorem setTarget_besideGrants (n : Fin 12) (k : Nat) (s : State) :
    besideGrants (setTarget n k s) = besideGrants s := rfl
@[simp] theorem heaterTargets_besideGrants (g : Bool) (f p : Nat) (s : State) :
    besideGrants (heaterTargets g f p s) = besideGrants s := rfl
@[simp] theorem testChannels_besideGrants (n : Fin 12) (s : State) : besideGrants (testChannels n s) = besideGrants s := rfl
@[simp] theorem endTest_besideGrants (s : State) : besideGrants (endTest s) = besideGrants s := rfl
@[simp] theorem startAllFromTargets_besideGrants (s : State) :
    besideGrants (startAllFromTargets s) = besideGrants s := rfl
@[simp] theorem updateGrant_besideGrants (l : Load) (p : Purpose) (f : Grant → Grant) (s : State) :
    besideGrants (updateGrant l p f s) = besideGrants s := rfl
@[simp] theorem unlist_besideGrants (n : Nat) (s : State) : besideGrants (unlist n s) = besideGrants s := rfl
@[simp] theorem dropGrant_besideGrants (l : Load) (p : Purpose) (s : State) :
    besideGrants (dropGrant l p s) = besideGrants s := by
  unfold dropGrant; split <;> rfl
@[simp] theorem shedGrant_besideGrants (t : RtcTime) (g : Grant) (s : State) :
    besideGrants (shedGrant t g s) = besideGrants s := rfl
@[simp] theorem restoreGrant_besideGrants (g : Grant) (s : State) : besideGrants (restoreGrant g s) = besideGrants s := by
  unfold restoreGrant; dsimp only; split <;> rfl
@[simp] theorem internalRequest_besideGrants (l : Load) (p : Purpose) (o : Origin) (e : Option RtcTime) (s : State) :
    besideGrants (internalRequest l p o e s) = besideGrants s := by
  unfold internalRequest; split <;> rfl
@[simp] theorem placeGrant_besideGrants (g : Grant) (s : State) : besideGrants (placeGrant g s) = besideGrants s := rfl

/-! ### The heater -/

@[simp] theorem toPhase_besideGrants (p : HeaterPhase) (s : State) : besideGrants (toPhase p s) = besideGrants s := by
  simp [toPhase]
@[simp] theorem enterHeaterOff_besideGrants (s : State) : besideGrants (enterHeaterOff s) = besideGrants s := by
  simp [enterHeaterOff]
@[simp] theorem enterPreheat_besideGrants (s : State) : besideGrants (enterPreheat s) = besideGrants s := by
  simp [enterPreheat]
@[simp] theorem enterIgnite_besideGrants (s : State) : besideGrants (enterIgnite s) = besideGrants s := by
  simp [enterIgnite]
@[simp] theorem setStage_besideGrants (k : Nat) (s : State) : besideGrants (setStage k s) = besideGrants s := by
  simp [setStage]
@[simp] theorem chooseStage_besideGrants (s : State) : besideGrants (chooseStage s) = besideGrants s := by
  simp [chooseStage]
@[simp] theorem lowerStage_besideGrants (s : State) : besideGrants (lowerStage s) = besideGrants s := by
  unfold lowerStage; split
  · split <;> simp
  · rfl
@[simp] theorem enterRun_besideGrants (s : State) : besideGrants (enterRun s) = besideGrants s := by
  simp [enterRun]
@[simp] theorem enterPurge_besideGrants (f : FollowOn) (b : Bool) (c : Option LockCause) (s : State) :
    besideGrants (enterPurge f b c s) = besideGrants s := by
  simp [enterPurge]
@[simp] theorem enterLockout_besideGrants (c : LockCause) (s : State) :
    besideGrants (enterLockout c s) = besideGrants s := by
  simp [enterLockout]
@[simp] theorem setPending_besideGrants (c : LockCause) (s : State) : besideGrants (setPending c s) = besideGrants s := by
  unfold setPending; split <;> rfl
@[simp] theorem setFollowOn_besideGrants (f : FollowOn) (s : State) : besideGrants (setFollowOn f s) = besideGrants s := by
  unfold setFollowOn; split <;> rfl
@[simp] theorem enterStandby_besideGrants (s : State) : besideGrants (enterStandby s) = besideGrants s := by
  unfold enterStandby; dsimp only; split <;> simp
@[simp] theorem standbyRestart_besideGrants (s : State) : besideGrants (standbyRestart s) = besideGrants s := by
  unfold standbyRestart; split
  · split <;> simp
  · rfl
@[simp] theorem heatAppears_besideGrants (s : State) : besideGrants (heatAppears s) = besideGrants s := by
  unfold heatAppears; split <;> first | rfl | (split <;> simp) | simp
@[simp] theorem heatVanishes_besideGrants (s : State) : besideGrants (heatVanishes s) = besideGrants s := by
  unfold heatVanishes; split <;> first | rfl | (simp; done) | (simp; split <;> rfl)
@[simp] theorem heatChanges_besideGrants (old : MergedHeat) (s : State) :
    besideGrants (heatChanges old s) = besideGrants s := by
  unfold heatChanges; split <;> (try split) <;> simp
@[simp] theorem handHeat_besideGrants (s : State) : besideGrants (handHeat s) = besideGrants s := by
  unfold handHeat; dsimp only; split
  · rfl
  · split <;> simp
@[simp] theorem mergeHeater_besideGrants (s : State) : besideGrants (mergeHeater s) = besideGrants s := by
  simp [mergeHeater]
@[simp] theorem completePurge_besideGrants (s : State) : besideGrants (completePurge s) = besideGrants s := by
  unfold completePurge; dsimp only; split
  · simp
  · split <;> simp
  · simp
@[simp] theorem heaterChannelLocked_besideGrants (c : LockCause) (s : State) :
    besideGrants (heaterChannelLocked c s) = besideGrants s := by
  unfold heaterChannelLocked; split <;> simp
@[simp] theorem fanLocked_besideGrants (s : State) : besideGrants (fanLocked s) = besideGrants s := by
  unfold fanLocked; split <;> simp
@[simp] theorem heaterLocked_besideGrants (n : Fin 12) (s : State) : besideGrants (heaterLocked n s) = besideGrants s := by
  unfold heaterLocked; split <;> simp
@[simp] theorem fanUnlocked_besideGrants (s : State) : besideGrants (fanUnlocked s) = besideGrants s := by
  unfold fanUnlocked; split
  · split <;> simp
  · rfl
@[simp] theorem flameFailed_besideGrants (s : State) : besideGrants (flameFailed s) = besideGrants s := by
  unfold flameFailed; split <;> simp
@[simp] theorem lengthenPurge_besideGrants (s : State) : besideGrants (lengthenPurge s) = besideGrants s := by
  unfold lengthenPurge; split
  · rfl
  · split
    · rfl
    · dsimp only; split <;> simp
@[simp] theorem heaterOverheats_besideGrants (s : State) : besideGrants (heaterOverheats s) = besideGrants s := by
  unfold heaterOverheats; split <;> simp
@[simp] theorem heaterHoldEntry_besideGrants (h : Bool) (s : State) :
    besideGrants (heaterHoldEntry h s) = besideGrants s := by
  unfold heaterHoldEntry; split <;> first | rfl | (split <;> simp)
@[simp] theorem clearLockoutPhase_besideGrants (s : State) : besideGrants (clearLockoutPhase s) = besideGrants s := by
  unfold clearLockoutPhase; dsimp only; split <;> (repeat' split) <;>
    first | (simp; done) | (simp only [setPending_besideGrants, setFollowOn_besideGrants]; rfl)

/-! ### The merge -/

@[simp] theorem formRamp_besideGrants (b : Bunk) (s : State) : besideGrants (formRamp b s) = besideGrants s := by
  unfold formRamp; (repeat' split) <;> rfl
@[simp] theorem syncFlash_besideGrants (b : Bunk) (s : State) : besideGrants (syncFlash b s) = besideGrants s := rfl
@[simp] theorem cutPending_besideGrants (s : State) : besideGrants (cutPending s) = besideGrants s := by
  unfold cutPending; split <;> rfl
@[simp] theorem mergeLoad_besideGrants (l : Load) (s : State) : besideGrants (mergeLoad l s) = besideGrants s := by
  cases l <;> simp [mergeLoad, zoneBunk, mergeChannel]
@[simp] theorem mergeLoads_besideGrants (ls : List Load) (s : State) : besideGrants (mergeLoads ls s) = besideGrants s :=
  foldl_keeps besideGrants _ (fun s l => mergeLoad_besideGrants l s) ls s
@[simp] theorem mergeAll_besideGrants (s : State) : besideGrants (mergeAll s) = besideGrants s := by
  simp [mergeAll]
@[simp] theorem fridgeLocked_besideGrants (s : State) : besideGrants (fridgeLocked s) = besideGrants s := by
  unfold fridgeLocked; split <;> simp

/-! ### Admission -/

@[simp] theorem accept_besideGrants (g : Grant) (st : Status) (s : State) :
    besideGrants (accept g st s).state = besideGrants s := by
  simp [accept]
@[simp] theorem judgeAsk_besideGrants (r : GrantAsk) (s : State) : besideGrants (judgeAsk r s).state = besideGrants s := by
  unfold judgeAsk; dsimp only; (repeat' split) <;> simp
@[simp] theorem withdraw_besideGrants (l : Load) (p : Purpose) (s : State) :
    besideGrants (withdraw l p s) = besideGrants s := by
  unfold withdraw; split <;> simp
@[simp] theorem grantAsk_besideGrants (r : GrantAsk) (s : State) : besideGrants (grantAsk r s).state = besideGrants s := by
  unfold grantAsk; dsimp only; (repeat' split) <;> simp
@[simp] theorem raiseGrant_besideGrants (g : Grant) (s : State) : besideGrants (raiseGrant s g) = besideGrants s := by
  unfold raiseGrant; (repeat' split) <;> simp
@[simp] theorem recordLimits_besideGrants (s : State) : besideGrants (recordLimits s) = besideGrants s := rfl
@[simp] theorem applyCaps_besideGrants (s : State) : besideGrants (applyCaps s) = besideGrants s := by
  unfold applyCaps
  simp only [mergeLoads_besideGrants, recordLimits_besideGrants]
  rw [foldl_keeps besideGrants raiseGrant (fun s g => raiseGrant_besideGrants g s)]; rfl
@[simp] theorem readmit_besideGrants (h : Nat) (f : Int) (a : State × Nat × Bool) (g : Grant) :
    besideGrants (readmit h f a g).1 = besideGrants a.1 := by
  obtain ⟨s, p, b⟩ := a
  unfold readmit; dsimp only; (repeat' split) <;> simp
@[simp] theorem revalidate_besideGrants (s : State) : besideGrants (revalidate s) = besideGrants s := by
  have h := foldl_keeps (fun a : State × Nat × Bool => besideGrants a.1) _
    (readmit_besideGrants (horizon { s with au.pointer := 0 }) (freeCharge { s with au.pointer := 0 }))
  unfold revalidate; dsimp only
  split <;> simp [h]
@[simp] theorem suspendLoad_besideGrants (l : Load) (s : State) : besideGrants (suspendLoad l s) = besideGrants s := by
  simp [suspendLoad]
@[simp] theorem readmitSuspended_besideGrants (a : State × Bool) (g : Grant) :
    besideGrants (readmitSuspended a g).1 = besideGrants a.1 := by
  obtain ⟨s, b⟩ := a
  unfold readmitSuspended; dsimp only; (repeat' split) <;> simp
@[simp] theorem releaseRestartable_besideGrants (l : Load) (s : State) :
    besideGrants (releaseRestartable l s) = besideGrants s := by
  have h := foldl_keeps (fun a : State × Bool => besideGrants a.1) _ readmitSuspended_besideGrants
  unfold releaseRestartable; dsimp only
  split <;> simp [h]

/-! ### Shedding and the review's table work -/

@[simp] theorem shedVictim_besideGrants (t : RtcTime) (g : Grant) (s : State) :
    besideGrants (shedVictim t g s) = besideGrants s := rfl
@[simp] theorem shedWhile_besideGrants (c : State → Bool) (p : Grant → Bool) (t : RtcTime) :
    ∀ (k : Nat) (a : State × Nat), besideGrants (shedWhile c p t k a).1 = besideGrants a.1
  | 0, _ => rfl
  | k + 1, (s, n) => by
    unfold shedWhile
    split
    · split
      · rw [shedWhile_besideGrants c p t k]; rfl
      · rfl
    · rfl
@[simp] theorem holdShed_besideGrants (t : RtcTime) (s : State) : besideGrants (holdShed t s) = besideGrants s := by
  unfold holdShed; dsimp only; split <;> simp
@[simp] theorem restoreAll_besideGrants (s : State) : besideGrants (restoreAll s).1 = besideGrants s :=
  foldl_keeps (fun a : State × Nat => besideGrants a.1) _ (fun a g => by split <;> simp) _ (s, 0)
/-- A restore outside surplus brings back the first restorable grant, with projected demand within free charge, or nothing
(R40, R42). -/
theorem restoreOne_cases (h : Nat) (f : Int) (s : State) :
    restoreOne h f s = (s, 0) ∨
    ∃ g, firstRestorable s = some g ∧ restoreOne h f s = (restoreGrant g s, 1) ∧
      ((s.policy.p11 + restoredProjection s h g : Nat) : Int) ≤ f - (demandOf s h s.au.table : Int) ∧
      (demandOf (restoreGrant g s) h (restoreGrant g s).au.table : Int) ≤ f := by
  unfold restoreOne
  cases e : firstRestorable s with
  | none => exact .inl rfl
  | some g =>
    dsimp only
    split
    · next c => exact .inr ⟨g, rfl, rfl, c⟩
    · exact .inl rfl
@[simp] theorem restoreOne_besideGrants (h : Nat) (f : Int) (s : State) :
    besideGrants (restoreOne h f s).1 = besideGrants s := by
  obtain e | ⟨g, -, e, -⟩ := restoreOne_cases h f s <;> simp [e]
@[simp] theorem reviewTable_besideGrants (h : Nat) (f : Int) (s : State) :
    besideGrants (reviewTable h f s).1 = besideGrants s := by
  unfold reviewTable; dsimp only; (repeat' split) <;> simp
@[simp] theorem settleBreach_besideGrants (h : Nat) (f : Int) (s : State) :
    besideGrants (settleBreach h f s) = besideGrants s := rfl
@[simp] theorem reviewAdmission_besideGrants (m : Int) (s : State) :
    besideGrants (reviewAdmission m s) = besideGrants s := by
  unfold reviewAdmission; dsimp only; (repeat' split) <;> simp

end Sys2Proof.Machine
end

