-- ==== Sys2Proof/Laws/Faults.lean ====
section
/-! SUPPORT. What a fault and a warning leave alone: one lemma for each operation, all of the one form
`besideFaults (op s) = besideFaults s`. -/

namespace Sys2Proof.Machine

/-- What the grant table's work leaves alone, a fault's view does not see. -/
theorem besideFaults_of_grants {s t : State} (h : besideGrants t = besideGrants s) : besideFaults t = besideFaults s := by
  have e : ∀ x, besideFaults (besideGrants x) = besideFaults x := fun _ => rfl
  rw [← e t, h, e s]

theorem besideFaults_field {α : Type} (f : State → α) {s t : State} (h : besideFaults t = besideFaults s)
    (hf : ∀ x, f (besideFaults x) = f x) : f t = f s := by
  rw [← hf t, h, hf s]

theorem besideFaults_cm {s t : State} (h : besideFaults t = besideFaults s) : t.cm = s.cm :=
  besideFaults_field State.cm h fun _ => rfl
theorem besideFaults_rm {s t : State} (h : besideFaults t = besideFaults s) : t.rm = s.rm :=
  besideFaults_field State.rm h fun _ => rfl
theorem besideFaults_policy {s t : State} (h : besideFaults t = besideFaults s) : t.policy = s.policy :=
  besideFaults_field State.policy h fun _ => rfl

/-! ### Updates and the work of other blocks -/

@[simp] theorem besideFaults_withFu (s : State) (x : FaultUnit) : besideFaults { s with fu := x } = besideFaults s := rfl
@[simp] theorem besideFaults_withWu (s : State) (x : WarningUnit) : besideFaults { s with wu := x } = besideFaults s := rfl
@[simp] theorem besideFaults_withCs (s : State) (x : ColdStore) : besideFaults { s with cs := x } = besideFaults s := rfl
@[simp] theorem besideFaults_withHs (s : State) (x : Heater) : besideFaults { s with hs := x } = besideFaults s := rfl

@[simp] theorem wake_besideFaults (c : WakeCause) (s : State) : besideFaults (wake c s) = besideFaults s := by
  unfold wake; split <;> rfl
@[simp] theorem notify_besideFaults (l : Link) (n : Notice) (s : State) : besideFaults (notify l n s) = besideFaults s :=
  besideFaults_of_grants (by simp)
@[simp] theorem notifyBoth_besideFaults (n : Notice) (s : State) : besideFaults (notifyBoth n s) = besideFaults s :=
  besideFaults_of_grants (by simp)
@[simp] theorem setTarget_besideFaults (n : Fin 12) (k : Nat) (s : State) :
    besideFaults (setTarget n k s) = besideFaults s := besideFaults_of_grants (by simp)
@[simp] theorem setChan_besideFaults (n : Fin 12) (c : Channel) (s : State) :
    besideFaults (setChan n c s) = besideFaults s := besideFaults_of_grants (by simp)
@[simp] theorem mergeHeater_besideFaults (s : State) : besideFaults (mergeHeater s) = besideFaults s :=
  besideFaults_of_grants (by simp)
@[simp] theorem mergeLoad_besideFaults (l : Load) (s : State) : besideFaults (mergeLoad l s) = besideFaults s :=
  besideFaults_of_grants (by simp)
@[simp] theorem holdShed_besideFaults (t : RtcTime) (s : State) : besideFaults (holdShed t s) = besideFaults s :=
  besideFaults_of_grants (by simp)
@[simp] theorem heaterHoldEntry_besideFaults (h : Bool) (s : State) :
    besideFaults (heaterHoldEntry h s) = besideFaults s := besideFaults_of_grants (by simp)
@[simp] theorem suspendLoad_besideFaults (l : Load) (s : State) : besideFaults (suspendLoad l s) = besideFaults s :=
  besideFaults_of_grants (by simp)
@[simp] theorem internalRequest_besideFaults (l : Load) (p : Purpose) (o : Origin) (e : Option RtcTime) (s : State) :
    besideFaults (internalRequest l p o e s) = besideFaults s := besideFaults_of_grants (by simp)
@[simp] theorem withdraw_besideFaults (l : Load) (p : Purpose) (s : State) :
    besideFaults (withdraw l p s) = besideFaults s := besideFaults_of_grants (by simp)
@[simp] theorem heaterLocked_besideFaults (n : Fin 12) (s : State) : besideFaults (heaterLocked n s) = besideFaults s :=
  besideFaults_of_grants (by simp)
@[simp] theorem fridgeLocked_besideFaults (s : State) : besideFaults (fridgeLocked s) = besideFaults s :=
  besideFaults_of_grants (by simp)

/-! ### The Fault Unit -/

@[simp] theorem suspend_besideFaults (l : Load) (r : FaultReport) (t : Bool) (s : State) :
    besideFaults (suspend l r t s) = besideFaults s := by
  unfold suspend; split <;> simp
@[simp] theorem suspendFor_besideFaults (r : FaultReport) (t : Bool) (s : State) :
    besideFaults (suspendFor r t s) = besideFaults s := by
  unfold suspendFor; split <;> simp
@[simp] theorem recordCause_besideFaults (c : HoldCause) (s : State) :
    besideFaults (recordCause c s) = besideFaults s := by
  cases c <;> rfl
@[simp] theorem enterHold_besideFaults (h : Bool) (s : State) : besideFaults (enterHold h s) = besideFaults s := by
  simp [enterHold]
@[simp] theorem addCause_besideFaults (c : HoldCause) (h : Bool) (s : State) :
    besideFaults (addCause c h s) = besideFaults s := by
  unfold addCause; split
  · rfl
  · split <;> simp
@[simp] theorem chargePathHold_besideFaults (r : FaultReport) (s : State) :
    besideFaults (chargePathHold r s) = besideFaults s := by
  unfold chargePathHold; split <;> simp
@[simp] theorem capture_besideFaults (r : FaultReport) (s : State) : besideFaults (capture r s) = besideFaults s := by
  simp [capture]
@[simp] theorem takeUncaptured_besideFaults (r : FaultReport) (s : State) :
    besideFaults (takeUncaptured r s) = besideFaults s := by
  simp [takeUncaptured]
@[simp] theorem doubleFault_besideFaults (r : FaultReport) (s : State) :
    besideFaults (doubleFault r s) = besideFaults s := by
  simp [doubleFault]
@[simp] theorem takeFault_besideFaults (r : FaultReport) (s : State) : besideFaults (takeFault r s) = besideFaults s := by
  unfold takeFault; split
  · simp
  · split <;> simp
@[simp] theorem tripOn_besideFaults (n : Fin 12) (c : FaultCode) (k : Nat) (s : State) :
    besideFaults (tripOn n c k s) = besideFaults s := by
  unfold tripOn; dsimp only; split
  · simp
  · split <;> simp
@[simp] theorem overheat_besideFaults (s : State) : besideFaults (overheat s) = besideFaults s := by
  unfold overheat; rw [takeFault_besideFaults]; exact besideFaults_of_grants (by simp)

/-! ### The Warning Unit -/

@[simp] theorem notifyWarning_besideFaults (t : WarnTarget) (s : State) :
    besideFaults (notifyWarning t s) = besideFaults s := by
  unfold notifyWarning; dsimp only; (repeat' split) <;> simp
@[simp] theorem setGivenUp_besideFaults (b : Bunk) (x : Bool) (s : State) :
    besideFaults (setGivenUp b x s) = besideFaults s := rfl
@[simp] theorem reconsiderFlash_besideFaults (b : Bunk) (s : State) :
    besideFaults (reconsiderFlash b s) = besideFaults s := by
  unfold reconsiderFlash; (repeat' split) <;> simp
@[simp] theorem reconsiderTarget_besideFaults (t : WarnTarget) (s : State) :
    besideFaults (reconsiderTarget t s) = besideFaults s := by
  unfold reconsiderTarget; split <;> simp
@[simp] theorem cutChime_besideFaults (k : WarnKind) (t : WarnTarget) (s : State) :
    besideFaults (cutChime k t s) = besideFaults s := by
  unfold cutChime; (repeat' split) <;> rfl
@[simp] theorem updateWarning_besideFaults (k : WarnKind) (t : WarnTarget) (f : Warning → Warning) (s : State) :
    besideFaults (updateWarning k t f s) = besideFaults s := rfl
@[simp] theorem raiseWarning_besideFaults (k : WarnKind) (t : WarnTarget) (l : WarnLevel) (s : State) :
    besideFaults (raiseWarning k t l s) = besideFaults s := by
  unfold raiseWarning; split <;> simp
@[simp] theorem removeWarning_besideFaults (k : WarnKind) (t : WarnTarget) (s : State) :
    besideFaults (removeWarning k t s) = besideFaults s := by
  unfold removeWarning; split <;> simp
@[simp] theorem escalateWarning_besideFaults (k : WarnKind) (t : WarnTarget) (s : State) :
    besideFaults (escalateWarning k t s) = besideFaults s := by
  simp [escalateWarning]
@[simp] theorem markAcked_besideFaults (k : WarnKind) (t : WarnTarget) (s : State) :
    besideFaults (markAcked k t s) = besideFaults s := by
  simp [markAcked]
@[simp] theorem handReview_besideFaults (s : State) : besideFaults (handReview s) = besideFaults s := by
  unfold handReview; dsimp only; split <;> simp

end Sys2Proof.Machine
end

