-- ==== Sys2Proof/Laws/Ops.lean ====
section
/-! SUPPORT. What the shared operations can do, each said once: the request ports, the sensors, the detectors and the
searches. -/

namespace Sys2Proof.Machine

/-! ### The doze timer and the ports -/

/-- The doze timer does not run while a link holds its released flag clear (R176). -/
theorem syncDoze_of_unreleased {s : State} (l : Link) (h : (port l s).released = false) :
    syncDoze s = { s with tu.dozeDue := none } := by
  have : dozeReady s = false := by
    cases l <;> simp only [port] at h <;> simp [dozeReady, h]
  simp [syncDoze, this]

/-- An answer to a request whose transfer has cleared the released flag. -/
theorem answer_eq (l : Link) (kind : Byte) (r : Reply) (h : (port l r.state).released = false) :
    answer l kind r = answered l kind r.status r.payload r.state := by
  rw [answer, endTransfer, syncDoze_of_unreleased l (by cases l <;> simpa [mapPort, placeResponse, port] using h)]
  cases l <;> simp only [port] at h <;> simp [answered, mapPort, placeResponse, ← h]

/-- A request begun in AWAKE is performed by its owner where the catalogue permits it on its link (R196). -/
theorem serve_serving {l : Link} {kind : Byte} {perform : State → Reply} {s : State} (h : Serving l s)
    (hp : permitted l kind = true) : serve l kind perform s = answer l kind (perform (clearReleased l s)) := by
  have ho : openTransfer l s = s := by simp [openTransfer, h]
  simp [serve, ho, h, hp]

/-- One that the catalogue does not permit on its link is answered NOT_PERMITTED (R196). -/
theorem serve_refused {l : Link} {kind : Byte} {perform : State → Reply} {s : State} (h : Serving l s)
    (hp : permitted l kind = false) : serve l kind perform s = answered l kind .notPermitted [] s := by
  have ho : openTransfer l s = s := by simp [openTransfer, h]
  simp only [serve, ho, h, hp]
  rw [if_neg (by simp), if_neg (by simp), answer_eq _ _ _ (by cases l <;> rfl)]
  cases l <;> rfl

/-- One begun in DOZE or during an exit is answered WAKING (R180). -/
theorem serve_waking {l : Link} {kind : Byte} {perform : State → Reply} {s : State}
    (h : (port l s).transfer = .open_ true) : serve l kind perform s = answered l kind .waking [] s := by
  have ho : openTransfer l s = s := by simp [openTransfer, h]
  simp only [serve, ho, h]
  rw [if_pos trivial, answer_eq _ _ _ (by cases l <;> rfl)]
  cases l <;> rfl

/-- One met by a main reset ends without effect (R208). -/
theorem serve_lost {l : Link} {kind : Byte} {perform : State → Reply} {s : State}
    (h : (port l s).transfer = .lost) :
    serve l kind perform s = mapPort l (fun p => { p with transfer := .none }) s := by
  have ho : openTransfer l s = s := by simp [openTransfer, h]
  simp [serve, ho, h]

/-! ### Sensors and detectors -/

/-- What a temperature result does to a sensor (R3). -/
theorem sensorStep_celsius (lo hi : Int) (x : Sensor) (t : Int) :
    sensorStep lo hi x (.celsius t) =
      if x.failed = true ∧ x.goodCount < 2 then (⟨true, 0, x.goodCount + 1⟩, .keep)
      else (⟨false, 0, x.goodCount + 1⟩, .value (clampInt lo hi t)) := by
  have h : x.goodCount + 1 < 3 ↔ x.goodCount < 2 := by omega
  simp [sensorStep, h]

/-- What an OPEN or a SHORT result does to a sensor (R3). -/
theorem sensorStep_bad (lo hi : Int) (x : Sensor) (r : TempResult) (code : FaultCode)
    (h : r = .openCircuit ∧ code = .sensorOpen ∨ r = .shortCircuit ∧ code = .sensorShort) :
    sensorStep lo hi x r =
      if x.failed = false ∧ 2 ≤ x.badCount then (⟨true, x.badCount + 1, 0⟩, .failed code)
      else (⟨x.failed, x.badCount + 1, 0⟩, .keep) := by
  rcases h with ⟨rfl, rfl⟩ | ⟨rfl, rfl⟩ <;> simp [sensorStep, sensorStep.badResult]

/-- A detector fires exactly where it has run its duration with its condition met (R12). -/
theorem detect_fires (start : Option Nat) (meets : Bool) (duration t : Nat) :
    (detect start meets duration t).2 = true ↔ meets = true ∧ ∃ st, start = some st ∧ st + duration ≤ t := by
  cases meets <;> cases start <;> simp [detect]
  split <;> simp_all

/-- A detector runs on from its first conversion while its condition is met (R12). -/
theorem detect_start (start : Option Nat) (meets : Bool) (duration t : Nat)
    (h : (detect start meets duration t).2 = false) :
    (detect start meets duration t).1 = if meets then some (start.getD t) else none := by
  cases meets <;> cases start <;> simp [detect] at h ⊢
  split <;> simp_all

/-! ### Searches and levels -/

/-- The search for less answers the highest number from `lo` to `k` that passes. -/
theorem findDown_some {test : Nat → Bool} {lo : Nat} (k : Nat) {n : Nat} (h : findDown test lo k = some n) :
    lo ≤ n ∧ 1 ≤ n ∧ n ≤ k ∧ test n = true ∧ ∀ m, n < m → m ≤ k → test m = false := by
  induction k with
  | zero => simp [findDown] at h
  | succ k ih =>
    rw [findDown] at h
    split at h
    · cases h
    · split at h
      · cases h
        exact ⟨by omega, by omega, by omega, ‹_›, fun m _ _ => by omega⟩
      · obtain ⟨h1, h2, h3, h4, h5⟩ := ih h
        refine ⟨h1, h2, by omega, h4, fun m hm hk => ?_⟩
        by_cases e : m = k + 1
        · subst e; simpa using ‹¬test (k + 1) = true›
        · exact h5 m hm (by omega)

/-- It answers nothing where none of them passes. -/
theorem findDown_none {test : Nat → Bool} {lo : Nat} (k : Nat) (h : findDown test lo k = none) :
    ∀ m, lo ≤ m → 1 ≤ m → m ≤ k → test m = false := by
  induction k with
  | zero => intro m _ _ _; omega
  | succ k ih =>
    rw [findDown] at h
    intro m hl h1 hk
    split at h
    · omega
    · split at h
      · cases h
      · by_cases e : m = k + 1
        · subst e; simpa using ‹¬test (k + 1) = true›
        · exact ih h m hl h1 (by omega)

/-- A level that moves toward its target by no more than their distance reaches it at the end and never passes it. -/
theorem towards_eq (target k level : Nat) (h : k ≤ levelGap level target) :
    towards target k level = if level ≤ target then level + k else level - k := by
  unfold levelGap at h
  unfold towards
  split <;> omega

/-- ceil(a / b) is the least number whose `b`-fold reaches `a`. -/
theorem ceilDiv_le_iff (a b n : Nat) (hb : 0 < b) : ceilDiv a b ≤ n ↔ a ≤ n * b := by
  unfold ceilDiv
  rw [← Nat.lt_succ_iff, Nat.div_lt_iff_lt_mul hb, Nat.succ_mul]
  omega

/-- A pulse carries the clock to the first microsecond at or after its pump time. -/
theorem clockOfPump_le_iff (p t : Nat) : clockOfPump p ≤ t ↔ p ≤ pumpTime t := by
  rw [clockOfPump, ceilDiv_le_iff _ _ _ (by decide), pumpTime, Nat.mul_comm]

/-- The next pulse is never before the clock. -/
theorem pumpTime_le_nextPulse (c : Channel) (t : Nat) : pumpTime t ≤ nextPulse c t := by
  unfold nextPulse; split
  · exact Nat.le_max_left _ _
  · exact Nat.le_refl _

/-! ### The arguments of a frame (R197) -/

/-- A mask or a key in the form of R197 is read back as it was. -/
theorem arg16_enc16 (w : BitVec 16) (p : List Byte) : arg16 (enc16 w ++ p) 0 = w := by
  show (w >>> 8).setWidth 8 ++ w.setWidth 8 = w
  apply BitVec.eq_of_toNat_eq
  rw [BitVec.toNat_append, ← Nat.shiftLeft_add_eq_or_of_lt (by omega)]
  simp only [BitVec.toNat_setWidth, BitVec.toNat_ushiftRight, Nat.shiftRight_eq_div_pow]
  omega

/-- A value or a time in the form of R197 is read back as it was. -/
theorem arg32_enc32 (w : BitVec 32) (p : List Byte) : arg32 (enc32 w ++ p) 0 = w := by
  show ((w >>> 24).setWidth 8 ++ (w >>> 16).setWidth 8) ++ ((w >>> 8).setWidth 8 ++ w.setWidth 8) = w
  apply BitVec.eq_of_toNat_eq
  rw [BitVec.toNat_append, ← Nat.shiftLeft_add_eq_or_of_lt (by omega)]
  simp only [BitVec.toNat_append]
  rw [← Nat.shiftLeft_add_eq_or_of_lt (by omega), ← Nat.shiftLeft_add_eq_or_of_lt (by omega)]
  simp only [BitVec.toNat_setWidth, BitVec.toNat_ushiftRight, Nat.shiftRight_eq_div_pow]
  omega

/-! ### The terms of the statements as the model's operations -/

theorem after_of_next {c : Instr} {s t : State} (h : exec c s = .next t) : after c s = t := by simp [after, h]

/-- A slot that falls due at once is decided as a due whose own time is now, while the fridge is enabled (R102). -/
theorem slotNow_eq_slotAtOnce {s : State} (h : Running s) (he : s.cs.enable = true) : slotNow s = slotAtOnce s := by
  have d : atOrAfter (now s) (now s) = true := by simp [atOrAfter]
  have r : slotReached { s with cs.nextDue := now s } = true := Bool.and_eq_true_iff.2 ⟨he, d⟩
  have e : exec .slotDue { s with cs.nextDue := now s } = .next (slotDue { s with cs.nextDue := now s }) := by
    simp [exec, execSlotDue, unlessReset, inReset, h]
  rw [slotNow, after_of_next e, slotDue, if_pos r]
  rfl

theorem quietTold_eq_reportQuiet (s : State) : quietTold s = reportQuiet s := rfl

end Sys2Proof.Machine
end

