-- ==== Sys2Proof/WellFormed.lean ====
section
/-! DEFINITION. Which terms are commands the part can meet: the checks its types do not make. -/

namespace Sys2Proof

open Machine

/-- Bounds of a command's operands. The channel sense reads 0..65,535 mA (R56); only the lamps CH4 to CH7 fade, by
at least one level (R60); a FETCH clocks its kind (R199); an undefined request is one that R196 answers without its
owner; the times of an infrared completion hold its 8 ms gap (R183). -/
def Instr.wellFormed : Instr → Bool
  | .undefinedRequest l bytes =>
    match judgeFrame l bytes with
    | .noByte | .malformed | .unknown | .notPermitted => true
    | .fetch | .defined _ => false
  | .fetch _ clocked => 1 ≤ clocked
  | .channelShort _ current => current ≤ 65535
  | .channelOvercurrent _ current => current ≤ 65535
  | .openLoadDetected _ current => current ≤ 65535
  | .wiringStepEnd _ peak => peak ≤ 65535
  | .fuelPumpPulse current => current ≤ 65535
  | .fade ch levels => 4 ≤ ch.val && ch.val ≤ 7 && 1 ≤ levels
  | .handsetFrame _ _ elapsed => 8000 ≤ elapsed
  | .handsetRepeat elapsed => 8000 ≤ elapsed
  | .checkError elapsed => 8000 ≤ elapsed
  | _ => true

end Sys2Proof
end

