-- ==== Sys2Proof/Laws/PerInstr.lean ====
section
/-! SUPPORT. What holds of each command as syntax, one lemma for each constructor of `Instr`. -/

namespace Sys2Proof.Laws

open Sys2Proof.Machine

/-- A request of the catalogue is well-formed whatever its operands, and its kind has a row in the catalogue that
permits it on a link (R203). -/
def WellFormedness.Statement (i : Instr) : Prop :=
  ∀ (l : Link) (k : Byte), requestKind i = some (l, k) →
    i.wellFormed = true ∧ ∃ row, catalogueRow? k.toNat = some row ∧ (row.onV || row.onB) = true

/-- A kind of the catalogue, for the lemma of its request. -/
theorem request_statement {i : Instr} {l : Link} {k : Byte} (hk : requestKind i = some (l, k))
    (hw : i.wellFormed = true)
    (hr : ((catalogueRow? k.toNat).map (fun row => row.onV || row.onB)) = some true) :
    WellFormedness.Statement i := by
  intro l' k' h
  rw [hk] at h
  cases h
  refine ⟨hw, ?_⟩
  cases hc : catalogueRow? k.toNat with
  | none => simp [hc] at hr
  | some row => exact ⟨row, rfl, by simpa [hc] using hr⟩

/-- An event has no kind of the catalogue. -/
theorem event_statement {i : Instr} (hk : requestKind i = none) : WellFormedness.Statement i := by
  intro l k h
  rw [hk] at h
  cases h

theorem WellFormedness.transferStart (l : Link) :
    WellFormedness.Statement (.transferStart l) := event_statement rfl
theorem WellFormedness.undefinedRequest (l : Link) (bytes : List Byte) :
    WellFormedness.Statement (.undefinedRequest l bytes) := event_statement rfl
theorem WellFormedness.fetch (l : Link) (clocked : Nat) :
    WellFormedness.Statement (.fetch l clocked) := event_statement rfl
theorem WellFormedness.notices (l : Link) :
    WellFormedness.Statement (.notices l) := request_statement rfl rfl (by decide)
theorem WellFormedness.noticeEnable (l : Link) (mask : BitVec 32) :
    WellFormedness.Statement (.noticeEnable l mask) := request_statement rfl rfl (by decide)
theorem WellFormedness.release (l : Link) :
    WellFormedness.Statement (.release l) := request_statement rfl rfl (by decide)
theorem WellFormedness.statusRead (l : Link) (section_ : Byte) :
    WellFormedness.Statement (.statusRead l section_) := request_statement rfl rfl (by decide)
theorem WellFormedness.budgetRead (l : Link) :
    WellFormedness.Statement (.budgetRead l) := request_statement rfl rfl (by decide)
theorem WellFormedness.grantRequest (l : Link) (load : Load) (purpose : Purpose) (origin : Origin) (level setpoint maxStage : Byte) (endTime : Option RtcTime) :
    WellFormedness.Statement (.grantRequest l load purpose origin level setpoint maxStage endTime) := request_statement rfl rfl (by decide)
theorem WellFormedness.grantProbe (l : Link) (load : Load) (purpose : Purpose) :
    WellFormedness.Statement (.grantProbe l load purpose) := request_statement rfl rfl (by decide)
theorem WellFormedness.grantRevoke (l : Link) (load : Load) (purpose : Purpose) :
    WellFormedness.Statement (.grantRevoke l load purpose) := request_statement rfl rfl (by decide)
theorem WellFormedness.ackWarning (l : Link) (kind : WarnKind) (target : WarnTarget) :
    WellFormedness.Statement (.ackWarning l kind target) := request_statement rfl rfl (by decide)
theorem WellFormedness.warningList (l : Link) :
    WellFormedness.Statement (.warningList l) := request_statement rfl rfl (by decide)
theorem WellFormedness.ackFault (l : Link) (source : FaultSource) (time : RtcTime) :
    WellFormedness.Statement (.ackFault l source time) := request_statement rfl rfl (by decide)
theorem WellFormedness.faultRead (l : Link) :
    WellFormedness.Statement (.faultRead l) := request_statement rfl rfl (by decide)
theorem WellFormedness.accountRead (l : Link) (selector : AccountSelector) :
    WellFormedness.Statement (.accountRead l selector) := request_statement rfl rfl (by decide)
theorem WellFormedness.fridgeSet (l : Link) (enable : Bool) :
    WellFormedness.Statement (.fridgeSet l enable) := request_statement rfl rfl (by decide)
theorem WellFormedness.policySet (l : Link) (item : Byte) (value : BitVec 32) :
    WellFormedness.Statement (.policySet l item value) := request_statement rfl rfl (by decide)
theorem WellFormedness.policyGet (l : Link) (item : Byte) :
    WellFormedness.Statement (.policyGet l item) := request_statement rfl rfl (by decide)
theorem WellFormedness.policyLock (l : Link) :
    WellFormedness.Statement (.policyLock l) := request_statement rfl rfl (by decide)
theorem WellFormedness.seedCharge (l : Link) (q : BitVec 32) :
    WellFormedness.Statement (.seedCharge l q) := request_statement rfl rfl (by decide)
theorem WellFormedness.timeSet (l : Link) (time : RtcTime) :
    WellFormedness.Statement (.timeSet l time) := request_statement rfl rfl (by decide)
theorem WellFormedness.card (l : Link) (slot : DriverSlot) (key : DriverKey) :
    WellFormedness.Statement (.card l slot key) := request_statement rfl rfl (by decide)
theorem WellFormedness.activity (l : Link) (slot : DriverSlot) (act : Activity) :
    WellFormedness.Statement (.activity l slot act) := request_statement rfl rfl (by decide)
theorem WellFormedness.motion (l : Link) (moving : Bool) :
    WellFormedness.Statement (.motion l moving) := request_statement rfl rfl (by decide)
theorem WellFormedness.slotSwap (l : Link) :
    WellFormedness.Statement (.slotSwap l) := request_statement rfl rfl (by decide)
theorem WellFormedness.inputConfig (l : Link) (input : Byte) (config : InputConfig) :
    WellFormedness.Statement (.inputConfig l input config) := request_statement rfl rfl (by decide)
theorem WellFormedness.hold (l : Link) :
    WellFormedness.Statement (.hold l) := request_statement rfl rfl (by decide)
theorem WellFormedness.releaseHold (l : Link) :
    WellFormedness.Statement (.releaseHold l) := request_statement rfl rfl (by decide)
theorem WellFormedness.clearLockout (l : Link) :
    WellFormedness.Statement (.clearLockout l) := request_statement rfl rfl (by decide)
theorem WellFormedness.clearChannel (l : Link) (channel : Byte) :
    WellFormedness.Statement (.clearChannel l channel) := request_statement rfl rfl (by decide)
theorem WellFormedness.wiringCheck (l : Link) :
    WellFormedness.Statement (.wiringCheck l) := request_statement rfl rfl (by decide)
theorem WellFormedness.checkRead (l : Link) :
    WellFormedness.Statement (.checkRead l) := request_statement rfl rfl (by decide)
theorem WellFormedness.restart (l : Link) :
    WellFormedness.Statement (.restart l) := request_statement rfl rfl (by decide)
theorem WellFormedness.bunkRest (l : Link) (bunk : Bunk) (slot : DriverSlot) (plannedEnd : Option RtcTime) (prewarm : Bool) :
    WellFormedness.Statement (.bunkRest l bunk slot plannedEnd prewarm) := request_statement rfl rfl (by decide)
theorem WellFormedness.bunkWake (l : Link) (bunk : Bunk) :
    WellFormedness.Statement (.bunkWake l bunk) := request_statement rfl rfl (by decide)
theorem WellFormedness.snooze (l : Link) (bunk : Bunk) :
    WellFormedness.Statement (.snooze l bunk) := request_statement rfl rfl (by decide)
theorem WellFormedness.pairHandset (l : Link) (bunk : Bunk) :
    WellFormedness.Statement (.pairHandset l bunk) := request_statement rfl rfl (by decide)
theorem WellFormedness.kpor :
    WellFormedness.Statement .kpor := event_statement rfl
theorem WellFormedness.mainReset (cause : ResetCause) :
    WellFormedness.Statement (.mainReset cause) := event_statement rfl
theorem WellFormedness.mainResetEnd :
    WellFormedness.Statement .mainResetEnd := event_statement rfl
theorem WellFormedness.conversion (shunt volt : Int) (pass : Bool) :
    WellFormedness.Statement (.conversion shunt volt pass) := event_statement rfl
theorem WellFormedness.fullDetection (shunt volt : Int) :
    WellFormedness.Statement (.fullDetection shunt volt) := event_statement rfl
theorem WellFormedness.floorCorrection (shunt volt : Int) :
    WellFormedness.Statement (.floorCorrection shunt volt) := event_statement rfl
theorem WellFormedness.voltageFloorClear (shunt volt : Int) (pass : Bool) :
    WellFormedness.Statement (.voltageFloorClear shunt volt pass) := event_statement rfl
theorem WellFormedness.battTempConversion (result : TempResult) :
    WellFormedness.Statement (.battTempConversion result) := event_statement rfl
theorem WellFormedness.review :
    WellFormedness.Statement .review := event_statement rfl
theorem WellFormedness.grantEndReached (load : Load) (purpose : Purpose) :
    WellFormedness.Statement (.grantEndReached load purpose) := event_statement rfl
theorem WellFormedness.grantStartReached (load : Load) (purpose : Purpose) :
    WellFormedness.Statement (.grantStartReached load purpose) := event_statement rfl
theorem WellFormedness.inrushWindowEnd (ch : Fin 12) :
    WellFormedness.Statement (.inrushWindowEnd ch) := event_statement rfl
theorem WellFormedness.channelShort (ch : Fin 12) (current : Nat) :
    WellFormedness.Statement (.channelShort ch current) := event_statement rfl
theorem WellFormedness.channelOvercurrent (ch : Fin 12) (current : Nat) :
    WellFormedness.Statement (.channelOvercurrent ch current) := event_statement rfl
theorem WellFormedness.retryTimerExpiry (ch : Fin 12) :
    WellFormedness.Statement (.retryTimerExpiry ch) := event_statement rfl
theorem WellFormedness.openLoadDetected (ch : Fin 12) (current : Nat) :
    WellFormedness.Statement (.openLoadDetected ch current) := event_statement rfl
theorem WellFormedness.wiringStepEnd (tripped : Bool) (peak : Nat) :
    WellFormedness.Statement (.wiringStepEnd tripped peak) := event_statement rfl
theorem WellFormedness.cabinTempConversion (result : TempResult) :
    WellFormedness.Statement (.cabinTempConversion result) := event_statement rfl
theorem WellFormedness.flameTempConversion (result : TempResult) :
    WellFormedness.Statement (.flameTempConversion result) := event_statement rfl
theorem WellFormedness.preheatTimerExpiry :
    WellFormedness.Statement .preheatTimerExpiry := event_statement rfl
theorem WellFormedness.ignitionTimerExpiry :
    WellFormedness.Statement .ignitionTimerExpiry := event_statement rfl
theorem WellFormedness.regulationTimerExpiry :
    WellFormedness.Statement .regulationTimerExpiry := event_statement rfl
theorem WellFormedness.flameProvenTimeout :
    WellFormedness.Statement .flameProvenTimeout := event_statement rfl
theorem WellFormedness.satisfiedTimeout :
    WellFormedness.Statement .satisfiedTimeout := event_statement rfl
theorem WellFormedness.flameOut :
    WellFormedness.Statement .flameOut := event_statement rfl
theorem WellFormedness.purgeGlowOff :
    WellFormedness.Statement .purgeGlowOff := event_statement rfl
theorem WellFormedness.purgeComplete :
    WellFormedness.Statement .purgeComplete := event_statement rfl
theorem WellFormedness.cabinetTempConversion (result : TempResult) :
    WellFormedness.Statement (.cabinetTempConversion result) := event_statement rfl
theorem WellFormedness.slotDue :
    WellFormedness.Statement .slotDue := event_statement rfl
theorem WellFormedness.runStart :
    WellFormedness.Statement .runStart := event_statement rfl
theorem WellFormedness.runComplete :
    WellFormedness.Statement .runComplete := event_statement rfl
theorem WellFormedness.minOffExpiry :
    WellFormedness.Statement .minOffExpiry := event_statement rfl
theorem WellFormedness.accountTimer :
    WellFormedness.Statement .accountTimer := event_statement rfl
theorem WellFormedness.quietHoursEnd (bunk : Bunk) :
    WellFormedness.Statement (.quietHoursEnd bunk) := event_statement rfl
theorem WellFormedness.wakeTimeout (bunk : Bunk) :
    WellFormedness.Statement (.wakeTimeout bunk) := event_statement rfl
theorem WellFormedness.wakeLeadReached (bunk : Bunk) :
    WellFormedness.Statement (.wakeLeadReached bunk) := event_statement rfl
theorem WellFormedness.plannedEndReached (bunk : Bunk) :
    WellFormedness.Statement (.plannedEndReached bunk) := event_statement rfl
theorem WellFormedness.escalation (kind : WarnKind) (target : WarnTarget) :
    WellFormedness.Statement (.escalation kind target) := event_statement rfl
theorem WellFormedness.flashPhaseChange (bunk : Bunk) :
    WellFormedness.Statement (.flashPhaseChange bunk) := event_statement rfl
theorem WellFormedness.sunriseStep (bunk : Bunk) :
    WellFormedness.Statement (.sunriseStep bunk) := event_statement rfl
theorem WellFormedness.chimePatternStart :
    WellFormedness.Statement .chimePatternStart := event_statement rfl
theorem WellFormedness.chimePatternEnd :
    WellFormedness.Statement .chimePatternEnd := event_statement rfl
theorem WellFormedness.crystalStop :
    WellFormedness.Statement .crystalStop := event_statement rfl
theorem WellFormedness.crystalReturn :
    WellFormedness.Statement .crystalReturn := event_statement rfl
theorem WellFormedness.rtcSecond :
    WellFormedness.Statement .rtcSecond := event_statement rfl
theorem WellFormedness.dozeTimerExpiry :
    WellFormedness.Statement .dozeTimerExpiry := event_statement rfl
theorem WellFormedness.dozeExitComplete :
    WellFormedness.Statement .dozeExitComplete := event_statement rfl
theorem WellFormedness.handsetFrame (id key : Byte) (elapsed : Nat) :
    WellFormedness.Statement (.handsetFrame id key elapsed) := event_statement rfl
theorem WellFormedness.handsetRepeat (elapsed : Nat) :
    WellFormedness.Statement (.handsetRepeat elapsed) := event_statement rfl
theorem WellFormedness.repeatWindowTimeout :
    WellFormedness.Statement .repeatWindowTimeout := event_statement rfl
theorem WellFormedness.pairingWindowClose :
    WellFormedness.Statement .pairingWindowClose := event_statement rfl
theorem WellFormedness.inputRawChange (input : Fin 8) (high : Bool) :
    WellFormedness.Statement (.inputRawChange input high) := event_statement rfl
theorem WellFormedness.debounceExpiry (input : Fin 8) :
    WellFormedness.Statement (.debounceExpiry input) := event_statement rfl
theorem WellFormedness.infraredMarkEdge (start : Bool) (elapsed : Nat) :
    WellFormedness.Statement (.infraredMarkEdge start elapsed) := event_statement rfl
theorem WellFormedness.timingError :
    WellFormedness.Statement .timingError := event_statement rfl
theorem WellFormedness.checkError (elapsed : Nat) :
    WellFormedness.Statement (.checkError elapsed) := event_statement rfl
theorem WellFormedness.crystalEdgesResume :
    WellFormedness.Statement .crystalEdgesResume := event_statement rfl
theorem WellFormedness.fade (ch : Fin 12) (levels : Nat) :
    WellFormedness.Statement (.fade ch levels) := event_statement rfl
theorem WellFormedness.fuelPumpPulse (current : Nat) :
    WellFormedness.Statement (.fuelPumpPulse current) := event_statement rfl

end Sys2Proof.Laws
end

