-- ==== Sys2Proof/Laws/Rests.lean ====
section
/-! SUPPORT. What rests, accounts, removals and the fridge leave alone: one lemma for each operation, all of the one form
`besideRests (op s) = besideRests s`. -/

namespace Sys2Proof.Machine

/-- What a fault leaves alone, a rest's view does not see. -/
theorem besideRests_of_faults {s t : State} (h : besideFaults t = besideFaults s) : besideRests t = besideRests s := by
  have e : ∀ x, besideRests (besideFaults x) = besideRests x := fun _ => rfl
  rw [← e t, h, e s]

theorem besideRests_of_grants {s t : State} (h : besideGrants t = besideGrants s) : besideRests t = besideRests s :=
  besideRests_of_faults (besideFaults_of_grants h)

theorem besideRests_field {α : Type} (f : State → α) {s t : State} (h : besideRests t = besideRests s)
    (hf : ∀ x, f (besideRests x) = f x) : f t = f s := by
  rw [← hf t, h, hf s]

theorem besideRests_cm {s t : State} (h : besideRests t = besideRests s) : t.cm = s.cm :=
  besideRests_field State.cm h fun _ => rfl
theorem besideRests_policy {s t : State} (h : besideRests t = besideRests s) : t.policy = s.policy :=
  besideRests_field State.policy h fun _ => rfl
theorem besideRests_hr {s t : State} (h : besideRests t = besideRests s) : t.hr = s.hr :=
  besideRests_field State.hr h fun _ => rfl
theorem besideRests_ei {s t : State} (h : besideRests t = besideRests s) : t.ei = s.ei :=
  besideRests_field State.ei h fun _ => rfl
theorem besideRests_pending {s t : State} (h : besideRests t = besideRests s) : t.pending = s.pending :=
  besideRests_field State.pending h fun _ => rfl

/-! ### Updates and the work of other blocks -/

@[simp] theorem besideRests_withRm (s : State) (x : RestMonitor) : besideRests { s with rm := x } = besideRests s := rfl
@[simp] theorem besideRests_withCs (s : State) (x : ColdStore) : besideRests { s with cs := x } = besideRests s := rfl
@[simp] theorem besideRests_withWu (s : State) (x : WarningUnit) : besideRests { s with wu := x } = besideRests s := rfl
@[simp] theorem besideRests_withFu (s : State) (x : FaultUnit) : besideRests { s with fu := x } = besideRests s := rfl
@[simp] theorem besideRests_withHs (s : State) (x : Heater) : besideRests { s with hs := x } = besideRests s := rfl
@[simp] theorem besideRests_withCa (s : State) (x : ChannelArray) : besideRests { s with ca := x } = besideRests s := rfl

@[simp] theorem notifyBoth_besideRests (n : Notice) (s : State) :
    besideRests (notifyBoth n s) = besideRests s := besideRests_of_grants (by simp)
@[simp] theorem notify_besideRests (l : Link) (n : Notice) (s : State) :
    besideRests (notify l n s) = besideRests s := besideRests_of_grants (by simp)
@[simp] theorem setTarget_besideRests (n : Fin 12) (k : Nat) (s : State) :
    besideRests (setTarget n k s) = besideRests s := besideRests_of_grants (by simp)
@[simp] theorem enterPreheat_besideRests (s : State) :
    besideRests (enterPreheat s) = besideRests s := besideRests_of_grants (by simp)
@[simp] theorem endTest_besideRests (s : State) :
    besideRests (endTest s) = besideRests s := besideRests_of_grants (by simp)
@[simp] theorem startAllFromTargets_besideRests (s : State) :
    besideRests (startAllFromTargets s) = besideRests s := besideRests_of_grants (by simp)
@[simp] theorem cutPending_besideRests (s : State) :
    besideRests (cutPending s) = besideRests s := besideRests_of_grants (by simp)
@[simp] theorem dropGrant_besideRests (l : Load) (p : Purpose) (s : State) :
    besideRests (dropGrant l p s) = besideRests s := besideRests_of_grants (by simp)
@[simp] theorem updateGrant_besideRests (l : Load) (p : Purpose) (f : Grant → Grant) (s : State) :
    besideRests (updateGrant l p f s) = besideRests s := besideRests_of_grants (by simp)
@[simp] theorem internalRequest_besideRests (l : Load) (p : Purpose) (o : Origin) (e : Option RtcTime) (s : State) :
    besideRests (internalRequest l p o e s) = besideRests s := besideRests_of_grants (by simp)
@[simp] theorem mergeLoad_besideRests (l : Load) (s : State) :
    besideRests (mergeLoad l s) = besideRests s := besideRests_of_grants (by simp)
@[simp] theorem mergeHeater_besideRests (s : State) :
    besideRests (mergeHeater s) = besideRests s := besideRests_of_grants (by simp)
@[simp] theorem mergeAll_besideRests (s : State) :
    besideRests (mergeAll s) = besideRests s := besideRests_of_grants (by simp)
@[simp] theorem lowerStage_besideRests (s : State) :
    besideRests (lowerStage s) = besideRests s := besideRests_of_grants (by simp)
@[simp] theorem applyCaps_besideRests (s : State) :
    besideRests (applyCaps s) = besideRests s := besideRests_of_grants (by simp)
@[simp] theorem revalidate_besideRests (s : State) :
    besideRests (revalidate s) = besideRests s := besideRests_of_grants (by simp)
@[simp] theorem withdraw_besideRests (l : Load) (p : Purpose) (s : State) :
    besideRests (withdraw l p s) = besideRests s := besideRests_of_grants (by simp)
@[simp] theorem releaseRestartable_besideRests (l : Load) (s : State) :
    besideRests (releaseRestartable l s) = besideRests s := besideRests_of_grants (by simp)
@[simp] theorem setChan_besideRests (n : Fin 12) (c : Channel) (s : State) :
    besideRests (setChan n c s) = besideRests s := besideRests_of_grants (by simp)
@[simp] theorem setGivenUp_besideRests (b : Bunk) (x : Bool) (s : State) :
    besideRests (setGivenUp b x s) = besideRests s := besideRests_of_faults (by simp)
@[simp] theorem holdShed_besideRests (t : RtcTime) (s : State) :
    besideRests (holdShed t s) = besideRests s := besideRests_of_grants (by simp)
@[simp] theorem judgeAsk_besideRests (r : GrantAsk) (s : State) : besideRests (judgeAsk r s).state = besideRests s :=
  besideRests_of_grants (by simp)
@[simp] theorem grantAsk_besideRests (r : GrantAsk) (s : State) : besideRests (grantAsk r s).state = besideRests s :=
  besideRests_of_grants (by simp)
@[simp] theorem wake_besideRests (c : WakeCause) (s : State) :
    besideRests (wake c s) = besideRests s := besideRests_of_faults (by simp)
@[simp] theorem reconsiderFlash_besideRests (b : Bunk) (s : State) :
    besideRests (reconsiderFlash b s) = besideRests s := besideRests_of_faults (by simp)
@[simp] theorem raiseWarning_besideRests (k : WarnKind) (t : WarnTarget) (l : WarnLevel) (s : State) :
    besideRests (raiseWarning k t l s) = besideRests s := besideRests_of_faults (by simp)
@[simp] theorem removeWarning_besideRests (k : WarnKind) (t : WarnTarget) (s : State) :
    besideRests (removeWarning k t s) = besideRests s := besideRests_of_faults (by simp)
@[simp] theorem escalateWarning_besideRests (k : WarnKind) (t : WarnTarget) (s : State) :
    besideRests (escalateWarning k t s) = besideRests s := besideRests_of_faults (by simp)
@[simp] theorem markAcked_besideRests (k : WarnKind) (t : WarnTarget) (s : State) :
    besideRests (markAcked k t s) = besideRests s := besideRests_of_faults (by simp)
@[simp] theorem takeFault_besideRests (r : FaultReport) (s : State) :
    besideRests (takeFault r s) = besideRests s := besideRests_of_faults (by simp)
@[simp] theorem overheat_besideRests (s : State) :
    besideRests (overheat s) = besideRests s := besideRests_of_faults (by simp)
@[simp] theorem addCause_besideRests (c : HoldCause) (h : Bool) (s : State) :
    besideRests (addCause c h s) = besideRests s := besideRests_of_faults (by simp)
@[simp] theorem handReview_besideRests (s : State) :
    besideRests (handReview s) = besideRests s := besideRests_of_faults (by simp)

/-! ### Identity records -/

@[simp] theorem setRecord_besideRests (i : Fin 4) (r : Option Identity) (s : State) :
    besideRests (setRecord i r s) = besideRests s := rfl
@[simp] theorem handCond_besideRests (k : WarnKind) (l : WarnLevel) (i : Fin 4) (a b : Bool) (s : State) :
    besideRests (handCond k l i a b s) = besideRests s := by
  unfold handCond; (repeat' split) <;> simp
@[simp] theorem evaluateConds_besideRests (i : Fin 4) (s : State) :
    besideRests (evaluateConds i s) = besideRests s := by
  simp [evaluateConds]
@[simp] theorem endShort_besideRests (i : Fin 4) (c : Option (Bool × ShortTarget)) (s : State) :
    besideRests (endShort i c s) = besideRests s := by
  unfold endShort; (repeat' split) <;> simp
@[simp] theorem tellNews_besideRests (i : Fin 4) (r : Identity) (n : RestNews) (s : State) :
    besideRests (tellNews i r n s) = besideRests s := by
  unfold tellNews; dsimp only; (repeat' split) <;> simp
@[simp] theorem accumulate_besideRests (i : Fin 4) (t : RtcTime) (s : State) :
    besideRests (accumulate i t s) = besideRests s := by
  unfold accumulate; (repeat' split) <;> simp
@[simp] theorem accumulateAll_besideRests (t : RtcTime) (s : State) : besideRests (accumulateAll t s) = besideRests s :=
  foldl_keeps besideRests _ (fun s i => accumulate_besideRests i t s) allRecords s
@[simp] theorem tellVerdict_besideRests (i : Fin 4) (r : Identity) (t : ShortTarget) (v : RestVerdict) (s : State) :
    besideRests (tellVerdict i r t v s) = besideRests s := by
  unfold tellVerdict; (repeat' split) <;> simp
@[simp] theorem changeClass_besideRests (i : Fin 4) (r : Bool) (p q : Nat) (a b : Activity) (s : State) :
    besideRests (changeClass i r p q a b s) = besideRests s := by
  unfold changeClass; dsimp only; (repeat' split) <;> simp
@[simp] theorem changeActivity_besideRests (i : Fin 4) (a : Activity) (r : Bool) (s : State) :
    besideRests (changeActivity i a r s) = besideRests s := by
  unfold changeActivity; dsimp only; (repeat' split) <;> simp
@[simp] theorem loseSlot_besideRests (i : Fin 4) (s : State) :
    besideRests (loseSlot i s) = besideRests s := by
  unfold loseSlot; dsimp only; (repeat' split) <;> simp
@[simp] theorem markUncertain_besideRests (x : Bool) (s : State) :
    besideRests (markUncertain x s) = besideRests s := by
  unfold markUncertain; dsimp only; (repeat' split) <;> simp

/-! ### Bunk rests -/

@[simp] theorem setRest_besideRests (b : Bunk) (r : Option BunkRest) (s : State) :
    besideRests (setRest b r s) = besideRests s := rfl
@[simp] theorem reportQuiet_besideRests (s : State) :
    besideRests (reportQuiet s) = besideRests s := by
  simp [reportQuiet]
@[simp] theorem testWake_besideRests (b : Bunk) (s : State) :
    besideRests (testWake b s) = besideRests s := by
  unfold testWake; dsimp only; (repeat' split) <;> simp
@[simp] theorem newPlannedEnd_besideRests (b : Bunk) (s : State) :
    besideRests (newPlannedEnd b s) = besideRests s := by
  simp [newPlannedEnd]
@[simp] theorem setSunrise_besideRests (b : Bunk) (x : SunriseState) (p : Option RtcTime) (s : State) :
    besideRests (setSunrise b x p s) = besideRests s := rfl
@[simp] theorem reconcileSunrise_clear_besideRests (b : Bunk) (s : State) :
    besideRests (reconcileSunrise.clear b s) = besideRests s := by
  simp [reconcileSunrise.clear]
@[simp] theorem reconcileSunrise_place_besideRests (b : Bunk) (r : GrantAsk) (p : RtcTime) (s : State) :
    besideRests (reconcileSunrise.place b r p s) = besideRests s := by
  simp [reconcileSunrise.place]
@[simp] theorem reconcileSunrise_besideRests (b : Bunk) (s : State) :
    besideRests (reconcileSunrise b s) = besideRests s := by
  unfold reconcileSunrise; dsimp only; (repeat' split) <;> simp
@[simp] theorem setPrewarm_besideRests (b : Bunk) (x : PrewarmState) (s : State) :
    besideRests (setPrewarm b x s) = besideRests s := by
  unfold setPrewarm; dsimp only; (repeat' split) <;> simp
@[simp] theorem releaseEntryRest_besideRests (b : Bunk) (s : State) :
    besideRests (releaseEntryRest b s) = besideRests s := by
  unfold releaseEntryRest; (repeat' split) <;> simp
@[simp] theorem placePrewarm_besideRests (b : Bunk) (r : GrantAsk) (s : State) :
    besideRests (placePrewarm b r s) = besideRests s := by
  unfold placePrewarm; dsimp only; (repeat' split) <;> simp
@[simp] theorem reconcilePrewarm_besideRests (s : State) :
    besideRests (reconcilePrewarm s) = besideRests s := by
  unfold reconcilePrewarm; dsimp only; (repeat' split) <;> simp
@[simp] theorem prewarmRemoved_besideRests (c : Removal) (s : State) :
    besideRests (prewarmRemoved c s) = besideRests s := by
  unfold prewarmRemoved; dsimp only; (repeat' split) <;> simp
@[simp] theorem sunriseRemoved_besideRests (b : Bunk) (c : Removal) (s : State) :
    besideRests (sunriseRemoved b c s) = besideRests s := by
  simp [sunriseRemoved]
@[simp] theorem flashRemoved_besideRests (b : Bunk) (c : Removal) (s : State) :
    besideRests (flashRemoved b c s) = besideRests s := by
  unfold flashRemoved; (repeat' split) <;> simp
@[simp] theorem reportRemoval_besideRests (l : Load) (p : Purpose) (c : Removal) (s : State) :
    besideRests (reportRemoval l p c s) = besideRests s := by
  unfold reportRemoval; (repeat' split) <;> simp
@[simp] theorem removeEntry_besideRests (l : Load) (p : Purpose) (c : Removal) (s : State) :
    besideRests (removeEntry l p c s) = besideRests s := by
  unfold removeEntry; (repeat' split) <;> simp
@[simp] theorem releaseNonRestartable_besideRests (l : Load) (s : State) :
    besideRests (releaseNonRestartable l s) = besideRests s := by
  unfold releaseNonRestartable; dsimp only
  rw [foldl_keeps besideRests _ (fun s g => by simp), mergeLoad_besideRests,
    foldl_keeps besideRests _ (fun s g => by simp)]
@[simp] theorem releaseSuspension_besideRests (e : Suspension) (s : State) :
    besideRests (releaseSuspension e s) = besideRests s := by
  unfold releaseSuspension; dsimp only; split <;> simp
@[simp] theorem leavePrewarm_besideRests (b : Bunk) (s : State) :
    besideRests (leavePrewarm b s) = besideRests s := by
  unfold leavePrewarm; (repeat' split) <;> simp
@[simp] theorem endRest_besideRests (b : Bunk) (s : State) :
    besideRests (endRest b s) = besideRests s := by
  unfold endRest; dsimp only; (repeat' split) <;> simp
@[simp] theorem timeoutRest_besideRests (b : Bunk) (s : State) :
    besideRests (timeoutRest b s) = besideRests s := by
  unfold timeoutRest; (repeat' split) <;> simp
@[simp] theorem ackEntry_besideRests (k : WarnKind) (t : WarnTarget) (s : State) :
    besideRests (ackEntry k t s) = besideRests s := by
  unfold ackEntry; dsimp only; (repeat' split) <;> simp
@[simp] theorem bunkAck_besideRests (b : Bunk) (s : State) : besideRests (bunkAck b s).1 = besideRests s :=
  foldl_keeps besideRests _ (fun s w => by simp) _ s
@[simp] theorem tellPlannedEnd_besideRests (b : Bunk) (m : Bool) (s : State) :
    besideRests (tellPlannedEnd b m s) = besideRests s := by
  unfold tellPlannedEnd; dsimp only; (repeat' split) <;> simp
@[simp] theorem snoozeRest_besideRests (b : Bunk) (s : State) : besideRests (snoozeRest b s).1 = besideRests s := by
  unfold snoozeRest; (repeat' split) <;> simp

/-! ### The Cold Store Controller -/

@[simp] theorem placeCooling_besideRests (s : State) :
    besideRests (placeCooling s) = besideRests s := by
  simp [placeCooling]
@[simp] theorem syncDoze_besideRests (s : State) : besideRests (syncDoze s) = besideRests s := by
  unfold syncDoze; split <;> rfl
@[simp] theorem finishCheck_besideRests (c : Bool) (r : WiringRun) (v : Vector WiringResult 12) (s : State) :
    besideRests (finishCheck c r v s) = besideRests s := by
  unfold finishCheck; dsimp only; (repeat' split) <;> simp
@[simp] theorem abortCheck_besideRests (s : State) :
    besideRests (abortCheck s) = besideRests s := by
  unfold abortCheck; (repeat' split) <;> simp
@[simp] theorem decideRun_besideRests (s : State) :
    besideRests (decideRun s) = besideRests s := by
  unfold decideRun; dsimp only; (repeat' split) <;> simp
@[simp] theorem recordDecision_besideRests (d : SlotDecision) (t : RtcTime) (c : Int) (s : State) :
    besideRests (recordDecision d t c s) = besideRests s := rfl
@[simp] theorem decideSlot_besideRests (t : RtcTime) (s : State) :
    besideRests (decideSlot t s) = besideRests s := by
  unfold decideSlot; dsimp only; (repeat' split) <;> simp
@[simp] theorem slotFallsDue_besideRests (t u : RtcTime) (s : State) :
    besideRests (slotFallsDue t u s) = besideRests s := by
  simp [slotFallsDue]
@[simp] theorem slotAtOnce_besideRests (s : State) :
    besideRests (slotAtOnce s) = besideRests s := by
  simp [slotAtOnce]
@[simp] theorem reformDue_besideRests (s : State) :
    besideRests (reformDue s) = besideRests s := by
  unfold reformDue; dsimp only; (repeat' split) <;> simp
@[simp] theorem setMode_besideRests (m : RateMode) (s : State) :
    besideRests (setMode m s) = besideRests s := by
  unfold setMode; (repeat' split) <;> simp
@[simp] theorem cabinToFridge_besideRests (t : Int) (s : State) :
    besideRests (cabinToFridge t s) = besideRests s := by
  unfold cabinToFridge; (repeat' split) <;> simp
@[simp] theorem beginRun_besideRests (k : RunKind) (s : State) :
    besideRests (beginRun k s) = besideRests s := by
  simp [beginRun]
@[simp] theorem endRun_besideRests (s : State) :
    besideRests (endRun s) = besideRests s := by
  simp [endRun]
@[simp] theorem setWarm_besideRests (s : State) :
    besideRests (setWarm s) = besideRests s := by
  simp [setWarm]
@[simp] theorem clearWarm_besideRests (s : State) :
    besideRests (clearWarm s) = besideRests s := by
  simp [clearWarm]
@[simp] theorem completeRun_besideRests (k : RunKind) (s : State) :
    besideRests (completeRun k s) = besideRests s := by
  unfold completeRun; dsimp only; (repeat' split) <;> simp
@[simp] theorem setFridge_besideRests (on : Bool) (s : State) :
    besideRests (setFridge on s) = besideRests s := by
  unfold setFridge; dsimp only; (repeat' split) <;> simp

/-! ### Keys and buttons -/

@[simp] theorem placeAsk_besideRests (r : GrantAsk) (s : State) : besideRests (placeAsk r s).1 = besideRests s := by
  simp [placeAsk]
@[simp] theorem toggle_besideRests (r : GrantAsk) (s : State) : besideRests (toggle r s).1 = besideRests s := by
  unfold toggle; split <;> simp
@[simp] theorem lightToggle_besideRests (r : Requester) (b : Bunk) (s : State) :
    besideRests (lightToggle r b s).1 = besideRests s := by
  simp [lightToggle]
@[simp] theorem lightStep_besideRests (u : Bool) (b : Bunk) (s : State) :
    besideRests (lightStep u b s).1 = besideRests s := by
  unfold lightStep
  extract_lets base level; split
  · rfl
  · simp
@[simp] theorem heatToggle_besideRests (b : Bunk) (s : State) : besideRests (heatToggle b s).1 = besideRests s := by
  simp [heatToggle]
@[simp] theorem heatStep_besideRests (u : Bool) (b : Bunk) (s : State) :
    besideRests (heatStep u b s).1 = besideRests s := by
  unfold heatStep; split <;> simp
@[simp] theorem keyAction_besideRests (b : Bunk) (k : Byte) (s : State) :
    besideRests (keyAction b k s).1 = besideRests s := by
  unfold keyAction; split <;> simp
@[simp] theorem buttonPress_besideRests (b : Bunk) (s : State) : besideRests (buttonPress b s).1 = besideRests s := by
  unfold buttonPress; dsimp only; split <;> simp

/-! ### Reviews and stored times -/

@[simp] theorem expireGrant_besideRests (l : Load) (p : Purpose) (s : State) :
    besideRests (expireGrant l p s) = besideRests s := by
  unfold expireGrant; (repeat' split) <;> simp
@[simp] theorem startGrant_besideRests (l : Load) (p : Purpose) (s : State) :
    besideRests (startGrant l p s) = besideRests s := by
  unfold startGrant; (repeat' split) <;> simp
@[simp] theorem passStoredTimes_besideRests (s : State) : besideRests (passStoredTimes s) = besideRests s := by
  unfold passStoredTimes; dsimp only
  rw [foldl_keeps besideRests _ (fun s g => by simp), foldl_keeps besideRests _ (fun s g => by simp)]

end Sys2Proof.Machine
end

