-- ==== Sys2Proof/Tests/Slice0.lean ====
section
/-! SUPPORT. Tests: ill-formed terms that WellFormed refuses, worked examples of the spec, single steps with results
computed by hand from the rules, and for each obligation states and operands that meet its hypotheses, clause by
clause, at the ends of their ranges. -/

namespace Sys2Proof.Tests

open Sys2Proof.Machine

/-! ### Helpers -/

/-- A request transfer begun in AWAKE is open on the link. -/
def serving (l : Link) (s : State) : State := mapPort l (fun p => { p with transfer := .open_ false }) s

/-- A channel record put in place of another. -/
def withChan (n : Fin 12) (c : Channel) (s : State) : State := { s with ca.chans := s.ca.chans.set n c }

/-- A grant in position `pos`, with no start and no end. -/
def grantAt (pos : Nat) (load : Load) (purpose : Purpose) (state : GrantState) (lv : Level) : Grant :=
  ⟨pos, load, purpose, .linkV, .cab, lv, lv, none, none, state, none, none⟩

/-- An identity record last brought up to date at 0. -/
def recordOf (key : DriverKey) (slot : Option DriverSlot) (act : Activity) : Identity :=
  { key := key, slot := slot, activity := act, activityStart := 0, lastUpdate := 0, lastActivity := 0 }

/-- A capture in FU's record. -/
def captureOf (source : FaultSource) (restartable : Bool) : Capture :=
  ⟨⟨source, .overcurrent, 0, .channel .on, restartable⟩, 5⟩

/-- The payload of the response a step left in Link V's slot, or none where it answered no next state. -/
def answerV : Host.Outcome State Fault Refusal → Option (Status × List Byte)
  | .next s => s.portV.slot.map (fun r => (r.status, r.payload))
  | _ => none

/-- A figure of the state a step answered. -/
def after {α : Type} (f : State → α) : Host.Outcome State Fault Refusal → Option α
  | .next s => some (f s)
  | _ => none

/-! ### Well-formedness -/

theorem test_wf_undefined_request_with_defined_frame : (Instr.undefinedRequest .v [0x06#8, 0#8]).wellFormed = false := by
  decide
theorem test_wf_undefined_request_unknown_kind : (Instr.undefinedRequest .v [0xFF#8, 0#8]).wellFormed = true := by decide
theorem test_wf_fetch_clocks_its_kind : (Instr.fetch .v 0).wellFormed = false := by decide
theorem test_wf_channel_short_current : (Instr.channelShort 0 65536).wellFormed = false := by decide
theorem test_wf_channel_overcurrent_current : (Instr.channelOvercurrent 0 65536).wellFormed = false := by decide
theorem test_wf_open_load_current : (Instr.openLoadDetected 0 65536).wellFormed = false := by decide
theorem test_wf_wiring_step_peak : (Instr.wiringStepEnd true 65536).wellFormed = false := by decide
theorem test_wf_pump_pulse_current : (Instr.fuelPumpPulse 65536).wellFormed = false := by decide
theorem test_wf_fade_of_a_channel_without_fade : (Instr.fade 3 1).wellFormed = false := by decide
theorem test_wf_fade_of_no_level : (Instr.fade 4 0).wellFormed = false := by decide
theorem test_wf_handset_frame_within_gap : (Instr.handsetFrame 1 1 7999).wellFormed = false := by decide
theorem test_wf_handset_repeat_within_gap : (Instr.handsetRepeat 7999).wellFormed = false := by decide
theorem test_wf_check_error_within_gap : (Instr.checkError 7999).wellFormed = false := by decide
theorem test_wf_bounds_reached :
    (Instr.fetch .b 1).wellFormed = true ∧ (Instr.channelShort 11 65535).wellFormed = true ∧
    (Instr.fade 7 1).wellFormed = true ∧ (Instr.handsetFrame 1 1 8000).wellFormed = true := by decide

/-! ### Worked examples of the spec -/

/-- R5's worked samples: in AWAKE +12.50 A at efficiency 243, then in DOZE −4.20 A. -/
theorem test_worked_samples :
    integrate 225000 1000 3100 (sampleCharge 1250 1 243) = (1001, 686) ∧
    integrate 225000 1000 686 (sampleCharge (-420) 10 243) = (999, 86) := by decide

/-- R5's worked clamps: the count reaching the capacity, standing at it, and running empty. -/
theorem test_worked_clamps :
    integrate 225000 224999 3500 (sampleCharge 2000 1 243) = (225000, 1798) ∧
    integrate 225000 225000 1798 (sampleCharge 2000 1 243) = (225000, 0) ∧
    integrate 225000 225000 0 (sampleCharge 2000 1 243) = (225000, 1898) ∧
    integrate 225000 0 50 (sampleCharge (-100) 1 243) = (0, 0) := by decide

/-- A cold night: 180 Ah in the bank at −18 °C. -/
def coldNight : State := { State.reset with cm.q := 180000, cm.tb := -18 }

/-- The worked budget case and R15's floor count. -/
theorem test_worked_budget :
    factor coldNight = 127 ∧ usable coldNight = 89296 ∧ freeCharge coldNight = 29296 ∧
    floorCount coldNight = 120945 := by decide

/-- R6's table of factors. -/
theorem test_worked_factors :
    [25, 10, 0, -18, -20, -28, -29].map (fun t => factor { State.reset with cm.tb := t }) =
      [256, 211, 181, 127, 121, 97, 96] := by decide

/-- The worked admission of the chapter on the grant table. -/
def workedAdmission : State :=
  serving .b { coldNight with
    au.table := [{ grantAt 0 .fridge .cooling .active {} with requester := .internal },
      grantAt 1 .heater .comfort .active ⟨0, 20, 3⟩,
      { grantAt 2 .zoneLower .comfort .active ⟨64, 0, 0⟩ with endTime := some 1800 }]
    hs.phase := .run, hs.purgeOwed := true
    rm.recs := #v[some (recordOf 7 (some .driver) .rest), none, none, none]
    rm.rests := ⟨none, some ⟨0, 0, some 26400, false, 0, .notWanted⟩⟩ }

theorem test_worked_admission_demand :
    horizon workedAdmission = 440 ∧ demandOf workedAdmission 440 workedAdmission.au.table = 22389 := by decide

/-- OUTLET_1 is refused NO_HEADROOM with a shortfall of 15,093 mAh. -/
theorem test_worked_admission_refused :
    after (fun s => s.portB.slot) (exec (.grantRequest .b .outlet1 .comfort .upper 0 0 0 none) workedAdmission) =
      some (some ⟨.noHeadroom, 0x10, encInt32 15093⟩) := by decide

/-- ZONE_UPPER at 200 is admitted REDUCED: position 3, level 159, D 936, projection 6,864, headroom 43. -/
theorem test_worked_admission_reduced :
    after (fun s => s.portB.slot) (exec (.grantRequest .b .zoneUpper .comfort .upper 200 0 0 none) workedAdmission) =
      some (some ⟨.reduced, 0x10, encU8 3 ++ encLevel ⟨159, 0, 0⟩ ++ encNat32 936 ++ encNat32 6864 ++ encInt32 43⟩) := by
  decide +kernel

/-- The table of the worked review sequence, with the reviews' free charge made by a reserve of 0 at 25 °C. -/
def workedReview (pointer : Nat) (shed : List Nat) (q : Nat) (mean : Int) : State :=
  let st (p : Nat) : GrantState := if p ∈ shed then .shed else .active
  { State.reset with
    policy.p02 := 0, cm.tb := 25, cm.q := q, cm.winSum := mean, cm.winCount := 1
    hs.phase := .run, hs.purgeOwed := true, hs.stage := some 2, hs.merged := some ⟨20, 2⟩
    cs.enable := true
    au.pointer := pointer, au.shedList := shed
    au.table := [{ grantAt 0 .fridge .cooling .active {} with requester := .internal },
      grantAt 1 .outlet1 .comfort (st 1) {}, grantAt 2 .zoneLower .comfort (st 2) ⟨255, 0, 0⟩,
      grantAt 3 .heater .comfort .active ⟨0, 20, 2⟩, grantAt 4 .vent .comfort (st 4) ⟨128, 0, 0⟩,
      grantAt 5 .readUpper .comfort (st 5) ⟨255, 0, 0⟩] }

/-- P, the pointer, the shed list in order of position, deficit and surplus after a review. -/
def reviewed (s : State) : Option (Nat × Nat × List Nat × Bool × Bool) :=
  after (fun t => (t.au.last.demand, t.au.pointer, t.au.shedList, t.au.deficit, t.au.surplus)) (exec .review s)

theorem test_worked_review_1 : reviewed (workedReview 3 [] 20000 40) = some (16200, 2, [1, 4, 5], true, false) := by decide
theorem test_worked_review_2 : reviewed (workedReview 2 [1, 4, 5] 20500 60) = some (16200, 2, [1, 4, 5], false, false) := by
  decide
theorem test_worked_review_3 : reviewed (workedReview 2 [1, 4, 5] 30500 150) = some (28200, 2, [4, 5], false, false) := by
  decide
theorem test_worked_review_4 : reviewed (workedReview 2 [4, 5] 31000 260) = some (33816, 2, [], false, true) := by decide
theorem test_worked_review_5 : reviewed (workedReview 2 [] 31100 120) = some (27816, 3, [2], true, false) := by decide

/-- The outlet's first trip, at its surge of 13,400 mA, and the overcurrent of 5,200 mA in ON that locks it. -/
theorem test_worked_outlet_trips :
    after (fun s => ((chan 9 s).state, (chan 9 s).tripCount, hasNotice .channelRetry s.portB))
      (exec (.channelOvercurrent 9 13400)
        (withChan 9 { state := .starting, target := 255, output := 255, inrushDue := some 500000 } State.reset)) =
        some (.tripped, 1, true) ∧
    after (fun s => ((chan 9 s).state, s.fu.record.map (·.report)))
      (exec (.channelOvercurrent 9 5200) (withChan 9 { state := .on, target := 255, output := 255 } State.reset)) =
        some (.locked, some ⟨.channel 9, .overcurrent, 5200, .channel .on, true⟩) := by decide

/-- The pre-warm's ignition, 90 s on. -/
def workedIgnition : State :=
  { State.reset with
    tu.rtc := 19930, hs.phase := .ignite, hs.purgeOwed := true, hs.activation := true, hs.merged := some ⟨20, 2⟩
    hs.entryTemp := -14, hs.tf := some (-6), hs.ignitionDue := some 90000000
    au.table := [{ grantAt 0 .heater .schedule .active ⟨0, 20, 2⟩ with
      requester := .internal, start := some 19800, endTime := some 22500 }] }

/-- Its first ignition fails at 05:32:10: a FULL purge with follow-on PREHEAT until 05:35:10, one attempt. -/
theorem test_worked_failed_ignition :
    after (fun s => (s.hs.phase, s.hs.purgeOwed, s.hs.attempts)) (exec .ignitionTimerExpiry workedIgnition) =
      some (.purge, true, 1) ∧
    after (fun s => s.hs.purge.map (fun p => (p.full, p.followOn))) (exec .ignitionTimerExpiry workedIgnition) =
      some (some (true, .preheat)) ∧
    after (fun s => (findGrant .heater .purge s).map (·.endTime)) (exec .ignitionTimerExpiry workedIgnition) =
      some (some (some 20110)) := by decide +kernel

/-- The second ignition detects its flame at +7, with entry Tf −9: RUN, demand 4 limited to stage 2. -/
theorem test_worked_flame_detected :
    after (fun s => (s.hs.phase, s.hs.attempts, s.hs.demand, s.hs.stage))
      (exec (.flameTempConversion (.celsius 7)) { State.reset with
        hs.phase := .ignite, hs.purgeOwed := true, hs.activation := true, hs.merged := some ⟨20, 2⟩, hs.attempts := 1
        hs.entryTemp := -9, hs.tc := some (-12), hs.ignitionDue := some 90000000 }) =
      some (.run, 0, some 4, some 2) := by decide

/-- A main reset during a counted slot run: c falls from −2 to −3, the run flag is cleared and COOLING is placed. -/
theorem test_worked_reset_during_run :
    after (fun s => (s.cs.c, s.cs.run, (findGrant .fridge .cooling s).map (·.state)))
      (exec .mainResetEnd { State.reset with
        tu.resetHold := some ⟨true, false, false, false, none⟩, cs.enable := true, cs.c := -2, cs.run := some .slot }) =
      some (-3, none, some .active) := by decide +kernel

/-- The handset's LIGHT_UP of the spec: id 0x5A, key 0x02, check 1; a step from 40 to 56. -/
theorem test_worked_handset_frame :
    frameCheck 0x5A 0x02 = 1 ∧ frameFields ([false, true, false, true, true, false, true, false] ++
      [false, false, false, false, false, false, true, false] ++ [false, false, false, true]) = (0x5A, 0x02, 1) := by
  decide

theorem test_worked_light_up :
    after (fun s => (findGrant .zoneLower .comfort s).map (·.req.level))
      (exec (.handsetFrame 0x5A 0x02 8000) { State.reset with
        cm.q := 225000, hr.paired := ⟨some 0x5A, none⟩
        au.table := [{ grantAt 0 .zoneLower .comfort .active ⟨40, 0, 0⟩ with requester := .handset, origin := .lower }] }) =
      some (some 56) := by decide +kernel

/-- The example of the link chapter: a FETCH clocked to byte 6 keeps the mask; one of 9 bytes empties the slot. -/
theorem test_worked_fetch :
    let s := serving .b { State.reset with portB.slot := some ⟨.ok, 0x02, enc32 2⟩, portB.out := [0x51] }
    after (fun t => t.portB.slot.isSome) (exec (.fetch .b 7) s) = some true ∧
    after (fun t => (t.portB.slot.isSome, t.portB.out.length)) (exec (.fetch .b 9) s) = some (false, 9) := by decide

/-- R147's arbitration at 03:00:00: REST_BROKEN plays, not RESERVE_LOW during the rest. -/
theorem test_worked_arbitration :
    (chimeChoice { State.reset with
      rm.rests := ⟨some ⟨0, 0, none, false, 0, .notWanted⟩, none⟩
      wu.list := [⟨.reserveLow, .cab, 10680, .alert, false, none, 0⟩,
        ⟨.restBroken, .bunk .upper, 10800, .notice, false, none, 0⟩] }).map (·.kind) = some .restBroken := by decide

/-- R102's example: the cabin warms to 30 °C at 10:25, past the re-formed due of 10:20: the slot falls due at once, and
the next is due at 10:45. -/
theorem test_worked_reformed_interval :
    after (fun s => (s.cs.mode, s.cs.nextDue, s.cs.slotPending))
      (exec (.cabinTempConversion (.celsius 30)) { State.reset with
        tu.rtc := 37500, cs.enable := true, cs.nextDue := 37800, cs.minOffDue := none }) = some (.warm, 38700, true) := by decide

/-! ### Witnesses of the obligations' hypotheses

Each theorem is named after its obligation; it goes through the statement's clauses in order and shows a state and
operands that meet the hypotheses of each. -/

abbrev r0 : State := State.reset
/-- Reset with a request open on Link V, or on Link B. -/
def v0 : State := serving .v r0
def b0 : State := serving .b r0
/-- Reset with Link V's transfer begun in DOZE, or met by a main reset. -/
def vDoze : State := { r0 with portV.transfer := .open_ true }
def vLost : State := { r0 with portV.transfer := .lost }
/-- Reset with the part in DOZE. -/
def doze : State := { r0 with tu.mode := .doze }
/-- A main reset held, with every cause seen. -/
def held : State := { r0 with tu.resetHold := some ⟨true, true, true, true, some 1000⟩ }

/-- A witness for two records' distinctness: the condition of the invariant pair by pair. -/
theorem recordsDistinct_of {s : State}
    (h : ∀ i j : Fin 4, i ≠ j → ((record i s).bind fun a => (record j s).map fun b =>
      decide (a.key ≠ b.key ∧ (a.slot = none ∨ a.slot ≠ b.slot))) ≠ some false)
    (hb : (s.rm.rests.lower.bind fun a => s.rm.rests.upper.map fun b => decide (a.record ≠ b.record)) ≠ some false) :
    RecordsDistinct s := by
  refine ⟨fun i j a b ha hb' hij => ?_, fun a b ha hb' => ?_⟩
  · have := h i j hij
    simpa [ha, hb', or_iff_not_imp_left] using this
  · simpa [ha, hb'] using hb

theorem witness_StepTakesFrontCommand : r0.pending = [] := rfl

theorem witness_MainResetKeepsKeepAlive :
    Serving .v v0 ∧ r0.tu.resetHold = none ∧
    held.tu.resetHold.map (fun g => (g.power, g.pin, g.restart)) = some (true, true, true) := by decide

theorem witness_MainResetEndRestartsPart :
    held.tu.resetHold.isSome = true ∧ { held with hs.purgeOwed := true }.hs.purgeOwed = true ∧
    held.hs.purgeOwed = false ∧ { held with hs.lockout := some .overheat }.hs.lockout.isSome = true ∧
    (!(input 1 held).config.debounce && (input 1 held).pin == ((input 1 held).config.polarity == .activeHigh)) = false ∧
    held.hs.lockout = none ∧ held.rm.rests = ⟨none, none⟩ := by decide +kernel

theorem witness_TransferStartGivesStatusByte :
    (Running r0 ∧ r0.tu.mode = .awake ∧ r0.portV.transfer = .none) ∧
    (Running doze ∧ doze.tu.mode = .doze ∧ doze.portB.transfer = .none ∧ doze.tu.exitDue = none) ∧
    { doze with tu.exitDue := some 2000 }.tu.exitDue = some 2000 := by decide

/-- The empty slot's five bytes are clocked whole by 5, and not by 4. -/
theorem witness_FetchClocksOutResponse :
    (Serving .v v0 ∧ v0.portV.slot = none) ∧ vDoze.portV.transfer = .open_ true ∧
    (5 ≤ 5) ∧ ¬(5 ≤ 4) ∧
    (⟨.ok, 0x12#8, [1#8]⟩ : Response).payload.length + 5 = 6 := by decide

theorem witness_NoticesEnablesAndRelease :
    Serving .v v0 ∧ Serving .b b0 ∧
    (let s := setInput 7 { config := { InputConfig.initial with kind := .level }, active := true }
       { v0 with portV.notices := noticeMask .input }
     (hasNotice .input (port .v s) && levelInputs .v s) = true) ∧
    (hasNotice .input (port .v v0) && levelInputs .v v0) = false ∧ held.tu.resetHold.isSome = true ∧ Running r0 := by
  decide +kernel

theorem witness_NoticesEnablesAndRelease_masks : MasksInRange r0 := fun l => by cases l <;> decide

/-- Frames with one argument at the first value beyond its list, or a presence byte that disagrees with the length. -/
def badFrames : List (Link × List Byte) :=
  [(.v, [0x10, 7, 10, 0, 0, 0, 0, 0, 0]), (.v, [0x10, 7, 9, 6, 0, 0, 0, 0, 0]), (.v, [0x10, 7, 9, 5, 3, 0, 0, 0, 0]),
    (.v, [0x10, 7, 9, 5, 2, 0, 0, 0, 1]), (.v, [0x10, 11, 9, 5, 2, 0, 0, 0, 0, 1, 2, 3, 4]), (.b, [0x11, 2, 10, 0]),
    (.b, [0x12, 2, 9, 6]), (.v, [0x18, 2, 9, 0]), (.v, [0x18, 2, 8, 7]), (.v, [0x1C, 5, 19, 0, 0, 0, 0])] ++
  [(.v, [0x20, 2, 3, 0]), (.v, [0x20, 2, 0, 4]), (.v, [0x20, 2, 1, 2]), (.v, [0x20, 2, 2, 2]), (.v, [0x24, 1, 2]),
    (.v, [0x40, 3, 2, 0, 0]), (.v, [0x41, 2, 2, 0]), (.v, [0x41, 2, 1, 4]), (.v, [0x42, 1, 2])] ++
  [(.v, [0x48, 5, 0, 2, 0, 0, 0]), (.v, [0x48, 5, 0, 0, 2, 0, 0]), (.v, [0x48, 5, 0, 0, 0, 2, 0]),
    (.v, [0x48, 5, 0, 0, 0, 0, 8]), (.b, [0x60, 4, 2, 0, 0, 0]), (.b, [0x60, 4, 0, 2, 0, 0]), (.b, [0x60, 4, 0, 0, 0, 2]),
    (.b, [0x60, 4, 0, 0, 1, 0]), (.b, [0x60, 8, 0, 0, 0, 1, 2, 3, 4, 0]), (.b, [0x61, 1, 2]), (.b, [0x63, 1, 2])]

theorem test_frames_beyond_their_lists : badFrames.all (fun x => decide (judgeFrame x.1 x.2 = .malformed)) = true := by
  decide +kernel

/-- The last values of those lists, and little-endian words: each frame is the request written beside it. -/
theorem test_frames_read_back :
    judgeFrame .v [0x10, 11, 9, 0, 2, 3, 4, 5, 1, 0x78, 0x56, 0x34, 0x12] =
      .defined (.grantRequest .v .vent .comfort .cab 3 4 5 (some 0x12345678)) ∧
    judgeFrame .v [0x1C, 5, 18, 1, 0, 0, 0] = .defined (.ackFault .v .timebase 1) ∧
    judgeFrame .v [0x20, 2, 2, 1] = .defined (.accountRead .v (.bunk .upper)) ∧
    judgeFrame .v [0x40, 3, 1, 0x34, 0x12] = .defined (.card .v .coDriver 0x1234) ∧
    judgeFrame .v [0x48, 5, 7, 1, 1, 0, 6] = .defined (.inputConfig .v 7
      { polarity := .activeLow, kind := .level, debounce := false, noticeV := false, noticeB := true, wake := true }) ∧
    judgeFrame .b [0x60, 4, 1, 0, 0, 1] = .defined (.bunkRest .b .upper .driver none true) := by decide +kernel

/-- The frames at the clauses' bounds: one byte; a length of 31 with all its bytes; a length of 1 with no byte; kind 0xFF; a
kind of Link V alone sent on Link B; STATUS_READ with no payload and with one of 30. -/
theorem witness_UndefinedRequestsJudgedInOrder :
    Serving .v v0 ∧ Serving .b b0 ∧ (0x00#8 : Byte) ≠ 0x01#8 ∧
    30 < (31#8 : Byte).toNat ∧ ([] : List Byte).length < (1#8 : Byte).toNat ∧
    ((30#8 : Byte).toNat ≤ 30 ∧ (30#8 : Byte).toNat ≤ (List.replicate 30 (0#8 : Byte)).length) ∧
    catalogueRow? (0xFF#8 : Byte).toNat = none ∧ (catalogueRow? (0x05#8 : Byte).toNat).isSome = true ∧
    (catalogueRow? (0x30#8 : Byte).toNat).map (fun row => row.onB) = some false ∧
    (catalogueRow? (0x05#8 : Byte).toNat).map (fun row => (row.onV, decide (0 ∉ row.lengths), decide (30 ∉ row.lengths))) =
      some (true, true, true) ∧
    (badFrames.all (fun x => (catalogueRow? (x.2.headD 0).toNat).any (fun row =>
      (match x.1 with | .v => row.onV | .b => row.onB) && row.lengths.contains (x.2.length - 2)))) = true ∧
    vDoze.portV.transfer = .open_ true ∧ requestKind (.card .v .driver 7) = some (.v, 0x40#8) := by decide +kernel

theorem witness_RequestsAnsweredByPort :
    requestKind (.notices .v) = some (.v, 0x02#8) ∧ requestKind (.pairHandset .b .upper) = some (.b, 0x63#8) ∧
    vDoze.portV.transfer = .open_ true ∧
    (requestKind (.hold .b) = some (.b, 0x50#8) ∧ b0.portB.transfer = .open_ false ∧ permitted .b 0x50#8 = false) ∧
    (requestKind (.snooze .v .lower) = some (.v, 0x62#8) ∧ permitted .v 0x62#8 = false) ∧
    vLost.portV.transfer = .lost := by decide

theorem witness_ReadsReportAndChangeNothing :
    Serving .v v0 ∧ Serving .b b0 ∧ (0#8 : Byte).toNat < 7 ∧ (6#8 : Byte).toNat < 7 ∧ 7 ≤ (7#8 : Byte).toNat ∧
    7 ≤ (255#8 : Byte).toNat := by decide

/-- Sums at 0, at the last value below the end of the count and just past each end, and the largest samples. -/
theorem witness_IntegrationKeepsCharge :
    (let total (q r : Nat) (i : Int) (w : Nat) : Int := 3600 * (q : Int) + (r : Int) + sampleCharge i w 256
     total 0 100 (-100) 1 = 0 ∧ total 0 99 (-100) 1 < 0 ∧
     total 10 3599 0 1 < 3600 * (10 + 1) ∧ 3600 * (10 + 1) ≤ total 10 3599 1 1) ∧
    ((0 : Int) ≤ 0 ∧ (0 : Int) < 1) ∧ (3599 < 3600 ∧ (-32768 : Int) ≤ -32768 ∧ (32767 : Int) ≤ 32767 ∧ (10 : Nat) ≤ 10 ∧ (256 : Nat) ≤ 256) := by decide

theorem witness_FloorCountIsSmallestCover :
    { r0 with cm.sensor := { failed := true } }.cm.sensor.failed = true ∧ r0.cm.sensor.failed = false ∧
    25 ≤ tbInUse { r0 with cm.tb := 25 } ∧ tbInUse { r0 with cm.tb := 24 } < 25 ∧ tbInUse { r0 with cm.tb := -40 } < 25 := by
  decide

theorem witness_ConversionIntegratesOrDiscards :
    (Running r0 ∧ r0.cm.voltageFloor = false) ∧
    (r0.cm.fullLatched = false ∧ r0.cm.fullStart = none ∧ r0.cm.floorStart = none ∧ r0.cm.pathLost = false) ∧
    (let s := { r0 with cm.pathLost := true, cm.passCount := 9 }; s.cm.voltageFloor = false ∧ 9 ≤ s.cm.passCount) ∧
    (let s := { r0 with cm.pathLost := true, cm.passCount := 8 }; s.cm.pathLost = true ∧ s.cm.passCount < 9) ∧
    ({ r0 with cm.failCount := 1 }.cm.failCount < 2) ∧
    (let s := { r0 with cm.failCount := 2 }; s.cm.pathLost = false ∧ 2 ≤ s.cm.failCount ∧ s.fu.record = none) := by
  decide

theorem witness_DetectorsFire :
    (let s := { r0 with cm.fullStart := some 0 }
     Running s ∧ s.cm.fullStart = some 0 ∧ s.cm.pathLost = false ∧ s.cm.fullLatched = false ∧ s.cm.voltageFloor = false ∧
       s.policy.p05 ≤ voltageOf 28400 ∧ 0 ≤ currentOf 0 ∧ currentOf 100 ≤ s.policy.p06) ∧
    (let s := { r0 with cm.floorStart := some 0 }
     Running s ∧ s.cm.floorStart = some 0 ∧ s.cm.pathLost = false ∧ s.cm.voltageFloor = false ∧
       (input 0 s).active = false ∧ voltageOf 22999 < s.policy.p07 ∧ currentOf (-1) < 0 ∧
       ¬floorCount s < (counted (-1) s).1 ∧
       floorCount { s with cm.q := 225000 } < (counted (-1) { s with cm.q := 225000 }).1) ∧
    (let s := { r0 with cm.clearStart := some 0, cm.voltageFloor := true, cm.pathLost := true }
     Running s ∧ s.cm.clearStart = some 0 ∧ s.cm.voltageFloor = true ∧ s.policy.p07 + 500 ≤ voltageOf 23500 ∧
       s.cm.pathLost = true) := by decide +kernel

theorem witness_TemperatureResultsJudged :
    (Running r0 ∧ (TempResult.openCircuit = .openCircuit ∧ FaultCode.sensorOpen = .sensorOpen) ∧
      (TempResult.shortCircuit = .shortCircuit ∧ FaultCode.sensorShort = .sensorShort)) ∧
    ({ r0 with cm.sensor := ⟨false, 1, 0⟩ }.cm.sensor.badCount < 2 ∧
      { r0 with cm.sensor := ⟨true, 9, 0⟩ }.cm.sensor.failed = true) ∧
    (let s := { r0 with cm.sensor := ⟨false, 2, 0⟩ }
     s.cm.sensor.failed = false ∧ 2 ≤ s.cm.sensor.badCount ∧ s.fu.record = none) ∧
    (r0.cs.sensor.failed = false ∧ { r0 with cs.sensor := ⟨true, 0, 2⟩ }.cs.sensor.goodCount = 2 ∧ r0.cs.warm = false) ∧
    (let s := { r0 with cs.warm := true }
     (s.policy.p45 : Int) - 2 < max (-40) (min 85 7) ∧ max (-40) (min 85 6) ≤ (s.policy.p45 : Int) - 2) ∧
    (let s := { r0 with cs.sensor := ⟨false, 2, 0⟩ }
     Running s ∧ s.cs.sensor.failed = false ∧ 2 ≤ s.cs.sensor.badCount ∧ s.fu.record = none) := by decide +kernel

theorem witness_SeedChargeSetsCount : Serving .v v0 := rfl

/-- A zone at level 40 for four hours takes 944 mAh, at 34 it takes 800 and at 26 it takes 612. -/
def lamp : Grant := grantAt 1 .zoneLower .comfort .active ⟨40, 0, 0⟩

/-- What `lesser` offers a lamp at level 40 lies below it. -/
theorem lesser_lamp {j : Nat} {w : Level} (h : lesser .zoneLower ⟨40, 0, 0⟩ j = some w) :
    26 ≤ j ∧ j < 40 ∧ w = ⟨j, 0, 0⟩ := by
  simp only [lesser, isLevelled, if_true] at h
  split at h
  · next hj => exact ⟨hj.1, hj.2, by cases h; rfl⟩
  · cases h

theorem witness_SeedChargeSetsCount_readmit :
    let at_ (k : Nat) : Nat := 0 + projection r0 240 { lamp with eff := ⟨k, 0, 0⟩ }
    r0.au.surplus = false ∧ capLevel (quietLimit r0 lamp.load lamp.purpose lamp.origin) lamp.req = ⟨40, 0, 0⟩ ∧
    shedClass .fridge .cooling = 0 ∧ shedClass lamp.load lamp.purpose ≠ 0 ∧
    (at_ 40 : Int) ≤ 944 ∧ ¬(at_ 40 : Int) ≤ 943 ∧ lesser .zoneLower ⟨40, 0, 0⟩ 34 = some ⟨34, 0, 0⟩ ∧
    (at_ 34 : Int) ≤ 800 ∧ (∀ j : Nat, 34 < j → ∀ w, lesser .zoneLower ⟨40, 0, 0⟩ j = some w →
      ¬((0 + projection r0 240 { lamp with eff := w } : Nat) : Int) ≤ 800) ∧
    (∀ j : Nat, ∀ w, lesser .zoneLower ⟨40, 0, 0⟩ j = some w →
      ¬((0 + projection r0 240 { lamp with eff := w } : Nat) : Int) ≤ 611) := by
  refine ⟨by decide +kernel, by decide +kernel, by decide +kernel, by decide +kernel, by decide +kernel,
    by decide +kernel, by decide +kernel, by decide +kernel, fun j hj w hw => ?_, fun j w hw => ?_⟩
  · obtain ⟨-, h, rfl⟩ := lesser_lamp hw
    have : ∀ j < 40, 34 < j → ¬((0 + projection r0 240 { lamp with eff := ⟨j, 0, 0⟩ } : Nat) : Int) ≤ 800 := by
      decide +kernel
    exact this j h hj
  · obtain ⟨hl, h, rfl⟩ := lesser_lamp hw
    have : ∀ j < 40, 26 ≤ j → ¬((0 + projection r0 240 { lamp with eff := ⟨j, 0, 0⟩ } : Nat) : Int) ≤ 611 := by
      decide +kernel
    exact this j h hl

/-- A full bank at 25 °C: every grant fits. -/
def rich (s : State) : State := { s with cm.q := 225000, cm.tb := 25 }
def tableOf (gs : List Grant) (s : State) : State := { s with au.table := gs }
def onHold (s : State) : State := { s with fu.cause3 := some 0 }
def checking (n : Fin 12) (s : State) : State :=
  { s with ca.check := some ⟨n, 8000, 100000, 0, Vector.replicate 12 ⟨.notTested, 0⟩⟩ }
def suspending (load : Load) (tied : Bool) (s : State) : State :=
  { s with fu.susp := [⟨load, true, tied, .heater, .overheat⟩] }

/-- Twelve external entries, with VENT COMFORT absent. -/
def twelve : List Grant :=
  [grantAt 0 .heater .comfort .active ⟨0, 20, 3⟩, grantAt 1 .zoneLower .comfort .active ⟨40, 0, 0⟩,
    grantAt 2 .zoneUpper .comfort .active ⟨40, 0, 0⟩, grantAt 3 .readLower .comfort .active ⟨40, 0, 0⟩,
    grantAt 4 .readUpper .comfort .active ⟨40, 0, 0⟩, grantAt 5 .step .comfort .active ⟨255, 0, 0⟩,
    grantAt 6 .outlet1 .comfort .active {}, grantAt 7 .outlet2 .comfort .active {}] ++
  [grantAt 8 .heater .schedule .waiting ⟨0, 20, 2⟩, grantAt 9 .zoneLower .schedule .waiting ⟨160, 0, 0⟩,
    grantAt 10 .zoneUpper .schedule .waiting ⟨160, 0, 0⟩, grantAt 11 .step .courtesy .active ⟨255, 0, 0⟩]

/-- Outside surplus, with two lamps that fit, or that one seed of 0 mAh sheds. -/
theorem witness_SeedChargeSetsCount_table :
    let s := tableOf [grantAt 0 .heater .purge .active {}, lamp, { lamp with pos := 2, load := .zoneUpper }] (rich v0)
    TableSound s ∧ s.au.surplus = false ∧
    after (fun t => t.au.table.map (·.state)) (exec (.seedCharge .v 225000) s) = some [.active, .active, .active] ∧
    after (fun t => (t.au.table.map (·.state), t.au.shedList)) (exec (.seedCharge .v 0) s) =
      some ([.active, .shed, .shed], [1, 2]) := by
  unfold TableSound; decide +kernel

theorem witness_GrantRequestRefusedInOrder :
    Serving .v v0 ∧ Purpose.schedule ≠ .comfort ∧ Load.vent ≠ .fridge ∧
    ((isLevelled .vent && (0#8 : Byte) == 0#8) = true ∧ atOrAfter (now v0) 0 = true ∧ atOrAfter (now v0) 1 = false) ∧
    ((findGrant .vent .comfort v0).isNone = true ∧
      (findGrant .zoneLower .comfort (tableOf twelve v0)).map (·.pos) = some 1) ∧
    inHold (onHold v0) = true ∧
    (inHold (checking 0 v0) = false ∧ (checking 0 v0).ca.check.isSome = true) ∧
    (inHold v0 = false ∧ v0.ca.check = none) ∧
    (loadLocked .outlet1 (withChan 9 { state := .locked } v0) = true ∧
      isSuspended .heater (suspending .heater true v0) = true ∧
      (findGrant .vent .comfort (tableOf [grantAt 0 .vent .comfort .suspended ⟨9, 0, 0⟩] v0)).map (·.state) =
        some .suspended) ∧
    (loadLocked .heater v0 = false ∧ isSuspended .heater v0 = false ∧
      { v0 with hs.lockout := some .sensor }.hs.lockout.isSome = true) ∧
    (findGrant .vent .comfort (tableOf twelve v0) = none ∧ 12 ≤ externalCount (tableOf twelve v0) ∧
      externalCount (tableOf (twelve.take 11) v0) < 12) := by decide +kernel

/-- The worked admission (OUTLET_1 fits nowhere, ZONE_UPPER at 200 fits at 159 and not at 160), a full bank, and a table of
eleven external entries. -/
theorem witness_GrantRequestAdmittedWhereItFits :
    let s := workedAdmission
    let g : Grant := { grantAt 3 .zoneUpper .comfort .active ⟨200, 0, 0⟩ with origin := .upper }
    let p (v : Level) : Int := demandOf s (horizon s) (putAt { g with eff := v } s.au.table)
    (Serving .b s ∧ inHold s = false ∧ s.ca.check = none ∧ loadLocked .zoneUpper s = false ∧
      isSuspended .zoneUpper s = false ∧ (200#8 : Byte) ≠ 0#8 ∧ findGrant .zoneUpper .comfort s = none ∧
      externalCount s < 12 ∧ quietLimit s .zoneUpper .comfort .upper = none ∧ freePosition s.au.table = 3) ∧
    (s.au.surplus = false ∧ ¬p ⟨200, 0, 0⟩ ≤ freeCharge s ∧ p ⟨159, 0, 0⟩ ≤ freeCharge s ∧ ¬p ⟨160, 0, 0⟩ ≤ freeCharge s ∧
      lesser .zoneUpper ⟨200, 0, 0⟩ 159 = some ⟨159, 0, 0⟩ ∧ (lesser .zoneUpper ⟨200, 0, 0⟩ 25) = none ∧
      (lesser .zoneUpper ⟨200, 0, 0⟩ 200) = none ∧
      (∀ j < 256, lesser .outlet1 {} j = none)) ∧
    (let s := serving .v (rich r0)
     (demandOf s (horizon s) (putAt { g with pos := 0 } s.au.table) : Int) ≤ freeCharge s) ∧
    ({ s with au.surplus := true }.au.surplus = true ∧
      (findGrant .zoneLower .comfort s).map (·.pos) = some 2) := by decide +kernel

theorem witness_GrantRequestAdmittedWhereItFits_table : TableSound workedAdmission ∧ TableSound (tableOf (twelve.take 11) v0) := by
  unfold TableSound; decide +kernel

theorem witness_AdmissionTestsThenFits :
    let ask (load : Load) : GrantAsk := ⟨load, .comfort, .linkV, .cab, ⟨40, 20, 1⟩, none, none⟩
    (inHold (onHold r0) = true ∧ (checking 11 r0).ca.check.isSome = true ∧ isSuspended .vent (suspending .vent false r0) = true) ∧
    ({ r0 with hs.lockout := some .ch1 }.hs.lockout.isSome = true ∧ (ask .heater).load = .heater) ∧
    (findGrant .vent .comfort (tableOf twelve r0) = none ∧ 12 ≤ externalCount (tableOf twelve r0)) ∧
    (externalCount (tableOf (twelve.take 11) r0) < 12 ∧ (findGrant .zoneLower .comfort (tableOf twelve r0)).isSome = true) ∧
    (workedAdmission.au.surplus = false ∧ (judgeAsk { ask .zoneUpper with level := ⟨100, 0, 0⟩, origin := .upper } workedAdmission).status = .ok ∧
      (judgeAsk { ask .zoneUpper with level := ⟨200, 0, 0⟩, origin := .upper } workedAdmission).status = .reduced) := by
  decide +kernel

/-- A pre-warm in the lower bunk, and sunrises. -/
def scheduled (l : Link) : State :=
  serving l (tableOf twelve { r0 with rm.entryRest := some ⟨.lower, false⟩ })

theorem witness_RevokeRemovesEntry :
    Serving .v (scheduled .v) ∧ Serving .b (scheduled .b) ∧
    findGrant .vent .comfort (scheduled .b) = none ∧ (findGrant .zoneLower .comfort (scheduled .b)).isSome = true ∧
    (findGrant .zoneLower .schedule (scheduled .v)).isSome = true ∧ (findGrant .zoneUpper .schedule (scheduled .v)).isSome = true ∧
    (findGrant .heater .schedule (scheduled .v)).isSome = true ∧
    (scheduled .v).rm.entryRest.map (fun e => (e.bunk, e.ended)) = some (.lower, false) ∧
    ((Purpose.schedule == .comfort || (Link.b == .v && (Purpose.schedule == .schedule || Purpose.schedule == .courtesy))) = false) := by
  decide +kernel

/-- The end and the start of an entry at the very second, one before, and with none. -/
theorem witness_StoredTimesEndAndStartEntries :
    let s (load : Load) (p : Purpose) : State := tableOf [{ grantAt 0 load p .waiting ⟨40, 20, 1⟩ with
      start := some 100, endTime := some 100 }] { r0 with tu.rtc := 100 }
    (Running (s .vent .comfort) ∧ atOrAfter 100 100 = true ∧ atOrAfter 99 100 = false) ∧
    findGrant .vent .courtesy (s .vent .comfort) = none ∧
    (findGrant .zoneLower .schedule (s .zoneLower .schedule)).map (fun g => (g.state, g.start, g.endTime)) =
      some (.waiting, some 100, some 100) ∧
    (findGrant .zoneUpper .schedule (s .zoneUpper .schedule)).isSome = true ∧
    (findGrant .step .courtesy (s .step .courtesy)).isSome = true := by decide +kernel

theorem witness_StoredTimesEndAndStartEntries_table :
    TableSound (tableOf [{ grantAt 0 .vent .comfort .waiting ⟨40, 0, 0⟩ with start := some 100, endTime := some 100 }] r0) := by
  unfold TableSound; decide +kernel

/-- Victims and none; a grant shed among earlier and later ones; sheds that stop, and with every victim gone. -/
theorem witness_ReviewShedsByClassAndPointer :
    let s := workedReview 3 [] 20000 40
    let active (g : Grant) : Bool := g.state == .active
    ((nextVictim active s).map (·.pos) = some 4 ∧ nextVictim (fun g => g.load == .fridge) s = none ∧
      (workedReview 15 [] 20000 40).au.pointer < 16) ∧
    (let r := reviewTable 240 4000 s
     s.au.surplus = false ∧ r.2.2 = 0 ∧ (4000 : Int) < (demandOf r.1 240 r.1.au.table : Int) ∧ r.2.1 = 5) ∧
    (reviewTable 240 20000 s).2 = (3, 0) ∧ (reviewTable 240 99999 s).2 = (0, 0) := by decide +kernel

theorem witness_ReviewShedsByClassAndPointer_table :
    TableSound (workedReview 3 [] 20000 40) ∧ TableSound (workedReview 2 [1, 4, 5] 30500 150) := by
  unfold TableSound; decide +kernel

theorem witness_ReviewShedsByClassAndPointer_list :
    ShedListed (workedReview 2 [1, 4, 5] 30500 150) ∧
    (workedReview 2 [1, 4, 5] 30500 150).au.table.map (fun g => (g.pos, g.state == .active)) =
      [(0, true), (1, false), (2, true), (3, true), (4, false), (5, false)] := by
  refine ⟨⟨by decide +kernel, fun p => ?_⟩, by decide +kernel⟩
  have small : ∀ p < 16, p ∈ (workedReview 2 [1, 4, 5] 30500 150).au.shedList ↔
      ∃ g ∈ (workedReview 2 [1, 4, 5] 30500 150).au.table, g.pos = p ∧ g.state = .shed := by decide +kernel
  have listed : ∀ q ∈ (workedReview 2 [1, 4, 5] 30500 150).au.shedList, q < 16 := by decide +kernel
  have placed : ∀ g ∈ (workedReview 2 [1, 4, 5] 30500 150).au.table, g.pos < 16 := by decide +kernel
  by_cases h : p < 16
  · exact small p h
  · exact ⟨fun k => absurd (listed p k) h, fun ⟨g, k, e, _⟩ => absurd (e ▸ placed g k) h⟩

/-- One restore at the margin, none one below it, all blocked, and the restores of a surplus. -/
theorem witness_ReviewShedsByClassAndPointer_restores :
    let s := workedReview 2 [1, 4, 5] 30500 150
    let all : State := { s with ca.check := (checking 11 r0).ca.check }
    ((firstRestorable s).map (fun g => (g.pos, g.state)) = some (1, .shed) ∧
      (restoreOne 240 30200 s).2 = 1 ∧ (restoreOne 240 30199 s).2 = 0 ∧ firstRestorable all = none) ∧
    (let r := reviewTable 240 0 { s with au.surplus := true }
     r.2 = (0, 3) ∧ r.1.au.pointer = 2 ∧ (reviewTable 240 0 { all with au.surplus := true }).2 = (0, 0)) := by
  decide +kernel

/-- A SHED heater grant of 7,200 mAh that passes the margin test of R42 with P11 at 0, and whose start charge of 250 mAh fits
with it at 7,450 mAh and not at 7,449; with P11 at 250 the margin test alone decides (R40) [32]. -/
theorem test_restore_counts_the_start_charge :
    let s (p11 : Nat) : State := tableOf [grantAt 0 .heater .comfort .shed ⟨0, 20, 3⟩]
      { r0 with policy.p11 := p11, au.shedList := [0] }
    [restoreOne 240 7449 (s 0), restoreOne 240 7450 (s 0), restoreOne 240 7449 (s 250), restoreOne 240 7450 (s 250)].map
      (fun r => (r.2, demandOf r.1 240 r.1.au.table)) = [(0, 0), (1, 7450), (0, 0), (1, 7450)] := by decide +kernel

/-- LOCKOUT with a purge owed, CH0 and CH1 LOCKED and the merged heater grant present. -/
def twoLocked : State := tableOf [grantAt 0 .heater .comfort .active ⟨0, 20, 2⟩]
  (withChan 0 { state := .locked } (withChan 1 { state := .locked } { v0 with
    hs.phase := .lockout, hs.lockout := some .ch1, hs.purgeOwed := true, hs.merged := some ⟨20, 2⟩ }))

/-- CH1 leaves LOCKED alone: the SUSPENDED PURGE entry takes the merged heater grant with it (R37, R52, R90), so that the
lockout's clearing in that purge leaves the follow-on OFF (R86, R92). -/
theorem test_suspended_purge_entry_ends_merged_heat :
    after (fun t => (t.hs.phase, t.hs.merged.isSome, (findGrant .heater .purge t).map (·.state)))
      (exec (.clearChannel .v 1) twoLocked) = some (.purge, false, some .suspended) ∧
    after (fun t => after (fun u => u.hs.purge.map (·.followOn)) (exec (.clearLockout .v) (serving .v t)))
      (exec (.clearChannel .v 1) twoLocked) = some (some (some .off)) := by decide +kernel

/-- The hold causes as FAULT_READ sends them: bits 1 and 2 of the set for causes 2 and 3, then their times (R197). -/
theorem test_hold_causes_are_a_set :
    (encCauses { r0 with fu.cause2 := some 7, fu.cause3 := some 9 }).length = 11 ∧
    ((encCauses { r0 with fu.cause2 := some 7, fu.cause3 := some 9 })[0]?) = some 6#8 ∧
    encCauses r0 = [0] := by decide +kernel

/-- Each clause on what a review shows: surplus, sheds, restores, and no hold cause 4. -/
theorem witness_ReviewRecordsAndHands :
    Running r0 ∧ r0.fu.cause4 = none ∧
    after (fun t => t.au.surplus) (exec .review (workedReview 2 [4, 5] 31000 200)) = some true ∧
    after (fun t => t.au.last.nShed) (exec .review (workedReview 3 [] 20000 40)) = some 3 ∧
    after (fun t => t.au.last.nRestored) (exec .review (workedReview 2 [1, 4, 5] 30500 150)) = some 1 ∧
    after (fun t => t.fu.cause4.isSome) (exec .review { workedReview 3 [] 0 40 with
      tu.rtc := 300, au.breach := true, au.breachTime := some 0, cm.voltageFloor := true }) = some true := by
  decide +kernel

/-- A capture of this source stands in FU's record. -/
def capturing (source : FaultSource) (s : State) : State := { s with fu.record := some (captureOf source true) }

theorem witness_FirstTripRetriesAndTimersAct :
    let s := withChan 0 { state := .starting, target := 255, inrushDue := some 9 } r0
    let u := withChan 4 { state := .tripped, target := 0, retryDue := some 9 } r0
    (Running s ∧ (chan 0 s).state = .starting ∧ (chan 0 s).tripCount = 0 ∧ (chan 0 s).inrushDue = some 9) ∧
    (let rated := rating s.policy 0
     rated * 400 / 100 < min (rated * 600 / 100) 65535 ∧ rated * 600 / 100 ≤ min (rated * 600 / 100) 65535 ∧
       rated * 400 / 100 < rated * 600 / 100 - 1 ∧ rated * 400 / 100 ≤ rated * 400 / 100) ∧
    ((chan 4 u).state = .tripped ∧ (chan 4 u).retryDue = some 9 ∧ (chan 4 u).target = 0) ∧
    (chan 4 (withChan 4 { state := .tripped, target := 1, retryDue := some 9 } r0)).target ≠ 0 := by decide +kernel

/-- An overcurrent one above the limit in ON, and a short at 600 % in a second STARTING; with the fridge's CH3 as well. -/
theorem witness_OtherTripsLockAndSuspend :
    let on := withChan 9 { state := .on, target := 255 } r0
    let again := withChan 3 { state := .starting, target := 255, tripCount := 1 } r0
    (Running on ∧ (chan 9 on).state = .on ∧ on.fu.record = none ∧ isSuspended (channelLoad 9) on = false ∧
      rating on.policy 9 * 150 / 100 < min 4501 65535 ∧ min 4501 65535 < rating on.policy 9 * 600 / 100) ∧
    ((chan 3 again).state = .starting ∧ (chan 3 again).tripCount ≠ 0 ∧ isSuspended (channelLoad 3) again = false ∧
      rating again.policy 3 * 600 / 100 ≤ min 27000 65535) := by decide +kernel

theorem witness_OpenLoadFadeAndPulse :
    let s (low : Option Nat) : State :=
      withChan 4 { state := .on, target := 255, output := 254 }
        (withChan 2 { state := .on, target := 40, output := 40, lowSince := low } r0)
    (Running (s none) ∧ (chan 4 (s none)).state = .on ∧ (chan 4 (s none)).target ≠ 0 ∧ (4 : Fin 12).val ≠ 2 ∧
      29 < rating r0.policy 4 * 2 / 100) ∧
    ((chan 2 (s (some 0))).lowSince = some 0 ∧ 7 < 8 ∧ (chan 2 (s none)).lowSince = none) ∧
    ((4 : Fin 12).val ≤ 7 ∧ 4 ≤ (7 : Fin 12).val ∧ (chan 4 (s none)).output ≠ (chan 4 (s none)).target ∧ 0 < 1) ∧
    (8 ≤ min 8 65535 ∧ ¬8 ≤ min 7 65535 ∧ (chan 2 (s none)).openLoad = false ∧
      (chan 2 (s (some 0))).pulseAt = none ∧ 0 + 39 * 2000000 ≤ 39 * { s (some 0) with tu.clock := 2000000 }.tu.clock ∧
      39 * { s (some 0) with tu.clock := 1999999 }.tu.clock < 0 + 39 * 2000000 ∧ (chan 2 (s none)).target ≠ 0) := by
  decide +kernel

/-- At 90 pulses a minute the third pulse after the first low one is 2 s after it, and CH2's detector fires there; at 65 a
minute it fires at the third as well, 2.769 s after it, and not at the second. -/
theorem test_pump_pulse_two_seconds_after :
    let s (rate pulses : Nat) : State :=
      withChan 2 { state := .on, target := rate, output := rate, lowSince := some 0, pulseAt := some (pulses * 2340000000 / rate) } r0
    let fires (rate pulses : Nat) := after (fun t => ((chan 2 t).openLoad, t.tu.clock)) (exec (.fuelPumpPulse 7) (s rate pulses))
    [fires 90 1, fires 90 2, fires 65 1, fires 65 2] =
      [some (false, 1333334), some (true, 2000000), some (false, 1846154), some (true, 2769231)] := by decide +kernel

theorem witness_WiringCheckRuns :
    let may (s : State) : Bool :=
      s.ca.chans.toList.all (fun c => c.state == .off) && (s.hs.phase == .off || s.hs.phase == .lockout) &&
        !s.hs.purgeOwed && s.cs.run.isNone
    (Serving .v v0 ∧ may v0 = true ∧ may { v0 with hs.purgeOwed := true } = false ∧
      may (withChan 11 { state := .locked } v0) = false ∧ may { v0 with cs.run := some .slot } = false) ∧
    (Running (checking 10 r0) ∧ (checking 10 r0).ca.check.map (·.underTest) = some 10 ∧
      (checking 11 r0).ca.check.map (fun c => c.underTest.val) = some 11) ∧
    (8000 * 400 / 100 < 32001 ∧ 47999 < 8000 * 600 / 100 ∧ 65535 ≤ 65535 ∧ 399 < 8000 * 5 / 100 ∧
      12000 ≤ 8000 * 150 / 100 ∧ ¬12001 ≤ 8000 * 150 / 100) := by decide +kernel

theorem witness_ClearChannelReturnsChannel :
    let l (n : Fin 12) : State := withChan n { state := .locked } v0
    Serving .v (l 9) ∧ 12 ≤ (12#8 : Byte).toNat ∧ (11#8 : Byte).toNat = (11 : Fin 12).val ∧
    ((chan 9 v0).state ≠ .locked ∧ (chan 9 (l 9)).state = .locked ∧
      (capturing (.channel 9) (l 9)).fu.record.map (·.report.source) = some (.channel 9)) ∧
    (suspensionOf (channelLoad 9) (l 9) = none ∧
      (suspensionOf (channelLoad 9) (suspending .outlet1 false (l 9))).map (·.tied) = some false) ∧
    (let s := { l 1 with hs.phase := .lockout, hs.lockout := some .ch1, hs.purgeOwed := true }
     ((1 : Fin 12) == 1 && s.hs.phase == .lockout && s.hs.lockout.isSome && s.hs.purgeOwed) = true ∧
       s.fu.record = none) ∧
    (suspensionOf (channelLoad 9) (suspending .outlet1 false (l 9))).map (fun e => (e.tied, e.restartable)) =
      some (false, true) := by decide +kernel

/-- The lamp SUSPENDED, alone in a table where its 944 mAh fit, where 800 do, and where nothing does. -/
theorem witness_ClearChannelReturnsChannel_readmit :
    let g : Grant := { lamp with state := .suspended }
    let live : Grant := { g with state := .active }
    let s (q : Nat) : State := tableOf [g] { r0 with policy.p02 := 0, cm.tb := 25, cm.q := q }
    let total (q : Nat) (v : Level) : Nat := demandOf (s q) (horizon (s q)) (putAt { live with eff := v } (s q).au.table)
    shedClass .heater .purge = 0 ∧ shedClass g.load g.purpose ≠ 0 ∧ inHold (onHold (s 0)) = true ∧ inHold (s 0) = false ∧
    (s 0).au.surplus = false ∧ (total 944 live.eff : Int) ≤ freeCharge (s 944) ∧
    ¬(total 943 live.eff : Int) ≤ freeCharge (s 943) ∧ lesser .zoneLower ⟨40, 0, 0⟩ 34 = some ⟨34, 0, 0⟩ ∧
    (total 800 ⟨34, 0, 0⟩ : Int) ≤ freeCharge (s 800) ∧
    (∀ j : Nat, 34 < j → ∀ w, lesser .zoneLower ⟨40, 0, 0⟩ j = some w → ¬(total 800 w : Int) ≤ freeCharge (s 800)) ∧
    (∀ j : Nat, ∀ w, lesser .zoneLower ⟨40, 0, 0⟩ j = some w → ¬(total 611 w : Int) ≤ freeCharge (s 611)) := by
  intro g live s total
  refine ⟨by decide +kernel, by decide +kernel, by decide +kernel, by decide +kernel, by decide +kernel,
    by decide +kernel, by decide +kernel, by decide +kernel, by decide +kernel, fun j hj w hw => ?_, fun j w hw => ?_⟩
  · obtain ⟨-, h, rfl⟩ := lesser_lamp hw
    have : ∀ j < 40, 34 < j → ¬(total 800 ⟨j, 0, 0⟩ : Int) ≤ freeCharge (s 800) := by decide +kernel
    exact this j h hj
  · obtain ⟨hl, h, rfl⟩ := lesser_lamp hw
    have : ∀ j < 40, 26 ≤ j → ¬(total 611 ⟨j, 0, 0⟩ : Int) ≤ freeCharge (s 611) := by decide +kernel
    exact this j h hl

theorem witness_PreheatAndIgnitionExpire :
    (let s := { r0 with hs.phase := .preheat, hs.preheatDue := some 40000000 }
     Running s ∧ s.hs.phase = .preheat ∧ s.hs.preheatDue = some 40000000) ∧
    (let s := { r0 with hs.phase := .ignite, hs.ignitionDue := some 90000000, hs.purgeOwed := true }
     Running s ∧ s.hs.phase = .ignite ∧ s.hs.ignitionDue = some 90000000 ∧ s.hs.attempts = 0 ∧
       { s with hs.attempts := 1 }.hs.attempts ≠ 0 ∧ s.fu.record = none ∧ s.hs.pending = none ∧
       after (fun t => decide (mergedHeat t = s.hs.merged)) (exec .ignitionTimerExpiry s) = some true) := by decide +kernel

/-- A heater running at stage 1 under its grant, with the cabin at 22 °C and the setpoint at 20. -/
def running : State :=
  { r0 with
    hs.phase := .run, hs.purgeOwed := true, hs.activation := true, hs.merged := some ⟨20, 4⟩, hs.stage := some 1
    hs.tc := some 22, hs.regulationDue := some 30, hs.provenDue := some 180, hs.satisfiedDue := some 300
    hs.flameOutDue := some 10
    au.table := [grantAt 0 .heater .comfort .active ⟨0, 20, 4⟩] }

/-- Errors of 4, 2, 1 and 0 °C choose stages 4, 3, 2 and 1. -/
theorem witness_RunTimersAct :
    (Running running ∧ running.hs.phase = .run ∧ running.hs.regulationDue = some 30 ∧ running.hs.provenDue = some 180 ∧
      running.hs.satisfiedDue = some 300 ∧ running.hs.flameOutDue = some 10) ∧
    [16, 18, 19, 20].map (fun t => after (fun s => s.hs.stage)
      (exec .regulationTimerExpiry { running with hs.tc := some t })) =
      [some (some 4), some (some 3), some (some 2), some (some 1)] ∧
    (mergedHeat running = running.hs.merged ∧ running.hs.pending = none) ∧
    after (fun t => decide (mergedHeat t = running.hs.merged)) (exec .flameOut running) = some true ∧
    (running.hs.flameOuts = 0 ∧ { running with hs.flameOuts := 1 }.hs.flameOuts ≠ 0 ∧ running.fu.record = none) := by
  decide +kernel

theorem witness_CabinResultsJudged :
    let standby := { running with hs.phase := .standby, hs.purgeOwed := false }
    (Running r0 ∧ r0.hs.cabin.failed = false ∧ { r0 with hs.cabin := ⟨true, 0, 2⟩ }.hs.cabin.goodCount = 2) ∧
    (1 ≤ { r0 with policy.p40 := 1 }.policy.p40 ∧ { r0 with policy.p40 := 3 }.policy.p40 ≤ 3 ∧ r0.hs.phase ≠ .standby ∧
      r0.policy.p40 = 0) ∧
    (standby.hs.phase = .standby ∧ standby.hs.merged.map (·.setpoint) = some 20 ∧ max (-40) (min 85 19) ≤ (20 : Int) - 1 ∧
      standby.cs.enable = false) ∧
    (let s := { r0 with hs.cabin := ⟨false, 2, 0⟩ }
     s.hs.cabin.failed = false ∧ 2 ≤ s.hs.cabin.badCount ∧ s.fu.record = none) := by decide +kernel

theorem witness_FlameResultsJudged :
    let ignite := { r0 with hs.phase := .ignite, hs.entryTemp := -9 }
    (Running r0 ∧ r0.hs.flame.failed = false ∧ { r0 with hs.flame := ⟨true, 0, 2⟩ }.hs.flame.goodCount = 2) ∧
    (max (-40) (min 400 249) < (250 : Int) ∧ 250 ≤ max (-40) (min 400 (250 : Int)) ∧ r0.hs.phase ≠ .ignite) ∧
    (ignite.hs.phase = .ignite ∧ ignite.hs.entryTemp + 15 ≤ 6 ∧ 5 < ignite.hs.entryTemp + 15) ∧
    (r0.hs.flameHot = false ∧ r0.fu.record = none ∧ r0.hs.phase = .off ∧ running.hs.phase = .run ∧
      running.hs.flameHot = false ∧ running.fu.record = none) := by decide +kernel

/-- One phase for each clause. -/
theorem witness_FlameSensorFailureActsByPhase :
    let bad (p : HeaterPhase) : State := { r0 with hs.phase := p, hs.flame := ⟨false, 2, 0⟩ }
    ([HeaterPhase.preheat, .ignite, .run, .purge, .off, .standby, .lockout].all (fun p =>
      (bad p).hs.phase == p && !(bad p).hs.flame.failed && decide (2 ≤ (bad p).hs.flame.badCount))) = true ∧
    Running (bad .run) ∧ (bad .purge).hs.pending = none ∧ (bad .run).fu.record = none ∧
    (let s := { r0 with hs.phase := .lockout, hs.flame := ⟨true, 0, 2⟩ }
     s.hs.flame.failed = true ∧ 2 ≤ s.hs.flame.goodCount ∧ s.hs.phase = .lockout) := by decide

/-- A purge under an unchanged merged grant, one with lockout pending, and one towards STANDBY with Tc present. -/
def purging (f : FollowOn) : State :=
  { running with hs.phase := .purge, hs.stage := none, hs.purge := some ⟨true, 0, 0, 180000000, some 30000000, f⟩ }

/-- The overheat in a FULL and in a SHORT purge, before and at 30 s of it, and in LOCKOUT; an OPEN result in RUN. -/
theorem witness_FlameResultsJudged_purge :
    let short (clock : Nat) : State := { purging .off with
      tu.clock := clock, hs.purge := some ⟨false, 0, 0, 20000000, none, .off⟩ }
    ((purging .off).hs.phase = .purge ∧ (purging .off).hs.purge.map (·.full) = some true ∧
      (short 0).hs.purge.map (·.full) = some false ∧ (short 0).hs.flameHot = false ∧ (short 0).fu.record = none) ∧
    max (short 29999999).tu.clock (short 0).hs.flameDue < 0 + 30000000 ∧
    ¬max (short 30000000).tu.clock (short 0).hs.flameDue < 0 + 30000000 ∧
    { r0 with hs.phase := .lockout }.hs.phase = .lockout ∧
    (running.hs.flame.failed = false ∧ { running with hs.flame := ⟨false, 1, 0⟩ }.hs.flame.badCount < 2 ∧
      { running with hs.tf := some 59 }.hs.tf = some 59) := by decide +kernel

theorem witness_PurgeRunsToFollowOn :
    (Running (purging .off) ∧ (purging .off).hs.purge.bind (·.glowDue) = some 30000000) ∧
    ((purging .off).hs.phase = .purge ∧ (purging .off).hs.purge.isSome = true) ∧
    ({ purging .lockout with hs.pending := some .sensor }.hs.pending = some .sensor) ∧
    ((purging .standby).hs.pending = none ∧
      mergedHeat (dropGrant .heater .purge (purging .standby)) = (purging .standby).hs.merged) ∧
    ([FollowOn.off, .preheat, .standby].all (fun f => (purging f).hs.purge.map (·.followOn) == some f)) = true ∧
    ((purging .standby).hs.cabin.failed = false ∧
      { purging .standby with hs.cabin := ⟨true, 3, 0⟩ }.hs.cabin.failed = true) := by decide +kernel

/-- In STANDBY at 19 °C under a setpoint of 20, a change of the maximum stage alone changes nothing, and a change of the
setpoint from 19 restarts the heater (R82). -/
theorem test_standby_restarts_at_a_change_of_setpoint :
    let s (old : MergedHeat) : State := tableOf [grantAt 0 .heater .comfort .active ⟨0, 20, 3⟩]
      { r0 with hs.phase := .standby, hs.merged := some old, hs.tc := some 19 }
    (mergeHeater (s ⟨20, 2⟩)).hs.phase = .standby ∧ (mergeHeater (s ⟨20, 2⟩)).hs.merged = some ⟨20, 3⟩ ∧
    (mergeHeater (s ⟨19, 3⟩)).hs.phase = .preheat := by decide +kernel

theorem witness_ClearLockoutTaken :
    let s := { v0 with hs.phase := .lockout, hs.lockout := some .overheat }
    (Serving .v s ∧ v0.hs.lockout.isNone = true ∧
      (capturing .heater s).fu.record.map (fun c => isHeaterSource c.report.source) =
        some true) ∧
    (let t := withChan 1 { state := .locked } { s with hs.purgeOwed := true }
     (t.hs.purgeOwed && (chan 1 t).state == .locked) = true) ∧
    (s.hs.lockout.isNone = false ∧ s.fu.record = none ∧ s.hs.phase = .lockout ∧ suspensionOf .heater s = none ∧
      s.hs.purgeOwed = false ∧ s.hs.flame.failed = false) ∧
    ({ s with hs.purgeOwed := true }.hs.purgeOwed = true ∧
      ({ s with hs.purgeOwed := true }.hs.purgeOwed && (chan 1 s).state == .locked) = false) ∧
    ({ s with hs.flame := ⟨true, 3, 0⟩ }.hs.flame.failed = true) := by decide +kernel

/-- Locked out with an untied heater suspension, of this restartable flag, and a SUSPENDED COMFORT entry. -/
def lockedOut (phase : HeaterPhase) (restartable : Bool) (source : FaultSource) : State :=
  tableOf [grantAt 0 .heater .comfort .suspended ⟨0, 20, 2⟩] { rich v0 with
    hs.phase := phase, hs.lockout := some .overheat
    hs.purge := if phase = .purge then some ⟨true, 0, 0, 180000000, none, .lockout⟩ else none
    fu.susp := [⟨.heater, restartable, false, source, .overheat⟩] }

theorem witness_ClearLockoutTaken_released :
    let s := lockedOut .lockout
    (TableSound (s true .heater) ∧ Serving .v (s true .heater) ∧ (s true .heater).fu.record = none ∧
      (s true .heater).hs.merged = mergedHeat (s true .heater)) ∧
    (lockedOut .purge true (.channel 0)).hs.phase = .purge ∧
    [s true .heater, s false .flameTemp, s true (.channel 0), lockedOut .purge true .heater].map (fun x =>
        after (fun t => (t.hs.phase, t.fu.susp.length, t.au.table.map (·.state))) (exec (.clearLockout .v) x)) =
      [some (.preheat, 0, [.active]), some (.off, 0, []), some (.off, 1, [.suspended]), some (.purge, 0, [.active])] := by
  unfold TableSound; decide +kernel

/-- The fridge enabled, with its COOLING entry in this state and the credit c. -/
def fridge (c : Int) (st : GrantState) (s : State) : State :=
  tableOf [{ grantAt 0 .fridge .cooling st {} with requester := .internal }]
    { s with cs.enable := true, cs.c := c, cs.minOffDue := none }

theorem witness_FridgeSetEnablesAndDisables :
    Serving .v v0 ∧ Serving .b b0 ∧ v0.cs.enable = false ∧ v0.cs.slotPending = false ∧
    (let s := { fridge 3 .active v0 with cs.run := some .pullIn }; s.cs.enable = true ∧ s.cs.run.isSome = true) := by
  decide

/-- Each decision at the ends of its range of c, and the times about the due of 1,800. -/
theorem witness_SlotDueDecidedInOrder :
    let s (c : Int) : State := { fridge c .active r0 with tu.rtc := 1800 }
    let wanted (s : State) : Bool := s.cs.deficit || s.ca.check.isSome || inHold s || coolingSuspended s ||
      ((s.rm.quiet.lower || s.rm.quiet.upper) && decide (-(s.policy.p46 : Int) < s.cs.c))
    let reached (s : State) : Bool := s.cs.enable && atOrAfter (now s) s.cs.nextDue
    (Running (s 1) ∧ reached (s 1) = true ∧ reached { s 1 with tu.rtc := 1799 } = false ∧ reached r0 = false) ∧
    (0 < (s 1).cs.c ∧ (s 0).cs.c ≤ 0 ∧ { s 0 with cs.slotPending := true }.cs.slotPending = true ∧
      -8 < (s (-7)).cs.c) ∧
    (wanted { s (-7) with cs.deficit := true } = true ∧ wanted (s (-7)) = false ∧ wanted (s 0) = false ∧
      (s 0).cs.slotPending = false) ∧
    ((s (-8)).cs.c = -8 ∧ coolingSuspended (s (-8)) = false ∧
      coolingSuspended { fridge (-8) .suspended r0 with tu.rtc := 1800 } = true ∧
      (checking 0 (s (-8))).ca.check.isSome = true) := by decide +kernel

theorem witness_CompressorRuns :
    let s (c : Int) : State := fridge c .active r0
    let may (s : State) : Bool :=
      s.cs.enable && coolingActive s && s.cs.run.isNone && s.cs.minOffDue.isNone && s.ca.check.isNone
    let hot (s : State) : Bool := s.cs.tk.isSome && s.cs.hot
    (Running (s 0) ∧ may (s 0) = true ∧ may (fridge 0 .suspended r0) = false ∧ may r0 = false) ∧
    ({ s 0 with cs.slotPending := true }.cs.slotPending = true ∧ (s 0).cs.slotPending = false ∧
      hot { s 0 with cs.tk := some 8, cs.hot := true } = true ∧ hot { s 0 with cs.tk := some 7 } = false) ∧
    (postponeWanted (s (-1)) = false ∧ (s (-1)).cs.c < 0 ∧ 0 ≤ (s 0).cs.c ∧ (s 7).cs.c < 8 ∧ 8 ≤ (s 8).cs.c ∧
      { s 7 with cs.surplus := true }.cs.surplus = true ∧ (s 0).cs.surplus = false ∧
      postponeWanted { s 0 with cs.deficit := true } = true) ∧
    (let r := { s 7 with cs.run := some .override_, cs.runDue := some 480000000 }
     r.cs.run = some .override_ ∧ r.cs.runDue = some 480000000 ∧ hot { r with cs.tk := some 8, cs.hot := true } = true ∧ hot r = false ∧
       RunKind.slot ≠ .override_) ∧
    r0.cs.minOffDue = some 180000000 := by decide +kernel

def withRecords (rs : Vector (Option Identity) 4) (s : State) : State := { s with rm.recs := rs }

/-- Two drivers on duty, in records 0 and 2. -/
def crew (s : State) : State :=
  withRecords #v[some (recordOf 7 (some .driver) .rest), none, some (recordOf 9 (some .coDriver) .drive), none] s

/-- Record 0 rests in the lower bunk, to be woken at 86,400. -/
def resting (snoozes : Nat) (s : State) : State :=
  { crew s with rm.rests := ⟨some ⟨0, 0, some 86400, true, snoozes, .wanted⟩, none⟩, rm.quiet := ⟨true, true⟩ }

/-- Segments at the very ends of the break and rest lengths, and one second before. -/
theorem witness_AccumulationByEffectiveClass :
    let at_ (b r : Nat) : Identity := { recordOf 7 (some .driver) .rest with breakSeg := b, restSeg := r }
    let u (b r : Nat) : Identity := (accumulated {} false 1 (at_ b r)).1
    (Running r0 ∧ (recordOf 7 none .drive).activity = .drive) ∧
    ((at_ 0 0).breakQualified = false ∧ (u 2699 0).breakQualified = true ∧ (u 2698 0).breakQualified = false ∧
      (accumulated {} false 1 { at_ 1799 0 with firstPart := true }).1.breakQualified = true) ∧
    ((at_ 0 0).restRegular = false ∧ (u 0 39599).restRegular = true ∧ (u 0 39598).restRegular = false ∧
      (at_ 0 0).restWeekly = false ∧ (u 0 161999).restWeekly = true ∧ (u 0 161998).restWeekly = false) ∧
    (let kept (r : Identity) := let v := (accumulated {} false 1 r).1; (v.continuous, v.daily, v.firstPart, v.lastRestEnd)
     kept { at_ 9 9 with continuous := 5, daily := 6, firstPart := true } = (5, 6, true, none) ∧
     kept { at_ 2700 39600 with breakQualified := true, restRegular := true, continuous := 5, daily := 6, firstPart := true } =
       (5, 6, true, some 1)) := by decide +kernel

/-- An accumulation of ACCOUNT_READ that makes the rest a regular one ends its short-rest warning, and with it the flash. -/
theorem test_account_read_ends_a_flash :
    let r : Identity := { recordOf 7 (some .driver) .rest with restSeg := 39599, shortRest := some (false, .bunk .lower) }
    let s : State := tableOf [grantAt 0 .zoneLower .warning .active {}, grantAt 1 .vent .comfort .active ⟨40, 0, 0⟩]
      { b0 with
        tu.rtc := 1, rm.recs := #v[some r, none, none, none]
        wu.list := [⟨.restShort, .bunk .lower, 0, .alert, false, none, 0⟩] }
    after (fun t => (t.au.table.map (·.load), t.wu.list.length)) (exec (.accountRead .b (.index 0)) s) =
      some ([.vent], 0) := by decide +kernel

theorem witness_AccountReadAndQuietHoursEnd :
    Serving .v (crew v0) ∧ Serving .b (resting 0 b0) ∧
    ((record 1 (crew v0)).isSome = false ∧ (record 2 (crew v0)).isSome = true ∧ slotHolder .coDriver (crew v0) = some 2 ∧
      slotHolder .driver v0 = none ∧ ((resting 0 b0).rm.rests.get .lower).map (·.record) = some 0 ∧
      (resting 0 b0).rm.rests.get .upper = none) ∧
    (Running (resting 0 r0) ∧ (resting 0 r0).rm.quiet.get .lower = true ∧ quietNow .lower (resting 0 r0) = true ∧
      quietNow .upper (resting 0 r0) = false ∧ r0.rm.quiet.get .lower = false) := by decide +kernel

/-- A lamp of the cab under a limit of 40 in quiet hours, one whose limit of 20 has gone, and what the raise may reach:
46 levels fit 1,084 mAh, 47 need 1,108. -/
theorem witness_AccountReadAndQuietHoursEnd_caps :
    let quiet : State := tableOf [{ lamp with req := ⟨200, 0, 0⟩ }] { resting 0 r0 with tu.rtc := 84600 }
    let freed (st : GrantState) : Grant := { lamp with req := ⟨200, 0, 0⟩, quietLimit := some 20, state := st }
    let s (st : GrantState) : State := tableOf [freed st] { r0 with policy.p02 := 0, cm.tb := 25, cm.q := 1100 }
    let demandAt (k : Nat) : Int := (demandOf (s .active) 240 (s .active).au.table : Int) -
      projection (s .active) 240 (freed .active) + projection (s .active) 240 { freed .active with eff.level := k }
    (TableSound quiet ∧ quiet.rm.quiet.get .lower = true ∧ quietNow .lower quiet = false) ∧
    (TableSound (s .shed) ∧ (s .shed).au.surplus = false ∧ (s .shed).rm.quiet.lower = false ∧
      findGrant lamp.load lamp.purpose (s .active) = some (freed .active)) ∧
    (raisedLevel (s .active) (freed .active) = ⟨46, 0, 0⟩ ∧ demandAt 46 ≤ freeCharge (s .active) ∧
      freeCharge (s .active) < demandAt 47) ∧
    ((applyCaps quiet).au.table.map (fun g => (g.eff.level, g.quietLimit)) = [(40, some 40)] ∧
      (applyCaps (s .shed)).au.table.map (fun g => (g.eff.level, g.quietLimit)) = [(200, none)]) := by
  unfold TableSound; decide +kernel

/-- A known key, a free record, a loose record, and four bound ones. -/
theorem witness_CardBindsRecord :
    let full (slot : Option DriverSlot) : State := withRecords
      #v[some (recordOf 1 (some .driver) .rest), some (recordOf 2 (some .coDriver) .rest),
        some (recordOf 3 none .rest), some (recordOf 4 slot .rest)]
      { v0 with rm.rests := ⟨some ⟨2, 0, none, false, 0, .notWanted⟩, some ⟨3, 0, none, false, 0, .notWanted⟩⟩ }
    (Serving .v (full none) ∧ (7#16 : DriverKey) ≠ 0#16 ∧
      (full none).rm.recs.toList.any (fun r => match r with | some x => x.key == 7#16 | none => false) = false ∧
      (full none).rm.recs.toList.any (·.isNone) = false ∧
      ([0, 1, 2, 3] : List (Fin 4)).any (fun i => match record i (full none) with
        | some x => x.slot.isNone && (full none).rm.rests.lower.map (·.record) != some i &&
            (full none).rm.rests.upper.map (·.record) != some i
        | none => false) = false) ∧
    ((crew v0).rm.recs.toList.any (·.isNone) = true ∧
      (crew v0).rm.recs.toList.any (fun r => match r with | some x => x.key == 9#16 | none => false) = true) ∧
    (slotHolder .driver v0 = none ∧ slotHolder .driver (crew v0) = some 0) := by decide +kernel

theorem witness_CardBindsRecord_distinct : RecordsDistinct (crew v0) :=
  recordsDistinct_of (by decide) (by decide)

/-- The known key 9 in record 2, the free record 1, and of the loose records 1, 2 and 3 the older one of lower index. -/
theorem witness_CardBindsRecord_choice :
    let old (key : DriverKey) (t : RtcTime) : Identity := { recordOf key none .rest with lastActivity := t }
    let s := withRecords #v[some (recordOf 1 (some .driver) .rest), some (old 2 6), some (old 3 5), some (old 4 5)] v0
    let older (i j : Fin 4) : Bool := match record i s, record j s with
      | some x, some y => !atOrAfter x.lastActivity y.lastActivity
      | _, _ => false
    ((record 2 (crew v0)).map (·.key) = some 9 ∧ record 1 (crew v0) = none ∧
      ∀ j : Fin 4, j < 1 → record j (crew v0) ≠ none) ∧
    (RecordsDistinct s ∧ (older 2 1 = true ∧ older 3 2 = false) ∧ s.rm.rests = ⟨none, none⟩ ∧
      [1, 2, 3].map (fun i : Fin 4 => (record i s).map (·.slot)) = [some none, some none, some none]) ∧
    answerV (exec (.card .v .driver 9) (crew v0)) = some (.ok, [2]) ∧
    answerV (exec (.card .v .driver 5) (crew v0)) = some (.ok, [1]) ∧
    answerV (exec (.card .v .driver 5) s) = some (.ok, [2]) :=
  ⟨by decide +kernel, ⟨recordsDistinct_of (by decide +kernel) (by decide +kernel), by decide +kernel⟩, by decide +kernel⟩

theorem witness_ActivityMotionAndSwap :
    let s := crew (resting 0 v0)
    Serving .v s ∧ slotHolder .driver v0 = none ∧ slotHolder .driver s = some 0 ∧
    (record 0 s).map (·.activity) = some .rest ∧ Activity.drive ≠ .rest ∧ boundBunk 0 s = some .lower ∧
    s.rm.recs.toList.any (fun r => match r with | some x => x.slot.isSome | none => false) = true ∧
    v0.rm.recs.toList.any (fun r => match r with | some x => x.slot.isSome | none => false) = false := by decide +kernel

/-- Record 0 leaves REST for WORK with its rest segment at the ends of R125's lengths: regular, reduced, short, broken in the
bunk, and one second too short. -/
theorem witness_ActivityMotionAndSwap_judged :
    let s (seg used : Nat) (regular bunk : Bool) : State :=
      { (if bunk then resting 0 v0 else crew v0) with
        rm.recs := #v[some { recordOf 7 (some .driver) .rest with
          restSeg := seg, restRegular := regular, reducedUsed := used, breakSeg := 900 }, none, none, none] }
    let left (x : State) := (after (record 0) (exec (.activity .v .driver .work) x)).join
    let cases := [left (s 39600 0 true false), left (s 32400 2 false false), left (s 32400 3 false true),
      left (s 2700 0 false true), left (s 2700 0 false false), left (s 2699 0 false false)]
    (slotHolder .driver (s 0 0 false false) = some 0 ∧ Activity.work ≠ .rest) ∧
    cases.map (fun r => r.bind (·.shortRest)) =
      [none, none, some (false, .bunk .lower), some (true, .bunk .lower), some (false, .record), none] ∧
    cases.map (fun r => r.map (·.reducedUsed)) = [some 0, some 3, some 3, some 0, some 0, some 0] ∧
    cases.map (fun r => r.map (·.firstPart)) = [some true, some false, some true, some true, some true, some true] := by
  decide +kernel

theorem witness_BunkRestLifecycle :
    (Serving .b b0 ∧ slotHolder .driver b0 = none) ∧
    (let s := crew b0
     slotHolder .driver s = some 0 ∧ atOrAfter (now s) 0 = true ∧ atOrAfter (now s) 1 = false ∧
       s.rm.rests.get .lower = none ∧ (s.rm.rests.get .upper).map (·.record) ≠ some 0 ∧
       atOrAfter (now s + 86400#32) 86400 = true ∧ atOrAfter (now s + 86400#32) 86401 = false) ∧
    (let s := resting 0 b0
     slotHolder .driver s = some 0 ∧ slotHolder .coDriver s = some 2 ∧
       ((s.rm.rests.get .lower).map (·.record) == some 0 && (s.rm.rests.get .upper).map (·.record) != some 0) = true ∧
       (s.rm.rests.get .lower).map (·.record) ≠ some 2 ∧ (s.rm.rests.get .lower).isSome = true ∧
       (s.rm.rests.get .upper) = none) ∧
    (((resting 2 b0).rm.rests.get .lower).map (fun r => if r.snoozes < 3 then r.plannedEnd else none) = some (some 86400) ∧
      ((resting 3 b0).rm.rests.get .lower).map (fun r => if r.snoozes < 3 then r.plannedEnd else none) = some none) ∧
    (Running { resting 0 r0 with tu.rtc := 88200 } ∧ atOrAfter 88200 ((86400 : RtcTime) + 1800#32) = true ∧
      atOrAfter 88199 ((86400 : RtcTime) + 1800#32) = false) := by decide +kernel

/-- The pre-warm of the lower rest, due from 84,600 to 87,300: wanted, placed, passed, refused, and with no candidate. -/
def prewarming (state : PrewarmState) (t : RtcTime) (entry : List Grant) (s : State) : State :=
  tableOf entry { rich s with
    tu.rtc := t, rm.rests := ⟨some ⟨0, 0, some 86400, true, 0, state⟩, none⟩ }

theorem witness_BunkRestLifecycle_prewarm :
    let entry (st : GrantState) : Grant :=
      { grantAt 0 .heater .schedule st ⟨0, 20, 2⟩ with start := some 84600, endTime := some 87300 }
    let cases := ([prewarming .wanted 0 [] r0, prewarming .wanted 84600 [] r0, prewarming .placed 0 [entry .waiting] r0,
      prewarming .wanted 87300 [] r0, prewarming .wanted 0 [] (onHold r0), prewarming .notWanted 0 [entry .waiting] r0,
      prewarming .notWanted 0 [entry .active] r0].map reconcilePrewarm)
    cases.map (fun t => t.rm.rests.lower.map (·.prewarmState)) =
      [some .placed, some .placed, some .placed, some .done, some .refused, some .notWanted, some .notWanted] ∧
    cases.map (fun t => t.au.table.map (fun g => (g.state, g.start))) =
      [[(.waiting, some 84600)], [(.active, some 84600)], [(.waiting, some 84600)], [], [], [], [(.active, some 84600)]] ∧
    cases.map (·.rm.holder) = [some .lower, some .lower, some .lower, some .lower, some .lower, none, none] ∧
    (leavePrewarm .lower { prewarming .placed 0 [entry .waiting] r0 with rm.entryRest := some ⟨.lower, false⟩ }).au.table = [] ∧
    (leavePrewarm .lower { prewarming .placed 0 [entry .active] r0 with rm.entryRest := some ⟨.lower, false⟩ }).rm.entryRest =
      some ⟨.lower, true⟩ ∧
    after (fun t => (findGrant .heater .schedule t).map (·.state)) (exec (.bunkWake .b .lower)
      { prewarming .placed 0 [entry .active] b0 with rm.entryRest := some ⟨.lower, false⟩ }) = some (some .active) ∧
    Running r0 := by decide +kernel

def warned (kind : WarnKind) (target : WarnTarget) (level : WarnLevel) (acked : Bool) (s : State) : State :=
  { s with wu.list := [⟨kind, target, 0, level, acked, none, 0⟩] }

theorem witness_WarningsAckEscalateAndWake :
    (Serving .v v0 ∧ Serving .b b0 ∧ findWarning .reserveLow .cab v0 = none) ∧
    ((findWarning .reserveLow .cab (warned .reserveLow .cab .notice true v0)).map (·.acked) = some true ∧
      (findWarning .reserveLow .cab (warned .reserveLow .cab .notice false v0)).map (·.acked) = some false) ∧
    (let s := warned .wake (.bunk .lower) .notice false (resting 0 b0)
     (findWarning .wake (.bunk .lower) s).map (·.acked) = some false ∧ (s.rm.rests.get .lower).isSome = true) ∧
    (let s := warned .restShort (.bunk .upper) .notice false r0
     Running s ∧ (findWarning .restShort (.bunk .upper) s).map (fun w => (w.acked, w.level)) = some (false, .notice) ∧
       findWarning .restShort .cab s = none) ∧
    (let s (t : RtcTime) : State := { resting 0 r0 with tu.rtc := t }
     Running (s 86100) ∧ atOrAfter 86100 ((86400 : RtcTime) - BitVec.ofNat 32 (60 * r0.policy.p61)) = true ∧
       atOrAfter 86099 ((86400 : RtcTime) - BitVec.ofNat 32 (60 * r0.policy.p61)) = false ∧
       findWarning .wake (.bunk .lower) (s 86100) = none ∧ atOrAfter (now (s 86400)) 86400 = true ∧
       (findWarning .wake (.bunk .lower) (warned .wake (.bunk .lower) .notice false (s 86400))).isSome = true) := by
  decide +kernel

theorem witness_FlashSunriseAndChime :
    (let s (on : Bool) : State := { tableOf [grantAt 0 .zoneLower .warning .active {}] r0 with
       wu.flash := ⟨{ cycle := some (on, 1000000) }, {}⟩ }
     Running (s true) ∧ ((s true).wu.flash.get .lower).cycle = some (true, 1000000) ∧
       ((s false).wu.flash.get .lower).cycle = some (false, 1000000) ∧
       (findGrant (bunkZone .lower) .warning (s true)).map (·.state) = some .active ∧
       hasSuspended (bunkZone .lower) (s true) = false) ∧
    (let s := tableOf [{ grantAt 0 .zoneUpper .schedule .active ⟨160, 0, 0⟩ with
       start := some 0, endTime := some 2400 }] r0
     (findGrant (bunkZone .upper) .schedule s).map (fun g => (g.state, g.start, g.endTime)) =
       some (.active, some 0, some 2400) ∧ timeDiff (2400 - 1200#32) 0 = 1200) ∧
    (chimeChoice r0 = none ∧ (chimeChoice (warned .cabinetWarm .cab .alert false r0)).isSome = true ∧
      (warned .cabinetWarm .cab .alert false r0).wu.chime = .idle 1000000) ∧
    { r0 with wu.chime := .playing .triad .wake (.bunk .lower) 750000 }.wu.chime =
      .playing .triad .wake (.bunk .lower) 750000 := by decide +kernel

/-- The flash wanted and absent, placed, given up, held back by a suspension and not wanted; the sunrise of a rest planned for
86,400, due from 85,500 to 87,600. -/
theorem witness_FlashSunriseAndChime_placed :
    let alert (s : State) : State := warned .wake (.bunk .lower) .alert false s
    let flash (s : State) := ((reconsiderFlash .lower s).au.table.map (·.state), (reconsiderFlash .lower s).wu.flash.lower.cycle)
    let placed : State := tableOf [grantAt 0 .zoneLower .warning .active {}] r0
    let sun (t : RtcTime) (x : Sunrise) (entry : List Grant) (s : State) := (fun u : State =>
      (u.wu.sunrise.lower.state, u.au.table.map (fun g => (g.state, g.start, g.endTime))))
        (reconcileSunrise .lower { prewarming .notWanted t entry s with wu.sunrise := ⟨x, {}⟩ })
    let entry : Grant := { grantAt 0 .zoneLower .schedule .waiting ⟨160, 0, 0⟩ with start := some 85500, endTime := some 87600 }
    [flash (alert r0), flash (alert (suspending .zoneLower true r0)), flash (alert { r0 with wu.flash := ⟨⟨none, true⟩, {}⟩ }),
        flash (alert placed), flash placed, flash r0] =
      [([.active], some (true, 1000000)), ([.suspended], none), ([], none), ([.active], none), ([], none), ([], none)] ∧
    (flashRemoved .lower .nonRestartable (alert r0)).wu.flash.lower.givenUp = true ∧
    (let s := { warned .wake (.bunk .lower) .notice false (resting 0 r0) with tu.rtc := 86400 }
     Running s ∧ (s.rm.rests.get .lower).bind (·.plannedEnd) = some 86400 ∧ atOrAfter (now s) 86400 = true ∧
       (findWarning .wake (.bunk .lower) s).map (fun w => (w.acked, w.level)) = some (false, .notice)) ∧
    [sun 0 {} [] r0, sun 87600 {} [] r0, sun 0 ⟨.withdrawn, some 86400, 0⟩ [] r0, sun 0 {} [] (onHold r0),
        sun 0 ⟨.placed, some 86400, 0⟩ [entry] r0, sun 0 {} [entry] { r0 with policy.p62 := 0 }] =
      [(.placed, [(.waiting, some 85500, some 87600)]), (.done, []), (.withdrawn, []), (.refused, []),
        (.placed, [(.waiting, some 85500, some 87600)]), (.none, [])] := by decide +kernel

/-- A list whose second entry is the first ALERT that wants the chime, one with NOTICE entries alone, and the silence and the
tones at the ends of their times. -/
theorem witness_FlashSunriseAndChime_choice :
    let w (k : WarnKind) (x : WarnTarget) (level : WarnLevel) (played : Option RtcTime) : Warning :=
      ⟨k, x, 0, level, false, played, 0⟩
    let s (l : List Warning) : State := { r0 with tu.rtc := 10, wu.list := l }
    let mixed := [w .cabinetWarm .cab .notice none, w .wake (.bunk .upper) .alert (some 0),
      w .restShort (.bunk .lower) .alert none]
    let notices := [w .breakSoon (.record 0) .notice none, w .reserveLow .cab .notice none]
    let start (l : List Warning) := after (fun t => match t.wu.chime with
      | .playing p k _ due => some (p, k, due) | .idle _ => none) (exec .chimePatternStart (s l))
    let tone (p : ChimePattern) (c : Nat) := chimeTone { r0 with tu.clock := c, wu.chime := .playing p .wake .cab 750000 }
    [start mixed, start notices, start [w .wake (.bunk .upper) .alert (some 1)], start []] =
      [some (some (.triad, .wake, 1750000)), some (some (.triple, .reserveLow, 1750000)), some none, some none] ∧
    [[0, 249999, 250000, 499999, 500000, 749999, 750000].map (tone .triad),
        [0, 150000, 300000, 450000, 600000, 750000].map (tone .triple),
        [150000, 350000, 550000, 750000].map (tone .double), [chimeTone r0]] =
      [[some 2000, some 2000, some 2500, some 2500, some 3100, some 3100, none],
        [some 3300, none, some 3300, none, some 3300, none], [some 2800, none, some 2800, none], [none]] := by decide +kernel

theorem witness_HoldReleaseAndAckFault :
    (Serving .v v0 ∧ (onHold v0).fu.cause3.isSome = true ∧ v0.fu.cause3 = none ∧ inHold v0 = false ∧
      inHold { v0 with fu.cause4 := some 0 } = true) ∧
    (inHold (onHold v0) = true ∧ (onHold v0).fu.record = none ∧
      ((onHold v0).fu.cause2.isSome && (onHold v0).cm.pathLost || (onHold v0).fu.cause4.isSome && (onHold v0).cm.voltageFloor) =
        false ∧
      (let s := { v0 with fu.cause2 := some 0, cm.pathLost := true }
       (s.fu.cause2.isSome && s.cm.pathLost) = true)) ∧
    (let s := suspending .outlet1 true (capturing (.channel 9) (withChan 9 { state := .locked } b0))
     Serving .b s ∧ s.fu.record.map (fun c => (c.report.source, c.time)) = some (.channel 9, 5) ∧
       s.fu.record.map (·.report.restartable) = some true ∧ sourceLoad (.channel 9) = some .outlet1 ∧
       (suspensionOf .outlet1 s).map (·.tied) = some true) ∧
    (suspending .vent true (capturing .charge b0)).fu.susp.map (fun e => decide (sourceLoad .charge ≠ some e.load)) =
      [true] := by decide +kernel

theorem witness_HoldReleaseAndAckFault_table : TableSound (tableOf (twelve.take 11) v0) := by
  unfold TableSound; decide +kernel

/-- A double fault with a load and without one, of a burning heater and in DOZE, and the heater's hold entry. -/
theorem witness_HoldReleaseAndAckFault_double :
    let s := capturing .charge running
    (s.fu.record.isSome = true ∧ inHold s = false ∧ isSuspended .heater s = false ∧ s.hs.phase = .run ∧
      mergedHeat s = s.hs.merged ∧ sourceLoad (.channel 2) = some .heater ∧ sourceLoad .timebase = none ∧
      { s with tu.mode := .doze }.tu.mode = .doze ∧ TableSound s) ∧
    (let b := { capturing .charge r0 with cm.sensor := ⟨false, 2, 0⟩ }
     Running b ∧ b.cm.sensor.failed = false ∧ 2 ≤ b.cm.sensor.badCount) ∧
    (let u := takeFault ⟨.channel 2, .short, 9, .channel .on, false⟩ s
     (u.hs.phase, u.fu.cause1, u.fu.susp.map (fun e => (e.load, e.tied))) = (.purge, some 0, [(.heater, false)])) ∧
    (running.hs.stage = some 1 ∧ { running with hs.stage := some 4 }.hs.stage = some 4 ∧ 1 ≤ running.policy.p36 ∧
      running.hs.merged.map (·.maxStage) = some 4 ∧ r0.hs.phase ≠ .run) := by
  unfold TableSound; decide +kernel

theorem witness_ClockSourceAndTimeSet :
    (r0.tu.source = .crystal ∧ r0.tu.resetHold = none ∧ r0.fu.record = none ∧ held.tu.source = .crystal ∧
      held.tu.resetHold.isSome = true) ∧
    (let s := { r0 with tu.source := .slow, tu.degraded := true, tu.stableDue := some 1000000 }
     Running s ∧ s.tu.source = .slow ∧ s.tu.stableDue = some 1000000) ∧ Serving .v v0 := by decide

theorem witness_DozeEntryAndExit :
    (let s := { r0 with tu.dozeDue := some 10, tu.postExit := true, portV.released := true, portB.released := true }
     Running s ∧ s.tu.dozeDue = some 10 ∧ s.tu.mode = .awake ∧ s.tu.exitDue = none ∧ s.tu.postExit = true ∧
       s.ca.check = none ∧ s.portV.released = true ∧ s.portB.released = true ∧ s.portV.transfer = .none ∧
       s.portB.transfer = .none) ∧
    ({ doze with tu.dozeDue := some 10 }.tu.mode = .doze ∧ r0.tu.postExit = false ∧ r0.portV.released = false ∧
      (checking 0 r0).ca.check.isSome = true) ∧
    ({ doze with tu.exitDue := some 2000 }.tu.exitDue = some 2000 ∧ doze.tu.postExit = false ∧ doze.tu.exitDue = none) := by
  decide

/-- A paired handset, the last and the first id, a key of the table and one beyond it, and the 200 ms of a repeat. -/
theorem witness_HandsetFramesAndPairing :
    let s := { r0 with hr.paired := ⟨some 1, some 255⟩ }
    let frame : List Bool := (List.replicate 7 false ++ [true]) ++ (List.replicate 6 false ++ [true, false]) ++
      [false, false, true, true]
    (Serving .b b0 ∧ { r0 with hr.window := some (.lower, 30000000) }.hr.window = some (.lower, 30000000)) ∧
    (Running s ∧ s.hr.rx = .idle ∧ s.hr.window = none ∧ s.hr.paired.lower = some 1 ∧ s.hr.paired.upper = some 255 ∧
      (255#8 : Byte) ≠ 0#8 ∧ s.hr.paired.lower ≠ some 2 ∧ s.hr.paired.upper ≠ some 2) ∧
    ((frameFields frame == (1#8, 2#8, frameCheck 1 2)) = true ∧ (frameFields frame == (1#8, 3#8, frameCheck 1 3)) = false ∧
      { s with hr.rx := .stop (some frame) true }.hr.rx = .stop (some frame) true ∧
      { s with hr.rx := .bits [] true }.hr.rx = .bits [] true) ∧
    (0x09 < (0x0A#8 : Byte).toNat ∧ s.rm.rests.get .lower = none ∧
      (∀ w ∈ (warned .reserveLow .cab .notice false s).wu.list, w.target = .cab)) := by decide +kernel

/-- A repeat window after a frame of this key, its last step at 0, and what a repeat in it shows. -/
def repeating (key : Byte) (edge : Nat) (due : Option Nat) : State := { rich r0 with
  hr.paired := ⟨some 1, none⟩, hr.rx := .repeatWindow, hr.repeatable := true, hr.windowDue := due
  hr.lastFrame := some ⟨1, key, 0⟩, hr.edgeAt := edge }
def repeated (s : State) : Option (List Nat × Option Status × Option Nat) :=
  after (fun t => (t.au.table.map (·.req.level), t.hr.lastAction.map (·.outcome.status), t.hr.lastFrame.map (·.stepAt)))
    (exec (.handsetRepeat 8000) s)
def litLower (s : State) : State := tableOf [grantAt 0 .zoneLower .comfort .active ⟨40, 0, 0⟩] s

/-- Repeats that step: at 200 ms, at the window's end, by edges, and with no level to step to. -/
theorem witness_HandsetFramesAndPairing_repeats :
    Running (repeating 2 192000 none) ∧
    [repeated (repeating 2 192000 none), repeated (litLower (repeating 2 192000 (some 186500))),
        repeated (litLower (repeating 3 192000 (some 190000))), repeated (repeating 3 192000 none),
        repeated { repeating 2 192000 none with hr.rx := .stop none true }] =
      [some ([16], some .ok, some 200000), some ([56], some .ok, some 200000), some ([24], some .ok, some 200000),
        some ([], some .ok, some 200000), some ([16], some .ok, some 200000)] := by decide +kernel

/-- Repeats that do nothing: before 200 ms, of another key, past the window's end, after an ignored frame, in IDLE, and of a
handset no longer paired. -/
theorem witness_HandsetFramesAndPairing_ignored :
    [repeating 2 191999 none, repeating 5 192000 none, repeating 2 192000 (some 186499),
        { repeating 2 192000 none with hr.repeatable := false }, { repeating 2 192000 none with hr.rx := .idle },
        { repeating 2 192000 none with hr.paired := ⟨none, none⟩ }].map repeated =
      List.replicate 6 (some ([], none, some 0)) := by decide +kernel

/-- A rest in the lower bunk, and what a key shows of it: the action's status and count, the planned end and the snoozes. -/
def restingFor (n : Nat) (planned : Option RtcTime) : State := { r0 with
  hr.paired := ⟨some 1, none⟩, tu.rtc := 100, rm.rests := ⟨some ⟨0, 0, planned, false, n, .notWanted⟩, none⟩ }
def pressed (key : Byte) (s : State) : Option (Option ActionOutcome × Option (Option RtcTime × Nat)) :=
  after (fun t => (t.hr.lastAction.map (·.outcome), (t.rm.rests.get .lower).map (fun r => (r.plannedEnd, r.snoozes))))
    (exec (.handsetFrame 1 key 9000) s)

/-- SNOOZE with a planned end to come, one passed, a third snooze used up, and no planned end. -/
theorem witness_HandsetFramesAndPairing_snooze :
    [restingFor 2 (some 50000), restingFor 0 (some 50), restingFor 3 (some 50000), restingFor 0 none].map (pressed 8) =
      [some (some ⟨.ok, none⟩, some (some 50600, 3)), some (some ⟨.ok, none⟩, some (some 700, 1)),
        some (some ⟨.condition, none⟩, some (some 50000, 3)), some (some ⟨.condition, none⟩, some (none, 0))] := by
  decide +kernel

/-- ACK with nothing to acknowledge, a warning of CAB, one acknowledged before, and a WAKE, which ends the rest. -/
theorem witness_HandsetFramesAndPairing_ack :
    [restingFor 0 none, warned .reserveLow .cab .notice false (restingFor 0 none),
        warned .reserveLow .cab .notice true (restingFor 0 none),
        warned .wake (.bunk .lower) .alert false (restingFor 0 (some 50))].map (pressed 9) =
      [some (some ⟨.ok, some 0⟩, some (none, 0)), some (some ⟨.ok, some 1⟩, some (none, 0)),
        some (some ⟨.ok, some 0⟩, some (none, 0)), some (some ⟨.ok, some 1⟩, none)] := by
  decide +kernel

/-- Each key 0x01 to 0x07 on the states its clauses tell apart. -/
theorem witness_HandsetFramesAndPairing_keys :
    let s (gs : List Grant) : State := tableOf gs { rich r0 with hr.paired := ⟨some 1, none⟩ }
    let acts (key : Byte) (gs : List Grant) := after (fun t =>
      (t.au.table.map (fun g => (g.req.level, g.req.setpoint)), t.hr.lastAction.map (·.outcome.status)))
        (exec (.handsetFrame 1 key 9000) (s gs))
    let zone (k : Nat) : List Grant := [grantAt 0 .zoneLower .comfort .active ⟨k, 0, 0⟩]
    let heat (k : Nat) : List Grant := [grantAt 0 .heater .comfort .active ⟨0, k, 2⟩]
    [acts 1 [], acts 1 (zone 9), acts 2 [], acts 2 (zone 254), acts 2 (zone 255), acts 3 [], acts 3 (zone 16),
        acts 3 (zone 17), acts 4 [], acts 4 [grantAt 0 .readLower .comfort .active ⟨9, 0, 0⟩], acts 5 [], acts 5 (heat 18)] =
      [some ([(160, 0)], some .ok), some ([], some .ok), some ([(16, 0)], some .ok), some ([(255, 0)], some .ok),
        some ([(255, 0)], some .ok), some ([], some .ok), some ([], some .ok), some ([(1, 0)], some .ok),
        some ([(255, 0)], some .ok), some ([], some .ok), some ([(0, 20)], some .ok), some ([], some .ok)] ∧
    [acts 6 [], acts 6 (heat 30), acts 7 (heat 5), acts 7 (heat 6)] =
      [some ([], some .notFound), some ([(0, 30)], some .ok), some ([(0, 5)], some .ok), some ([(0, 5)], some .ok)] := by
  decide +kernel

/-- Each receiver state a clause names, and each duration at the ends of its range. -/
theorem witness_ReceiverFollowsEdges :
    ([RxState.idle, .repeatWindow, .leader true false, .leader false true, .bits [] false,
      .bits (List.replicate 19 true) true, .stop none false, .stop (some []) true].all (fun x =>
        { r0 with hr.rx := x }.hr.rx == x)) = true ∧
    Running { r0 with hr.rx := .repeatWindow, hr.windowDue := some 120000 } ∧
    (List.replicate 19 true).length = 19 ∧
    (2400 ≤ 2400 ∧ 4000 ≤ 4000 ∧ 1200 ≤ 1200 ∧ 2000 ≤ 2000 ∧ 600 ≤ 600 ∧ 1000 ≤ 1000 ∧ 300 ≤ 300 ∧ 500 ≤ 500 ∧
      900 ≤ 900 ∧ 1500 ≤ 1500 ∧ 7999 < 8000) := by decide

theorem witness_InputsConfiguredAndDebounced :
    let x (n : Fin 8) (pin active debounce wakes : Bool) : State := setInput n
      { config := { InputConfig.initial with debounce := debounce, wake := wakes }, pin := pin, active := active
        debounceDue := some 20000 } r0
    (Serving .v v0 ∧ 8 ≤ (8#8 : Byte).toNat ∧ (1#8 : Byte).toNat < 2 ∧ { v0 with policyLock := true }.policyLock = true ∧
      (2#8 : Byte).toNat = (2 : Fin 8).val ∧ (7#8 : Byte).toNat = (7 : Fin 8).val ∧ v0.policyLock = false) ∧
    (InputConfig.initial.debounce = true ∧ { InputConfig.initial with debounce := false }.debounce = false) ∧
    ((input 0 r0).pin ≠ true ∧ (input 0 r0).pin = false ∧ held.tu.resetHold.isSome = true ∧ (input 0 held).pin ≠ true ∧
      Running (x 6 false false false false) ∧ (input 6 (x 6 false false false false)).config.debounce = false ∧
      (input 0 r0).config.debounce = true) ∧
    ([(0 : Fin 8), 1, 2, 3, 4, 5, 7].all (fun n =>
      let y := input n (x n true false true true)
      y.debounceDue == some 20000 && (y.pin == (y.config.polarity == .activeHigh)) && !y.active && y.config.noticeV &&
        y.config.noticeB && y.config.wake)) = true ∧
    ((input 5 (x 5 false true true false)).active = true ∧ (input 5 (x 5 false false true false)).pin = false ∧
      { x 0 true false true true with tu.mode := .doze }.tu.mode = .doze ∧ (x 1 true false true true).fu.record = none) := by
  decide +kernel

/-- The door's light, and a bunk button with a warning to acknowledge, with a light to turn on and with one to turn off. -/
theorem witness_InputsConfiguredAndDebounced_functions :
    let s (n : Fin 8) (x : State) : State := setInput n { pin := true, debounceDue := some 20000 } (rich x)
    let zone : State := tableOf [grantAt 0 .zoneUpper .comfort .active ⟨9, 0, 0⟩] r0
    after (fun t => (t.au.table.map (fun g => (g.load, g.endTime)), t.ei.doorOutcome.map (·.1.status)))
      (exec (.debounceExpiry 2) (s 2 r0)) = some ([(.step, some 120)], some .ok) ∧
    after (fun t => (t.wu.list.map (·.acked), t.ei.lowerOutcome.map (·.1.count)))
      (exec (.debounceExpiry 3) (s 3 (warned .reserveLow .cab .notice false r0))) = some ([true], some (some 1)) ∧
    after (fun t => t.au.table.map (fun g => (g.load, g.req.level))) (exec (.debounceExpiry 4) (s 4 r0)) =
      some [(.zoneUpper, 160)] ∧
    after (fun t => t.au.table.map (·.load)) (exec (.debounceExpiry 4) (s 4 zone)) = some [] := by decide +kernel

/-- An item below, at and above its range, and the items about the lock. -/
theorem witness_PolicySetClampsAndLocks :
    (Serving .v v0 ∧ policyItem? v0.policy (0#8 : Byte).toNat = none ∧ policyItem? v0.policy (255#8 : Byte).toNat = none) ∧
    ((policyItem? v0.policy (2#8 : Byte).toNat).isSome = true ∧ policyItem? v0.policy (1#8 : Byte).toNat = some 225000) ∧
    (let s := { v0 with policyLock := true }
     let barred (b : Byte) (value : BitVec 32) (old : Nat) : Bool :=
       let range := itemRange s.policy b.toNat
       s.policyLock && !(b == 2#8 && decide (old < max range.1 (min range.2 value.toNat)))
     barred 2 60000 60000 = true ∧ barred 2 60001 60000 = false ∧ barred 1 225001 225000 = true) ∧
    (let range := itemRange v0.policy 10
     max range.1 (min range.2 0) = 60 ∧ max range.1 (min range.2 60) = 60 ∧ max range.1 (min range.2 720) = 720 ∧
       max range.1 (min range.2 721) = 720 ∧ policyItem? v0.policy 10 = some 240) ∧
    (v0.policy.p02 ≤ 225000 / 2 ∧ 100000 / 2 < v0.policy.p02) ∧
    (112499 < v0.cm.q ∧ v0.cm.q ≤ 112500 ∧ policyItem? v0.policy (51#8 : Byte).toNat = some 45 ∧
      policyItem? v0.policy (54#8 : Byte).toNat = some 660 ∧ (policyItem? v0.policy 64).isSome = true) := by decide +kernel

theorem witness_ChargeAndCreditStayInRange :
    ChargeInRange { r0 with cm.q := 225000, cm.r := 3599 } ∧ ChargeInRange { r0 with cm.q := 0 } ∧
    CreditInRange { r0 with cs.c := 8 } ∧ CreditInRange { r0 with cs.c := -8 } := by
  unfold ChargeInRange CreditInRange; decide

theorem witness_HeaterStaysSafe : PurgeSettled (purging .off) ∧ PumpGated (purging .off) ∧ PumpGated running := by
  unfold PurgeSettled PumpGated; decide +kernel

theorem witness_OutputsStayOff :
    OutputsOff (withChan 9 { state := .locked } (withChan 4 { state := .on, target := 255, output := 255 } r0)) := by
  unfold OutputsOff; decide +kernel

theorem witness_GrantTableStaysSound :
    TableSound (workedReview 2 [1, 4, 5] 20500 60) ∧ TableSound (tableOf twelve r0) := by
  unfold TableSound; decide +kernel

theorem witness_GrantTableStaysSound_listed : ShedListed (workedReview 2 [1, 4, 5] 20500 60) := by
  refine ⟨by decide, fun p => ?_⟩
  have h : ∀ g ∈ (workedReview 2 [1, 4, 5] 20500 60).au.table, (g.state = .shed ↔ g.pos ∈ [1, 4, 5]) := by decide
  have e : ∀ q ∈ [1, 4, 5], ∃ g ∈ (workedReview 2 [1, 4, 5] 20500 60).au.table, g.pos = q := by decide
  constructor
  · intro hp
    obtain ⟨g, hg, rfl⟩ := e p hp
    exact ⟨g, hg, rfl, (h g hg).2 hp⟩
  · rintro ⟨g, hg, rfl, hs⟩
    exact (h g hg).1 hs

theorem witness_RecordsStayDistinct : RecordsDistinct (crew r0) ∧ DrivingOrdered (crew r0) := by
  refine ⟨recordsDistinct_of (by decide) (by decide), fun i r h => ?_⟩
  have : ∀ j : Fin 4, ((record j (crew r0)).map fun r => decide (r.continuous ≤ r.daily)) ≠ some false := by decide
  simpa [h] using this i

theorem witness_ListsStayDistinct :
    PairingDistinct { r0 with hr.paired := ⟨some 1, some 2⟩ } ∧
    SuspensionsDistinct (suspending .vent true r0) ∧ WarningsDistinct (warned .wake (.bunk .lower) .alert false r0) ∧
    MasksInRange { r0 with portV.notices := 131071, portB.enables := 0 } := by
  refine ⟨by unfold PairingDistinct; decide, by unfold SuspensionsDistinct; decide,
    by unfold WarningsDistinct; decide, fun l => ?_⟩
  cases l <;> decide

/-! ### Witnesses of further clauses of the same obligations -/

/-- A channel's target in each state, at 0, at 1, as it is and another: a lamp fades, the fuel pump pulses, the rest take it. -/
theorem witness_OpenLoadFadeAndPulse_targets :
    let c (st : ChanState) : Channel :=
      { state := st, target := 90, output := if st = .on ∨ st = .starting then 90 else 0, tripCount := 1, openLoad := true }
    let shows (n : Fin 12) (st : ChanState) (target : Nat) := (fun x : Channel =>
      (x.state, x.target, x.output, x.inrushDue)) (chan n (setTarget n target (withChan n (c st) r0)))
    [shows 4 .off 0, shows 4 .off 1, shows 0 .off 255, shows 2 .off 1, shows 11 .off 1] =
      [(.off, 0, 0, none), (.starting, 1, 0, some 500000), (.starting, 255, 255, some 2000000),
        (.starting, 1, 1, some 500000), (.starting, 1, 1, some 500000)] ∧
    [shows 11 .starting 0, shows 11 .on 0, shows 11 .on 90, shows 11 .on 91, shows 4 .on 91, shows 2 .on 91] =
      [(.off, 0, 0, none), (.off, 0, 0, none), (.on, 90, 90, none), (.on, 91, 91, none), (.on, 91, 90, none),
        (.on, 91, 90, none)] ∧
    [shows 9 .tripped 0, shows 9 .locked 255, shows 9 .test 1] =
      [(.tripped, 0, 0, none), (.locked, 255, 0, none), (.test, 1, 0, none)] := by decide +kernel

/-- A zone's lamp off under a SUSPENDED entry, at the highest of its ACTIVE entries, in a flash's on-phase and its off-phase;
the outlets, the STEP light and the vent; and a merged target on a LOCKED channel. -/
theorem witness_AdmissionTestsThenFits_levels :
    let lit (load : Load) (n : Fin 12) (gs : List Grant) (s : State) := (chan n (mergeLoad load (tableOf gs s))).target
    let flash (on : Bool) : State := { r0 with wu.flash := ⟨{ cycle := some (on, 1000000) }, {}⟩ }
    let sun : Grant := { grantAt 1 .zoneLower .schedule .active ⟨160, 0, 0⟩ with start := some 0, endTime := some 2400 }
    let at_ (t : RtcTime) : State := { r0 with tu.rtc := t }
    [lit .zoneLower 4 [lamp, { sun with state := .suspended }] r0, lit .zoneLower 4 [lamp, sun] (at_ 150),
        lit .zoneLower 4 [lamp, sun] (at_ 600), lit .zoneLower 4 [lamp, sun] (at_ 1200), lit .zoneLower 4 [] r0,
        lit .zoneLower 4 [lamp, grantAt 2 .zoneLower .warning .active {}] (flash true),
        lit .zoneLower 4 [lamp, grantAt 2 .zoneLower .warning .active {}] (flash false),
        lit .zoneLower 4 [lamp, grantAt 2 .zoneLower .warning .active {}] r0] = [0, 40, 80, 160, 0, 255, 40, 255] ∧
    [lit .outlet1 9 [grantAt 0 .outlet1 .comfort .active {}] r0, lit .outlet2 10 [grantAt 0 .outlet2 .comfort .shed {}] r0,
        lit .step 8 [grantAt 0 .step .courtesy .active ⟨1, 0, 0⟩] r0, lit .step 8 [grantAt 0 .step .courtesy .waiting ⟨1, 0, 0⟩] r0,
        lit .vent 11 [grantAt 0 .vent .comfort .active ⟨128, 0, 0⟩, grantAt 1 .vent .courtesy .active ⟨200, 0, 0⟩] r0] =
      [255, 0, 255, 0, 200] ∧
    chan 9 (mergeLoad .outlet1 (tableOf [grantAt 0 .outlet1 .comfort .active {}] (withChan 9 { state := .locked } r0))) =
      { state := .locked, target := 255 } := by decide +kernel

/-- The heater's phase, its purge's follow-on and the stage after a merge: the merged grant appears, vanishes and changes in
each phase that a clause names. -/
theorem witness_AdmissionTestsThenFits_heat :
    let comfort (st : GrantState) (sp k : Nat) : Grant := grantAt 1 .heater .comfort st ⟨0, sp, k⟩
    let shows (gs : List Grant) (s : State) := (fun t : State => (t.hs.phase, t.hs.purge.map (·.followOn), t.hs.stage))
      (mergeLoad .heater (tableOf gs s))
    let idle (p : HeaterPhase) (s : State) : State := { s with hs.phase := p }
    let hot : List Grant := [comfort .active 20 2]
    let warm (p : HeaterPhase) : State := { running with hs.phase := p }
    let run (k : Nat) : State := { running with hs.stage := some k }
    let standby (tc : Option Int) : State := { running with hs.phase := .standby, hs.purgeOwed := false, hs.stage := none, hs.tc := tc }
    [shows hot (idle .off r0), shows hot (idle .standby r0), shows hot (checking 0 r0),
        shows hot { r0 with hs.flame := ⟨true, 3, 0⟩ }, shows hot { purging .off with hs.merged := none },
        shows hot { purging .lockout with hs.merged := none, hs.pending := some .sensor }, shows hot (idle .lockout r0)] =
      [(.preheat, none, none), (.preheat, none, none), (.off, none, none), (.off, none, none), (.purge, some .preheat, none),
        (.purge, some .lockout, none), (.lockout, none, none)] ∧
    [shows [] (warm .run), shows [comfort .suspended 20 2] { warm .preheat with hs.purgeOwed := false },
        shows [] (purging .preheat), shows [] { purging .lockout with hs.pending := some .ch0 }, shows [] (standby none),
        shows [] (warm .lockout)] =
      [(.purge, some .off, none), (.purge, some .off, none), (.purge, some .off, none), (.purge, some .lockout, none),
        (.off, none, none), (.lockout, none, some 1)] ∧
    [shows [comfort .active 20 2] (run 2), shows [comfort .active 20 2] (run 3), shows [comfort .active 20 3] (standby (some 19)),
        shows [comfort .active 21 4] (standby (some 20)), shows [comfort .active 21 4] (standby (some 21)),
        shows [comfort .active 21 4] (standby none), shows [comfort .active 21 4] (purging .preheat)] =
      [(.run, none, some 2), (.run, none, some 2), (.standby, none, none), (.preheat, none, none), (.standby, none, none),
        (.standby, none, none), (.purge, some .preheat, none)] ∧
    mergedHeat (tableOf [comfort .active 20 2, grantAt 2 .heater .schedule .active ⟨0, 18, 4⟩] r0) = some ⟨20, 4⟩ ∧
    mergedHeat (tableOf [comfort .active 20 2, grantAt 2 .heater .purge .suspended {}] r0) = none := by decide +kernel

theorem witness_AdmissionTestsThenFits_heat_table : TableSound (tableOf [grantAt 1 .heater .comfort .active ⟨0, 20, 2⟩] r0) := by
  unfold TableSound; decide +kernel

/-- A pending run of a SUSPENDED COOLING entry is dropped at a merge, with c above −8 and at it; others stay. -/
theorem witness_AdmissionTestsThenFits_fridge :
    let shows (c : Int) (st : GrantState) (p : Bool) := (fun t : State => (t.cs.c, t.cs.slotPending))
      (mergeLoad .fridge { fridge c st r0 with cs.slotPending := p })
    [shows (-7) .suspended true, shows (-8) .suspended true, shows 0 .suspended false, shows 0 .active true] =
      [(-8, false), (-8, false), (0, false), (0, true)] := by decide +kernel

/-- BREACH set with its time, standing with its time, and cleared with it where demand fits and in surplus. -/
theorem witness_ReviewRecordsAndHands_breach :
    let s (q : Nat) (mean : Int) : State := { workedReview 3 [] q mean with tu.rtc := 300 }
    let stood (x : State) : State := { x with au.breach := true, au.breachTime := some 7 }
    [s 0 40, stood (s 0 40), stood (s 20000 40), stood (s 0 200)].map (fun x => after (fun t =>
        (t.au.breach, t.au.breachTime, t.au.last.breach, t.au.surplus)) (exec .review x)) =
      [some (true, some 300, true, false), some (true, some 7, true, false), some (false, none, false, false),
        some (false, none, false, true)] := by decide +kernel

/-- Both links released, in AWAKE after a review, with the doze timer stopped. -/
def quietLinks (s : State) : State :=
  { s with tu.postExit := true, tu.dozeDue := none, portV.released := true, portB.released := true }

/-- The doze timer starts at a transfer's end, at a review and at an exit's end where its conditions hold, and not where a
link, the review or the wiring check holds it back. -/
theorem witness_DozeEntryAndExit_timer :
    let due (c : Instr) (s : State) := after (fun t => t.tu.dozeDue) (exec c s)
    let open_ : State := { serving .v (quietLinks r0) with tu.clock := 5 }
    [due (.release .v) { open_ with portV.released := false }, due (.fetch .v 9) open_, due (.undefinedRequest .v []) open_,
        due (.notices .v) open_, due (.release .v) { open_ with portB.released := false },
        due (.release .v) { open_ with portB.transfer := .open_ false }, due (.fetch .v 9) { open_ with tu.postExit := false },
        due (.transferStart .b) { quietLinks r0 with tu.dozeDue := some 9 }] =
      [some (some 2000005), some (some 2000005), some (some 2000005), some none, some none, some none, some none, some none] ∧
    [due .review { quietLinks r0 with tu.postExit := false }, due .review { quietLinks r0 with portV.released := false },
        due .dozeExitComplete { quietLinks doze with tu.exitDue := some 2000 },
        due .dozeExitComplete { quietLinks doze with tu.exitDue := some 2000, tu.postExit := false },
        due (.wiringStepEnd false 0) (quietLinks (checking 10 r0)), due (.wiringStepEnd false 0) (quietLinks (checking 11 r0))] =
      [some (some (r0.au.reviewDue + 2000000)), some none, some (some 2002000), some none, some none, some (some 2100000)] ∧
    (Running r0 ∧ r0.tu.mode = .awake ∧ r0.tu.exitDue = none ∧ r0.portV.transfer = .none ∧ r0.portB.transfer = .none ∧
      r0.ca.check = none ∧ r0.tu.dozeDue = none) := by decide +kernel

/-- A capture standing outside SAFE HOLD and within it, and the crystal's return in a main reset. -/
theorem witness_ClockSourceAndTimeSet_stops :
    let s := capturing .charge r0
    (Running s ∧ s.tu.source = .crystal ∧ s.fu.record.isSome = true ∧ inHold s = false ∧ inHold (onHold s) = true) ∧
    after (fun t => (t.fu.cause1, t.fu.holdRecord.map (·.code), t.fu.record.map (·.report.source)))
      (exec .crystalStop { s with tu.rtc := 9 }) = some (some 9, some .slowOscStop, some .charge) ∧
    after (fun t => (t.fu.cause1, t.fu.holdRecord.isSome)) (exec .crystalStop (onHold s)) = some (none, false) ∧
    (let h := { held with tu.source := .slow, tu.stableDue := some 1000000 }
     h.tu.resetHold.isSome = true ∧ h.tu.source = .slow ∧ h.tu.stableDue = some 1000000 ∧
       after (fun t => (t.tu.source, hasNotice .rtcDegraded t.portV)) (exec .crystalReturn h) = some (.crystal, false)) := by
  decide +kernel

/-- Entries that have ended or may start at 100, a slot due at 100, and a rest whose wake timeout passes at 88,200. -/
def timed (t : RtcTime) : State :=
  tableOf [{ grantAt 0 .vent .comfort .active ⟨9, 0, 0⟩ with endTime := some 100 },
      { grantAt 1 .zoneUpper .schedule .waiting ⟨9, 0, 0⟩ with start := some 100, endTime := some 90000 },
      { grantAt 2 .fridge .cooling .active {} with requester := .internal }]
    { rich v0 with
      policy.p62 := 0, tu.rtc := t, cs.enable := true, cs.nextDue := 100
      rm.recs := #v[some { recordOf 7 (some .driver) .drive with lastUpdate := 40 }, none, none, none]
      rm.rests := ⟨some ⟨0, 0, some 86400, false, 0, .notWanted⟩, none⟩ }

/-- A set forward to the very second, to one before, one back from past it, and to the rest's planned end and wake timeout:
the entries left, with the flash of a WAKE at ALERT, the slot's due (postponed in quiet hours), the driving up to the old
second, and the rest with its WAKE. -/
theorem witness_ClockSourceAndTimeSet_table :
    let sets (old new : RtcTime) := exec (.timeSet .v new) (timed old)
    let cases := [sets 50 100, sets 50 99, sets 150 100, sets 50 86400, sets 50 88200]
    Serving .v (timed 50) ∧ Running (timed 50) ∧
    cases.map (after (fun t => t.au.table.map (fun g => (g.purpose, g.state)))) =
      [some [(.schedule, .active), (.cooling, .active)], some [(.comfort, .active), (.schedule, .waiting), (.cooling, .active)],
        some [(.comfort, .active), (.schedule, .waiting), (.cooling, .active)],
        some [(.warning, .active), (.schedule, .active), (.cooling, .active)], some [(.schedule, .active), (.cooling, .active)]] ∧
    cases.map (after (fun t => (t.cs.nextDue, t.cs.slotPending))) =
      [some (1900, false), some (100, false), some (100, false), some (88200, true), some (90000, true)] ∧
    cases.map (after (fun t => (record 0 t).map (fun r => (r.continuous, r.lastUpdate)))) =
      [some (some (10, 100)), some (some (10, 99)), some (some (110, 100)), some (some (10, 86400)), some (some (10, 88200))] ∧
    cases.map (after (fun t => (t.rm.rests.lower.isSome, (findWarning .wake (.bunk .lower) t).isSome))) =
      [some (true, false), some (true, false), some (true, false), some (true, true), some (false, false)] := by decide +kernel

/-- The RTC is set before RM accumulates: a driver warning that the accumulation raises carries the new time (R138, R172). -/
theorem test_time_set_raises_at_the_new_time :
    after (fun t => t.wu.list.map (fun w => (w.kind, w.raiseTime))) (exec (.timeSet .v 500) { v0 with
      tu.rtc := 60, rm.recs := #v[some { recordOf 7 (some .driver) .drive with continuous := 16140, daily := 16140 },
        none, none, none] }) = some [(.breakDue, 500)] := by decide +kernel

/-- One stored change of each group of items, from a value in range to another one. -/
theorem witness_PolicySetClampsAndLocks_acts :
    let changes (item value : Nat) : Bool := match policyItem? v0.policy item with
      | some old =>
        let range := itemRange v0.policy item
        !v0.policyLock && max range.1 (min range.2 value) != old
      | none => false
    ([(1, 20000), (2, 0), (3, 0), (13, 100), (33, 300), (23, 0), (24, 255), (36, 4), (37, 0), (40, 1), (40, 3), (42, 20),
      (43, 120), (44, 20), (51, 30), (54, 480), (59, 0), (60, 30), (61, 0), (62, 0), (4, 200), (64, 0)].all
        (fun x => changes x.1 x.2)) = true := by decide +kernel

/-- What some stored changes do at once: a lamp that no longer fits is shed by a raise of P02, the vent falls under P24 in
quiet hours, the rate mode and the interval in force form the next due again, P59 ends a break, P60 escalates, P61 raises
WAKE and P62 places a sunrise. -/
theorem witness_PolicySetClampsAndLocks_shown :
    let sets (b : Byte) (v : BitVec 32) (s : State) := exec (.policySet .v b v) s
    let poor := tableOf [lamp] { v0 with policy.p02 := 0, cm.tb := 25, cm.q := 1000 }
    let quiet := tableOf [grantAt 0 .vent .comfort .active ⟨200, 0, 0⟩] (rich (resting 0 v0))
    let cold : State := { fridge 0 .active v0 with tu.rtc := 1000, cs.nextDue := 1900 }
    let moved : State := { crew v0 with rm.moving := true, rm.recs := #v[some { recordOf 7 (some .driver) .rest with
      breakSeg := 1200, restSeg := 1200 }, none, none, none] }
    let waking : State := { rich (resting 0 v0) with tu.rtc := 84600 }
    after (fun t => t.au.table.map (·.state)) (sets 2 500 poor) = some [.shed] ∧
    after (fun t => t.au.table.map (·.eff.level)) (sets 24 9 quiet) = some [9] ∧
    [sets 40 2 cold, sets 42 20 cold, sets 42 10 cold, sets 43 30 cold, sets 42 20 { cold with tu.rtc := 1300 }].map
        (after (fun t => (t.cs.nextDue, t.cs.mode))) =
      [some (1300, .warm), some (1300, .normal), some (1300, .normal), some (1900, .normal), some (2500, .normal)] ∧
    after (fun t => (record 0 t).map (fun r => (r.breakSeg, r.firstPart, r.restSeg))) (sets 59 0 moved) =
      some (some (0, true, 0)) ∧
    after (fun t => t.wu.list.map (·.level)) (sets 60 30 { warned .reserveLow .cab .notice false v0 with tu.clock := 30000000 }) =
      some [.alert] ∧
    after (fun t => t.wu.list.map (·.kind)) (sets 61 30 waking) = some [.wake] ∧
    after (fun t => t.wu.sunrise.lower.state) (sets 62 30 waking) = some .placed := by decide +kernel

theorem witness_PolicySetClampsAndLocks_distinct : WarningsDistinct (warned .reserveLow .cab .notice false v0) := by
  unfold WarningsDistinct; decide

/-- At the account timer the driving conditions begin at 14,400 s and 16,200 s of P50 with its lead, and DAY_DUE at P53; a
record without a slot has none, and CARD ends all of them with the slot. -/
theorem witness_AccumulationByEffectiveClass_conds :
    let s (slot : Option DriverSlot) (driven : Nat) : State := { v0 with
      tu.rtc := 1
      rm.recs := #v[some { recordOf 7 slot .drive with continuous := driven, daily := driven }, none, none, none] }
    let listed (t : State) : List WarnKind := t.wu.list.map (·.kind)
    let timer (x : State) := after (fun t => (listed t, decide (listedConds 0 t = t.rm.conds[0]))) (exec .accountTimer x)
    let lead : Nat := (r0.policy.p50 - r0.policy.p58) * 60
    let due : Nat := r0.policy.p50 * 60
    let day : Nat := r0.policy.p53 * 60
    [timer (s (some .driver) (lead - 2)), timer (s (some .driver) (lead - 1)), timer (s (some .driver) (due - 1)),
        timer (s (some .driver) (day - 1)), timer (s none due)] =
      [some ([], true), some ([.breakSoon], true), some ([.breakDue], true), some ([.breakDue, .dayDue], true), some ([], true)] ∧
    (listedConds 0 (s none 0) = (s none 0).rm.conds[0] ∧ slotHolder .driver (s (some .driver) due) = some 0) ∧
    (match exec .accountTimer (s (some .driver) due) with
      | .next t => after listed (exec (.card .v .driver 0#16) t)
      | _ => none) = some [] := by decide +kernel

/-- HS at the locks of its channels: its phase, the pending cause, the follow-on and the lockout, for CH0 and CH2 with and
without a purge owed, in a purge with a cause pending and without one, idle and locked out; for CH1 out of LOCKOUT and in it. -/
theorem witness_OtherTripsLockAndSuspend_heater :
    let trip (n : Fin 12) (s : State) :=
      exec (.channelShort n 65535) (withChan n { state := .on, target := 255, output := 255 } s)
    let idle (p : HeaterPhase) : State := { running with hs.phase := p, hs.purgeOwed := false, hs.stage := none }
    let locked : State := { idle .lockout with hs.lockout := some .sensor, hs.purgeOwed := true }
    let cases := [trip 0 running, trip 2 (idle .preheat), trip 0 (purging .off),
      trip 2 { purging .lockout with hs.pending := some .sensor }, trip 0 (idle .standby), trip 2 (idle .off), trip 0 locked]
    let ch1 := [trip 1 running, trip 1 { purging .lockout with hs.pending := some .sensor }, trip 1 locked]
    cases.map (after (fun t => (t.hs.phase, t.hs.pending))) =
      [some (.purge, some .ch0), some (.purge, some .ch2), some (.purge, some .ch0), some (.purge, some .sensor),
        some (.off, none), some (.off, none), some (.lockout, none)] ∧
    cases.map (after (fun t => t.hs.purge.map (fun p => (p.full, p.followOn)))) =
      [some (some (true, .lockout)), some (some (false, .lockout)), some (some (true, .lockout)), some (some (true, .lockout)),
        some none, some none, some none] ∧
    ch1.map (after (fun t => (t.hs.phase, t.hs.pending, t.hs.lockout))) =
      [some (.lockout, none, some .ch1), some (.lockout, none, some .sensor), some (.lockout, none, some .sensor)] ∧
    locked.fu.record = none ∧ isSuspended .heater locked = false := by decide +kernel

/-- CS at the lock of CH3: a slot run, one pending, both above and at −8, an override, and none. -/
theorem witness_OtherTripsLockAndSuspend_fridge :
    let trip (c : Int) (run : Option RunKind) (pending : Bool) := after (fun t =>
        (t.cs.c, t.cs.run, t.cs.slotPending, t.cs.minOffDue))
      (exec (.channelShort 3 65535) (withChan 3 { state := .on, target := 255, output := 255 }
        { fridge c .active r0 with cs.run := run, cs.slotPending := pending }))
    [trip 0 (some .slot) false, trip 0 (some .slot) true, trip (-7) (some .slot) true, trip (-8) (some .slot) false,
        trip 0 (some .override_) false, trip 0 none true, trip 0 none false] =
      [some (-1, none, false, some 180000000), some (-2, none, false, some 180000000), some (-8, none, false, some 180000000),
        some (-8, none, false, some 180000000), some (0, none, false, some 180000000), some (-1, none, false, none),
        some (0, none, false, none)] := by decide +kernel

/-- A main reset held over a fridge with a slot due at 1,800. -/
def heldFridge (c : Int) (run : Option RunKind) (t : RtcTime) : State :=
  { fridge c .active held with cs.run := run, cs.nextDue := 1800, tu.rtc := t }

/-- The end of a main reset with no slot due and with one due, at which c is lowered first for a slot run. -/
theorem witness_MainResetEndRestartsPart_fridge :
    [heldFridge 2 (some .slot) 1799, heldFridge (-8) (some .slot) 1799, heldFridge 2 (some .override_) 1799,
        heldFridge 2 (some .slot) 1800, heldFridge 1 (some .slot) 1800].map (fun s => after (fun t =>
          (t.cs.c, t.cs.slotPending, t.cs.nextDue, t.cs.run.isSome)) (exec .mainResetEnd s)) =
      [some (1, false, 1800, false), some (-8, false, 1800, false), some (2, false, 1800, false),
        some (0, false, 3600, false), some (0, true, 3600, false)] := by decide +kernel

/-- An active input with debounce, one without, an inactive one, and the degraded RTC beside the overheat contact and not. -/
theorem witness_MainResetEndRestartsPart_inputs :
    let s (debounce pin : Bool) : State := setInput 1
      { config := { InputConfig.initial with debounce := debounce, polarity := .activeHigh }, pin := pin } held
    let slow (x : State) : State := { x with tu.source := .slow, tu.degraded := true, tu.rtc := 5 }
    let shows (x : State) := after (fun t => ((input 1 t).active, (input 1 t).debounceDue.isSome, (input 1 t).lastEvent))
      (exec .mainResetEnd x)
    let fault (x : State) := after (fun t => (t.fu.record.map (·.report.source), t.fu.holdRecord.map (·.source)))
      (exec .mainResetEnd x)
    [shows (s true true), shows (s false true), shows (s false false)] =
      [some (false, true, none), some (true, false, some 0), some (false, false, none)] ∧
    [fault (slow (s true true)), fault (slow (s false true)), fault (s true true)] =
      [some (some .timebase, none), some (some .heater, some .timebase), some (none, none)] := by decide +kernel

/-- A rest planned for 86,400 across a main reset at 0, at the lead time of WAKE, at the planned end, at the sunrise's end and
at the wake timeout. -/
theorem witness_MainResetEndRestartsPart_rests :
    let s (t : RtcTime) : State := { rich (resting 0 held) with tu.rtc := t, cs.enable := false }
    let cases := [s 0, s 86100, s 86400, s 87599, s 87600, s 88200].map (fun x => exec .mainResetEnd x)
    cases.map (after (fun t => (t.rm.rests.lower.map (·.prewarmState), t.rm.quiet.lower))) =
      [some (some .placed, true), some (some .placed, false), some (some .placed, false), some (some .done, false),
        some (some .done, false), some (none, false)] ∧
    cases.map (after (fun t => (findWarning .wake (.bunk .lower) t).map (·.level))) =
      [some none, some (some .notice), some (some .alert), some (some .alert), some (some .alert), some none] ∧
    cases.map (after (fun t => (t.wu.sunrise.lower.state, t.wu.sunrise.lower.plannedEnd))) =
      [some (.placed, some 86400), some (.placed, some 86400), some (.placed, some 86400), some (.placed, some 86400),
        some (.done, some 86400), some (.done, none)] ∧
    cases.map (after (fun t => (listedConds 0 t, t.rm.conds[0]))) =
      List.replicate 6 (some (⟨false, false, false, false⟩, ⟨false, false, false, false⟩)) ∧
    (∀ n : Fin 8, (input n (s 0)).config.debounce = true ∨
      ((input n (s 0)).pin == ((input n (s 0)).config.polarity == .activeHigh)) = false) := by decide +kernel

/-- A short-rest condition of a bunk and one of a record across a main reset; and a driver over P50. -/
theorem witness_MainResetEndRestartsPart_records :
    let s (x : Option (Bool × ShortTarget)) : State := { held with rm.recs := #v[some { recordOf 7 (some .driver) .rest with
      shortRest := x, continuous := 16200, daily := 16200 }, none, none, none] }
    [s (some (true, .bunk .lower)), s (some (false, .record)), s none].map (fun x => after (fun t =>
        t.wu.list.map (fun w => (w.kind, w.target))) (exec .mainResetEnd x)) =
      [some [(.breakDue, .record 0), (.restBroken, .bunk .lower)], some [(.breakDue, .record 0), (.restShort, .record 0)],
        some [(.breakDue, .record 0)]] := by decide +kernel

/-- CH1 leaves LOCKED with a purge owed in LOCKOUT, with a pending cause and without one, and with none owed. -/
theorem witness_HoldReleaseAndAckFault_channel :
    let shows (n : Fin 12) (s : State) := (fun t : State => (t.hs.phase, t.hs.pending, (chan n t).state)) (returnChannel n s)
    [shows 1 twoLocked, shows 1 { twoLocked with hs.pending := some .ch2 }, shows 0 twoLocked,
        shows 9 (withChan 9 { state := .locked, target := 255 } r0)] =
      [(.purge, some .ch1, .starting), (.purge, some .ch2, .starting), (.lockout, none, .off), (.off, none, .starting)] := by
  decide +kernel

/-- ACK_FAULT of a tied suspension: the lamp comes back from a restartable one and is removed by one that is not. -/
theorem witness_HoldReleaseAndAckFault_tied :
    let s (restartable : Bool) : State := tableOf [{ lamp with state := .suspended }] { rich b0 with
      ca.chans := b0.ca.chans.set 4 { state := .locked }
      fu.record := some (captureOf (.channel 4) restartable)
      fu.susp := [⟨.zoneLower, restartable, true, .channel 4, .overcurrent⟩] }
    [s true, s false].map (fun x => after (fun t => (t.au.table.map (·.state), t.fu.susp.length, (chan 4 t).state))
        (exec (.ackFault .b (.channel 4) 5) x)) =
      [some ([.active], 0, .starting), some ([], 0, .locked)] ∧
    TableSound (s true) := by
  unfold TableSound; decide +kernel

/-- The owners told of a removal: a sunrise, a pre-warm of a rest and of an ended one, a flash, COOLING and the rest. -/
theorem witness_HoldReleaseAndAckFault_owners :
    let told (load : Load) (p : Purpose) (s : State) : State := reportRemoval load p .nonRestartable s
    (told .vent .comfort r0).au.table.length = 0 ∧ (told .heater .purge r0).au.table.length = 0 ∧
    (told .zoneUpper .schedule r0).wu.sunrise.upper.state = .refused ∧
    (told .zoneLower .warning (warned .wake (.bunk .lower) .alert false r0)).wu.flash.lower.givenUp = true ∧
    ((told .heater .schedule { prewarming .placed 0 [] r0 with rm.entryRest := some ⟨.lower, false⟩ }).rm.rests.lower.map
      (·.prewarmState)) = some .placed ∧
    (told .heater .schedule { r0 with rm.entryRest := some ⟨.lower, true⟩ }).rm.entryRest = none ∧
    [false, true].map (fun e => (findGrant .fridge .cooling (told .fridge .cooling { r0 with cs.enable := e })).isSome) =
      [false, true] := by decide +kernel

/-- Twenty bits in the gap after a stop mark, whose check holds and fails, and a repeat there. -/
theorem witness_ReceiverFollowsEdges_gap :
    let bits (last : Bool) : List Bool := (List.replicate 7 false ++ [true]) ++ (List.replicate 6 false ++ [true, false]) ++
      [false, false, true, last]
    let s (f : Option (List Bool)) (x : Bool) : State := { r0 with hr.rx := .stop f x }
    let fails (f : List Bool) : Bool := (frameFields f).2.2 != frameCheck (frameFields f).1 (frameFields f).2.1
    let shows (c : Instr) (x : State) := after (fun t => (t.hr.rx, t.tu.clock)) (exec c x)
    Running (s none true) ∧ fails (bits false) = true ∧ fails (bits true) = false ∧
    [shows (.checkError 8000) (s (some (bits false)) true), shows (.checkError 8000) (s (some (bits true)) true),
        shows (.checkError 8000) (s none true), shows (.checkError 8000) (s (some (bits false)) false),
        shows (.checkError 8000) { r0 with hr.rx := .bits (bits true) false }, shows .timingError (s none true)] =
      [some (.idle, 8000), some (.stop (some (bits true)) true, 0), some (.stop none true, 0),
        some (.stop (some (bits false)) false, 0), some (.bits (bits true) false, 0), some (.stop none true, 0)] := by
  decide +kernel

/-- A PURGE entry's end, and the end of a pre-warm's entry: with its rest's, with an ended rest's, and with the next holder. -/
theorem witness_StoredTimesEndAndStartEntries_heater :
    let ends (p : Purpose) (s : State) := exec (.grantEndReached .heater p) s
    let purge : State := tableOf [{ grantAt 0 .heater .purge .active {} with requester := .internal, endTime := some 100 }]
      { purging .off with tu.rtc := 100 }
    let warm (e : Option EntryRest) (rests : PerBunk (Option BunkRest)) : State :=
      tableOf [{ grantAt 0 .heater .schedule .active ⟨0, 20, 2⟩ with start := some 50, endTime := some 100 }]
        { rich r0 with tu.rtc := 100, rm.entryRest := e, rm.holder := some .lower, rm.rests := rests }
    let one : PerBunk (Option BunkRest) := ⟨some ⟨0, 0, some 4294966496, true, 0, .placed⟩, none⟩
    let two : PerBunk (Option BunkRest) := ⟨one.lower, some ⟨2, 0, some 86400, true, 0, .wanted⟩⟩
    ((purge.hs.merged.isSome = true ∧ purge.hs.phase = .purge) ∧
      after (fun t => t.au.table.length) (ends .purge purge) = some 0) ∧
    [warm (some ⟨.lower, false⟩) one, warm (some ⟨.lower, true⟩) one, warm (some ⟨.lower, false⟩) two].map (fun x =>
        after (fun t => (t.rm.rests.lower.map (·.prewarmState), t.rm.rests.upper.map (·.prewarmState),
          (findGrant .heater .schedule t).map (·.start))) (ends .schedule x)) =
      [some (some .done, none, none), some (some .done, none, none), some (some .done, some .placed, some (some 84600))] := by
  decide +kernel

end Sys2Proof.Tests
end

namespace Sys2Proof.Machine

/-! ## O55: the operations that leave the cold store's state alone

The slot credit is CS's, so an operation that leaves `cs` as it is keeps it (R98). -/

@[simp] theorem testChannels_cs (n : Fin 12) (s : State) : (testChannels n s).cs = s.cs := rfl
@[simp] theorem endTest_cs (s : State) : (endTest s).cs = s.cs := rfl
@[simp] theorem startAllFromTargets_cs (s : State) :
    (startAllFromTargets s).cs = s.cs := rfl

@[simp] theorem updateGrant_cs (l : Load) (p : Purpose) (f : Grant → Grant) (s : State) :
    (updateGrant l p f s).cs = s.cs := rfl

@[simp] theorem unlist_cs (n : Nat) (s : State) : (unlist n s).cs = s.cs := rfl
@[simp] theorem dropGrant_cs (l : Load) (p : Purpose) (s : State) :
    (dropGrant l p s).cs = s.cs := by
  unfold dropGrant; split <;> rfl

@[simp] theorem shedGrant_cs (t : RtcTime) (g : Grant) (s : State) :
    (shedGrant t g s).cs = s.cs := rfl

@[simp] theorem restoreGrant_cs (g : Grant) (s : State) : (restoreGrant g s).cs = s.cs := by
  unfold restoreGrant; dsimp only; split <;> rfl

@[simp] theorem internalRequest_cs (l : Load) (p : Purpose) (o : Origin) (e : Option RtcTime) (s : State) :
    (internalRequest l p o e s).cs = s.cs := by
  unfold internalRequest; split <;> rfl

@[simp] theorem placeGrant_cs (g : Grant) (s : State) : (placeGrant g s).cs = s.cs := rfl
@[simp] theorem toPhase_cs (p : HeaterPhase) (s : State) : (toPhase p s).cs = s.cs := by
  simp [toPhase]

@[simp] theorem enterHeaterOff_cs (s : State) : (enterHeaterOff s).cs = s.cs := by
  simp [enterHeaterOff]

@[simp] theorem enterPreheat_cs (s : State) : (enterPreheat s).cs = s.cs := by
  simp [enterPreheat]

@[simp] theorem enterIgnite_cs (s : State) : (enterIgnite s).cs = s.cs := by
  simp [enterIgnite]

@[simp] theorem setStage_cs (k : Nat) (s : State) : (setStage k s).cs = s.cs := by
  simp [setStage]

@[simp] theorem chooseStage_cs (s : State) : (chooseStage s).cs = s.cs := by
  simp [chooseStage]

@[simp] theorem lowerStage_cs (s : State) : (lowerStage s).cs = s.cs := by
  unfold lowerStage; split
  · split <;> simp
  · rfl

@[simp] theorem enterRun_cs (s : State) : (enterRun s).cs = s.cs := by
  simp [enterRun]

@[simp] theorem enterPurge_cs (f : FollowOn) (b : Bool) (c : Option LockCause) (s : State) :
    (enterPurge f b c s).cs = s.cs := by
  simp [enterPurge]

@[simp] theorem enterLockout_cs (c : LockCause) (s : State) :
    (enterLockout c s).cs = s.cs := by
  simp [enterLockout]

@[simp] theorem setPending_cs (c : LockCause) (s : State) : (setPending c s).cs = s.cs := by
  unfold setPending; split <;> rfl

@[simp] theorem setFollowOn_cs (f : FollowOn) (s : State) : (setFollowOn f s).cs = s.cs := by
  unfold setFollowOn; split <;> rfl

@[simp] theorem enterStandby_cs (s : State) : (enterStandby s).cs = s.cs := by
  unfold enterStandby; dsimp only; split <;> simp

@[simp] theorem standbyRestart_cs (s : State) : (standbyRestart s).cs = s.cs := by
  unfold standbyRestart; split
  · split <;> simp
  · rfl

@[simp] theorem heatAppears_cs (s : State) : (heatAppears s).cs = s.cs := by
  unfold heatAppears; split <;> first | rfl | (split <;> simp) | simp

@[simp] theorem heatVanishes_cs (s : State) : (heatVanishes s).cs = s.cs := by
  unfold heatVanishes; split <;> first | rfl | (simp; done) | (simp; split <;> rfl)

@[simp] theorem heatChanges_cs (old : MergedHeat) (s : State) :
    (heatChanges old s).cs = s.cs := by
  unfold heatChanges; split <;> (try split) <;> simp

@[simp] theorem handHeat_cs (s : State) : (handHeat s).cs = s.cs := by
  unfold handHeat; dsimp only; split
  · rfl
  · split <;> simp

@[simp] theorem mergeHeater_cs (s : State) : (mergeHeater s).cs = s.cs := by
  simp [mergeHeater]

@[simp] theorem completePurge_cs (s : State) : (completePurge s).cs = s.cs := by
  unfold completePurge; dsimp only; split
  · simp
  · split <;> simp
  · simp

@[simp] theorem heaterChannelLocked_cs (c : LockCause) (s : State) :
    (heaterChannelLocked c s).cs = s.cs := by
  unfold heaterChannelLocked; split <;> simp

@[simp] theorem fanLocked_cs (s : State) : (fanLocked s).cs = s.cs := by
  unfold fanLocked; split <;> simp

@[simp] theorem heaterLocked_cs (n : Fin 12) (s : State) : (heaterLocked n s).cs = s.cs := by
  unfold heaterLocked; split <;> simp

@[simp] theorem fanUnlocked_cs (s : State) : (fanUnlocked s).cs = s.cs := by
  unfold fanUnlocked; split
  · split <;> simp
  · rfl

@[simp] theorem flameFailed_cs (s : State) : (flameFailed s).cs = s.cs := by
  unfold flameFailed; split <;> simp

@[simp] theorem lengthenPurge_cs (s : State) : (lengthenPurge s).cs = s.cs := by
  unfold lengthenPurge; split
  · rfl
  · split
    · rfl
    · dsimp only; split <;> simp

@[simp] theorem heaterOverheats_cs (s : State) : (heaterOverheats s).cs = s.cs := by
  unfold heaterOverheats; split <;> simp

@[simp] theorem heaterHoldEntry_cs (h : Bool) (s : State) :
    (heaterHoldEntry h s).cs = s.cs := by
  unfold heaterHoldEntry; split <;> first | rfl | (split <;> simp)

@[simp] theorem clearLockoutPhase_cs (s : State) : (clearLockoutPhase s).cs = s.cs := by
  unfold clearLockoutPhase; dsimp only; split <;> (repeat' split) <;> simp

@[simp] theorem formRamp_cs (b : Bunk) (s : State) : (formRamp b s).cs = s.cs := by
  unfold formRamp; (repeat' split) <;> rfl

@[simp] theorem syncFlash_cs (b : Bunk) (s : State) : (syncFlash b s).cs = s.cs := rfl
/-- The merge of any load but the fridge's leaves CS alone (R52). -/
@[simp] theorem mergeLoad_cs {l : Load} (h : l ≠ .fridge) (s : State) : (mergeLoad l s).cs = s.cs := by
  cases l <;> simp [mergeLoad, zoneBunk, mergeChannel] at h ⊢

theorem mergeLoads_cs {ls : List Load} (h : ∀ l ∈ ls, l ≠ .fridge) (s : State) : (mergeLoads ls s).cs = s.cs := by
  induction ls generalizing s with
  | nil => rfl
  | cons l ls ih =>
    rw [List.forall_mem_cons] at h
    exact (ih h.2 _).trans (mergeLoad_cs h.1 s)

@[simp] theorem bunkZone_ne_fridge (b : Bunk) : bunkZone b ≠ .fridge := by cases b <;> decide
@[simp] theorem bunkReading_ne_fridge (b : Bunk) : bunkReading b ≠ .fridge := by cases b <;> decide
@[simp] theorem withdraw_cs {l : Load} (h : l ≠ .fridge) (p : Purpose) (s : State) : (withdraw l p s).cs = s.cs := by
  unfold withdraw; split <;> simp [h]

@[simp] theorem accept_cs {g : Grant} (h : g.load ≠ .fridge) (st : Status) (s : State) :
    (accept g st s).state.cs = s.cs := by
  simp [accept, h]

@[simp] theorem judgeAsk_cs {r : GrantAsk} (h : r.load ≠ .fridge) (s : State) : (judgeAsk r s).state.cs = s.cs := by
  have hg : (askedGrant r s).load ≠ .fridge := h
  unfold judgeAsk; dsimp only; (repeat' split) <;> simp [hg]

@[simp] theorem grantAsk_cs {r : GrantAsk} (h : r.load ≠ .fridge) (s : State) : (grantAsk r s).state.cs = s.cs := by
  unfold grantAsk; dsimp only; (repeat' split) <;> simp [h]

@[simp] theorem raiseGrant_cs (g : Grant) (s : State) : (raiseGrant s g).cs = s.cs := by
  unfold raiseGrant; (repeat' split) <;> simp

@[simp] theorem recordLimits_cs (s : State) : (recordLimits s).cs = s.cs := rfl
@[simp] theorem applyCaps_cs (s : State) : (applyCaps s).cs = s.cs := by
  unfold applyCaps
  rw [mergeLoads_cs (by decide), recordLimits_cs, foldl_keeps State.cs raiseGrant (fun s g => raiseGrant_cs g s)]

@[simp] theorem readmit_cs (h : Nat) (f : Int) (a : State × Nat × Bool) (g : Grant) :
    (readmit h f a g).1.cs = a.1.cs := by
  obtain ⟨s, p, b⟩ := a
  unfold readmit; dsimp only; (repeat' split) <;> simp

@[simp] theorem readmitSuspended_cs (a : State × Bool) (g : Grant) :
    (readmitSuspended a g).1.cs = a.1.cs := by
  obtain ⟨s, b⟩ := a
  unfold readmitSuspended; dsimp only; (repeat' split) <;> simp

@[simp] theorem shedVictim_cs (t : RtcTime) (g : Grant) (s : State) :
    (shedVictim t g s).cs = s.cs := rfl

@[simp] theorem shedWhile_cs (c : State → Bool) (p : Grant → Bool) (t : RtcTime) :
    ∀ (k : Nat) (a : State × Nat), (shedWhile c p t k a).1.cs = a.1.cs
  | 0, _ => rfl
  | k + 1, (s, n) => by
    unfold shedWhile
    split
    · split
      · rw [shedWhile_cs c p t k]; rfl
      · rfl
    · rfl

@[simp] theorem restoreAll_cs (s : State) : (restoreAll s).1.cs = s.cs :=
  foldl_keeps (fun a : State × Nat => a.1.cs) _ (fun a g => by split <;> simp) _ (s, 0)

@[simp] theorem restoreOne_cs (h : Nat) (f : Int) (s : State) :
    (restoreOne h f s).1.cs = s.cs := by
  obtain e | ⟨g, -, e, -⟩ := restoreOne_cases h f s <;> simp [e]

@[simp] theorem reviewTable_cs (h : Nat) (f : Int) (s : State) :
    (reviewTable h f s).1.cs = s.cs := by
  unfold reviewTable; dsimp only; (repeat' split) <;> simp

@[simp] theorem settleBreach_cs (h : Nat) (f : Int) (s : State) :
    (settleBreach h f s).cs = s.cs := rfl

@[simp] theorem recordCause_cs (c : HoldCause) (s : State) :
    (recordCause c s).cs = s.cs := by
  cases c <;> rfl

@[simp] theorem notifyWarning_cs (t : WarnTarget) (s : State) :
    (notifyWarning t s).cs = s.cs := by
  unfold notifyWarning; dsimp only; (repeat' split) <;> simp

@[simp] theorem setGivenUp_cs (b : Bunk) (x : Bool) (s : State) :
    (setGivenUp b x s).cs = s.cs := rfl

@[simp] theorem reconsiderFlash_cs (b : Bunk) (s : State) :
    (reconsiderFlash b s).cs = s.cs := by
  unfold reconsiderFlash; (repeat' split) <;> simp

@[simp] theorem reconsiderTarget_cs (t : WarnTarget) (s : State) :
    (reconsiderTarget t s).cs = s.cs := by
  unfold reconsiderTarget; split <;> simp

@[simp] theorem cutChime_cs (k : WarnKind) (t : WarnTarget) (s : State) :
    (cutChime k t s).cs = s.cs := by
  unfold cutChime; (repeat' split) <;> rfl

@[simp] theorem updateWarning_cs (k : WarnKind) (t : WarnTarget) (f : Warning → Warning) (s : State) :
    (updateWarning k t f s).cs = s.cs := rfl

@[simp] theorem raiseWarning_cs (k : WarnKind) (t : WarnTarget) (l : WarnLevel) (s : State) :
    (raiseWarning k t l s).cs = s.cs := by
  unfold raiseWarning; split <;> simp

@[simp] theorem removeWarning_cs (k : WarnKind) (t : WarnTarget) (s : State) :
    (removeWarning k t s).cs = s.cs := by
  unfold removeWarning; split <;> simp

@[simp] theorem escalateWarning_cs (k : WarnKind) (t : WarnTarget) (s : State) :
    (escalateWarning k t s).cs = s.cs := by
  simp [escalateWarning]

@[simp] theorem markAcked_cs (k : WarnKind) (t : WarnTarget) (s : State) :
    (markAcked k t s).cs = s.cs := by
  simp [markAcked]

@[simp] theorem handCond_cs (k : WarnKind) (l : WarnLevel) (i : Fin 4) (a b : Bool) (s : State) :
    (handCond k l i a b s).cs = s.cs := by
  unfold handCond; (repeat' split) <;> simp

@[simp] theorem evaluateConds_cs (i : Fin 4) (s : State) :
    (evaluateConds i s).cs = s.cs := by
  simp [evaluateConds]

@[simp] theorem endShort_cs (i : Fin 4) (c : Option (Bool × ShortTarget)) (s : State) :
    (endShort i c s).cs = s.cs := by
  unfold endShort; (repeat' split) <;> simp

@[simp] theorem tellNews_cs (i : Fin 4) (r : Identity) (n : RestNews) (s : State) :
    (tellNews i r n s).cs = s.cs := by
  unfold tellNews; dsimp only; (repeat' split) <;> simp

@[simp] theorem accumulate_cs (i : Fin 4) (t : RtcTime) (s : State) :
    (accumulate i t s).cs = s.cs := by
  unfold accumulate; (repeat' split) <;> simp

@[simp] theorem accumulateAll_cs (t : RtcTime) (s : State) : (accumulateAll t s).cs = s.cs :=
  foldl_keeps State.cs _ (fun s i => accumulate_cs i t s) allRecords s

@[simp] theorem tellVerdict_cs (i : Fin 4) (r : Identity) (t : ShortTarget) (v : RestVerdict) (s : State) :
    (tellVerdict i r t v s).cs = s.cs := by
  unfold tellVerdict; (repeat' split) <;> simp

@[simp] theorem changeClass_cs (i : Fin 4) (r : Bool) (p q : Nat) (a b : Activity) (s : State) :
    (changeClass i r p q a b s).cs = s.cs := by
  unfold changeClass; dsimp only; (repeat' split) <;> simp

@[simp] theorem changeActivity_cs (i : Fin 4) (a : Activity) (r : Bool) (s : State) :
    (changeActivity i a r s).cs = s.cs := by
  unfold changeActivity; dsimp only; (repeat' split) <;> simp

@[simp] theorem loseSlot_cs (i : Fin 4) (s : State) :
    (loseSlot i s).cs = s.cs := by
  unfold loseSlot; dsimp only; (repeat' split) <;> simp

@[simp] theorem markUncertain_cs (x : Bool) (s : State) :
    (markUncertain x s).cs = s.cs := by
  unfold markUncertain; dsimp only; (repeat' split) <;> simp

@[simp] theorem reportQuiet_cs (s : State) :
    (reportQuiet s).cs = s.cs := by
  simp [reportQuiet]

@[simp] theorem testWake_cs (b : Bunk) (s : State) :
    (testWake b s).cs = s.cs := by
  unfold testWake; dsimp only; (repeat' split) <;> simp

@[simp] theorem newPlannedEnd_cs (b : Bunk) (s : State) :
    (newPlannedEnd b s).cs = s.cs := by
  simp [newPlannedEnd]

@[simp] theorem setSunrise_cs (b : Bunk) (x : SunriseState) (p : Option RtcTime) (s : State) :
    (setSunrise b x p s).cs = s.cs := rfl

@[simp] theorem reconcileSunrise_clear_cs (b : Bunk) (s : State) :
    (reconcileSunrise.clear b s).cs = s.cs := by
  simp [reconcileSunrise.clear]

@[simp] theorem reconcileSunrise_place_cs (b : Bunk) {r : GrantAsk} (p : RtcTime) (s : State) (h : r.load ≠ .fridge) :
    (reconcileSunrise.place b r p s).cs = s.cs := by
  simp [reconcileSunrise.place, h]

@[simp] theorem sunriseAsk_ne_fridge (b : Bunk) (p : RtcTime) (s : State) : (sunriseAsk b p s).load ≠ .fridge :=
  bunkZone_ne_fridge b

@[simp] theorem prewarmAsk_ne_fridge (b : Bunk) (p : RtcTime) (s : State) : (prewarmAsk b p s).load ≠ .fridge :=
  (by decide : Load.heater ≠ .fridge)

@[simp] theorem reconcileSunrise_cs (b : Bunk) (s : State) :
    (reconcileSunrise b s).cs = s.cs := by
  unfold reconcileSunrise; dsimp only; (repeat' split) <;> simp

@[simp] theorem setPrewarm_cs (b : Bunk) (x : PrewarmState) (s : State) :
    (setPrewarm b x s).cs = s.cs := by
  unfold setPrewarm; dsimp only; (repeat' split) <;> simp

@[simp] theorem releaseEntryRest_cs (b : Bunk) (s : State) :
    (releaseEntryRest b s).cs = s.cs := by
  unfold releaseEntryRest; (repeat' split) <;> simp

@[simp] theorem placePrewarm_cs (b : Bunk) {r : GrantAsk} (s : State) (h : r.load ≠ .fridge) :
    (placePrewarm b r s).cs = s.cs := by
  unfold placePrewarm; dsimp only; split <;> simp [h]

@[simp] theorem reconcilePrewarm_cs (s : State) :
    (reconcilePrewarm s).cs = s.cs := by
  unfold reconcilePrewarm; dsimp only; (repeat' split) <;> simp

@[simp] theorem prewarmRemoved_cs (c : Removal) (s : State) :
    (prewarmRemoved c s).cs = s.cs := by
  unfold prewarmRemoved; dsimp only; (repeat' split) <;> simp

@[simp] theorem sunriseRemoved_cs (b : Bunk) (c : Removal) (s : State) :
    (sunriseRemoved b c s).cs = s.cs := by
  simp [sunriseRemoved]

@[simp] theorem flashRemoved_cs (b : Bunk) (c : Removal) (s : State) :
    (flashRemoved b c s).cs = s.cs := by
  unfold flashRemoved; (repeat' split) <;> simp

@[simp] theorem leavePrewarm_cs (b : Bunk) (s : State) :
    (leavePrewarm b s).cs = s.cs := by
  unfold leavePrewarm; (repeat' split) <;> simp

@[simp] theorem endRest_cs (b : Bunk) (s : State) :
    (endRest b s).cs = s.cs := by
  unfold endRest; dsimp only; (repeat' split) <;> simp

@[simp] theorem timeoutRest_cs (b : Bunk) (s : State) :
    (timeoutRest b s).cs = s.cs := by
  unfold timeoutRest; (repeat' split) <;> simp

@[simp] theorem ackEntry_cs (k : WarnKind) (t : WarnTarget) (s : State) :
    (ackEntry k t s).cs = s.cs := by
  unfold ackEntry; dsimp only; (repeat' split) <;> simp

@[simp] theorem bunkAck_cs (b : Bunk) (s : State) : (bunkAck b s).1.cs = s.cs :=
  foldl_keeps State.cs _ (fun s w => by simp) _ s

@[simp] theorem tellPlannedEnd_cs (b : Bunk) (m : Bool) (s : State) :
    (tellPlannedEnd b m s).cs = s.cs := by
  unfold tellPlannedEnd; dsimp only; (repeat' split) <;> simp

@[simp] theorem snoozeRest_cs (b : Bunk) (s : State) : (snoozeRest b s).1.cs = s.cs := by
  unfold snoozeRest; (repeat' split) <;> simp

end Sys2Proof.Machine

namespace Sys2Proof.Machine

/-! ## O55: the slot credit through merges, admission, faults and the fridge's own work (R98) -/

/-- The credit reads CS alone. -/
theorem CreditInRange.of_cs {s t : State} (h : CreditInRange s) (e : t.cs = s.cs) : CreditInRange t := by
  unfold CreditInRange; rw [e]; exact h

theorem creditDown_inRange {c : Int} (h : -8 ≤ c ∧ c ≤ 8) : -8 ≤ creditDown c ∧ creditDown c ≤ 8 := by
  unfold creditDown; split <;> omega

theorem creditUp_inRange {c : Int} (h : -8 ≤ c ∧ c ≤ 8) : -8 ≤ creditUp c ∧ creditUp c ≤ 8 := by
  unfold creditUp; split <;> omega

/-- A fold of operations that keep a predicate keeps it. -/
theorem foldl_preserves {α β : Type} (P : α → Prop) {f : α → β → α} (hf : ∀ a b, P a → P (f a b)) :
    ∀ (xs : List β) {a : α}, P a → P (xs.foldl f a)
  | [], _, h => h
  | x :: xs, _, h => foldl_preserves P hf xs (hf _ x h)

/-! ### The merge -/

theorem cutPending_credit {s : State} (h : CreditInRange s) : CreditInRange (cutPending s) := by
  unfold cutPending; split
  · exact creditDown_inRange h
  · exact h

theorem mergeLoad_credit {s : State} (l : Load) (h : CreditInRange s) : CreditInRange (mergeLoad l s) := by
  by_cases hl : l = .fridge
  · subst hl; exact cutPending_credit h
  · exact h.of_cs (mergeLoad_cs hl s)

theorem mergeLoads_credit {s : State} (ls : List Load) (h : CreditInRange s) : CreditInRange (mergeLoads ls s) :=
  foldl_preserves CreditInRange (fun _ l h => mergeLoad_credit l h) ls h

theorem mergeAll_credit {s : State} (h : CreditInRange s) : CreditInRange (mergeAll s) := mergeLoads_credit allLoads h
theorem fridgeLocked_credit {s : State} (h : CreditInRange s) : CreditInRange (fridgeLocked s) := by
  unfold fridgeLocked; split
  · exact h
  · next k _ =>
    show -8 ≤ (if k = .slot then creditDown s.cs.c else s.cs.c) ∧ (if k = .slot then creditDown s.cs.c else s.cs.c) ≤ 8
    split
    · exact creditDown_inRange h
    · exact h

/-! ### Admission, shedding and the review -/

theorem withdraw_credit {s : State} (l : Load) (p : Purpose) (h : CreditInRange s) : CreditInRange (withdraw l p s) := by
  unfold withdraw; split
  · exact h
  · exact mergeLoad_credit l (h.of_cs (dropGrant_cs l p s))

theorem accept_credit {s : State} (g : Grant) (st : Status) (h : CreditInRange s) :
    CreditInRange (accept g st s).state := mergeLoad_credit g.load (h.of_cs (placeGrant_cs g s))

theorem judgeAsk_credit {s : State} (r : GrantAsk) (h : CreditInRange s) : CreditInRange (judgeAsk r s).state := by
  unfold judgeAsk; dsimp only
  (repeat' split) <;> first | exact h | exact accept_credit _ _ h

theorem grantAsk_credit {s : State} (r : GrantAsk) (h : CreditInRange s) : CreditInRange (grantAsk r s).state := by
  unfold grantAsk; dsimp only
  (repeat' split) <;> first | exact h | exact withdraw_credit _ _ h | exact judgeAsk_credit r h

theorem revalidate_credit {s : State} (h : CreditInRange s) : CreditInRange (revalidate s) := by
  have e := foldl_keeps (fun a : State × Nat × Bool => a.1.cs) _
    (readmit_cs (horizon { s with au.pointer := 0 }) (freeCharge { s with au.pointer := 0 }))
  unfold revalidate; dsimp only
  refine mergeAll_credit (h.of_cs ?_)
  split <;> simp [e]

theorem suspendLoad_credit {s : State} (l : Load) (h : CreditInRange s) : CreditInRange (suspendLoad l s) := by
  unfold suspendLoad; exact mergeLoad_credit l h

theorem releaseRestartable_credit {s : State} (l : Load) (h : CreditInRange s) :
    CreditInRange (releaseRestartable l s) := by
  have e := foldl_keeps (fun a : State × Bool => a.1.cs) _ readmitSuspended_cs
  unfold releaseRestartable; dsimp only
  refine mergeLoad_credit l (h.of_cs ?_)
  split <;> simp [e]

theorem holdShed_credit {s : State} (t : RtcTime) (h : CreditInRange s) : CreditInRange (holdShed t s) := by
  unfold holdShed; dsimp only
  refine mergeAll_credit (h.of_cs ?_)
  split <;> simp

theorem reviewAdmission_credit {s : State} (m : Int) (h : CreditInRange s) : CreditInRange (reviewAdmission m s) := by
  unfold reviewAdmission; dsimp only
  refine mergeAll_credit (h.of_cs ?_)
  (repeat' split) <;> simp

/-! ### Faults -/

theorem suspendFor_credit {s : State} (r : FaultReport) (t : Bool) (h : CreditInRange s) :
    CreditInRange (suspendFor r t s) := by
  unfold suspendFor suspend; dsimp only; (repeat' split)
  · exact h
  · exact h
  · exact suspendLoad_credit _ h

theorem enterHold_credit {s : State} (heater : Bool) (h : CreditInRange s) : CreditInRange (enterHold heater s) := by
  unfold enterHold; exact holdShed_credit _ (h.of_cs (by simp))

theorem addCause_credit {s : State} (c : HoldCause) (heater : Bool) (h : CreditInRange s) :
    CreditInRange (addCause c heater s) := by
  have h' : CreditInRange (recordCause c s) := h.of_cs (recordCause_cs c s)
  unfold addCause; split
  · exact h
  · split
    · exact h'
    · exact enterHold_credit heater h'

theorem chargePathHold_credit {s : State} (r : FaultReport) (h : CreditInRange s) :
    CreditInRange (chargePathHold r s) := by
  unfold chargePathHold; split
  · exact addCause_credit _ _ h
  · exact h

theorem takeFault_credit {s : State} (r : FaultReport) (h : CreditInRange s) : CreditInRange (takeFault r s) := by
  unfold takeFault; split
  · exact chargePathHold_credit r (suspendFor_credit r true (h.of_cs (by simp)))
  · split
    · exact chargePathHold_credit r (suspendFor_credit r false (h.of_cs (by simp)))
    · exact chargePathHold_credit r (addCause_credit _ _ (suspendFor_credit r false (h.of_cs (by simp))))

theorem tripOn_credit {s : State} (n : Fin 12) (c : FaultCode) (k : Nat) (h : CreditInRange s) :
    CreditInRange (tripOn n c k s) := by
  unfold tripOn; dsimp only; split
  · exact h
  · have h' : CreditInRange (heaterLocked n (setChan n (lockChannel k (chan n s)) s)) := h.of_cs (by simp)
    split
    · exact takeFault_credit _ (fridgeLocked_credit h')
    · exact takeFault_credit _ h'

theorem overheat_credit {s : State} (h : CreditInRange s) : CreditInRange (overheat s) :=
  takeFault_credit _ (h.of_cs (heaterOverheats_cs s))

/-! ### Removals and releases -/

theorem placeCooling_credit {s : State} (h : CreditInRange s) : CreditInRange (placeCooling s) :=
  mergeLoad_credit .fridge (h.of_cs (internalRequest_cs _ _ _ _ s))

theorem reportRemoval_credit {s : State} (l : Load) (p : Purpose) (c : Removal) (h : CreditInRange s) :
    CreditInRange (reportRemoval l p c s) := by
  unfold reportRemoval; split
  case h_6 =>
    split
    · exact placeCooling_credit h
    · exact h
  all_goals exact h.of_cs (by simp)

theorem removeEntry_credit {s : State} (l : Load) (p : Purpose) (c : Removal) (h : CreditInRange s) :
    CreditInRange (removeEntry l p c s) := by
  unfold removeEntry; split
  · exact h
  · exact reportRemoval_credit l p c (mergeLoad_credit l (h.of_cs (dropGrant_cs l p s)))

theorem releaseNonRestartable_credit {s : State} (l : Load) (h : CreditInRange s) :
    CreditInRange (releaseNonRestartable l s) := by
  have e : ∀ gone : List Grant, (gone.foldl (fun s g => dropGrant g.load g.purpose s) s).cs = s.cs := fun gone =>
    foldl_keeps State.cs _ (fun s g => dropGrant_cs g.load g.purpose s) gone s
  unfold releaseNonRestartable; dsimp only
  exact foldl_preserves CreditInRange (fun _ g h => reportRemoval_credit g.load g.purpose _ h) _
    (mergeLoad_credit l (h.of_cs (e _)))

theorem releaseSuspension_credit {s : State} (e : Suspension) (h : CreditInRange s) :
    CreditInRange (releaseSuspension e s) := by
  unfold releaseSuspension; dsimp only; split
  · exact releaseRestartable_credit e.load h
  · exact releaseNonRestartable_credit e.load h

theorem expireGrant_credit {s : State} (l : Load) (p : Purpose) (h : CreditInRange s) :
    CreditInRange (expireGrant l p s) := by
  unfold expireGrant; split
  · split
    · exact removeEntry_credit l p _ h
    · exact h
  · exact h

theorem startGrant_credit {s : State} (l : Load) (p : Purpose) (h : CreditInRange s) :
    CreditInRange (startGrant l p s) := by
  unfold startGrant; split
  · split
    · exact mergeLoad_credit l h
    · exact h
  · exact h

theorem passStoredTimes_credit {s : State} (h : CreditInRange s) : CreditInRange (passStoredTimes s) := by
  unfold passStoredTimes
  exact foldl_preserves CreditInRange (fun _ g h => startGrant_credit g.load g.purpose h) _
    (foldl_preserves CreditInRange (fun _ g h => expireGrant_credit g.load g.purpose h) _ h)

/-! ### The wiring check's end and the fridge -/

theorem finishCheck_credit {s : State} (c : Bool) (r : WiringRun) (v : Vector WiringResult 12) (h : CreditInRange s) :
    CreditInRange (finishCheck c r v s) := by
  have h' : CreditInRange (revalidate (notifyBoth .checkDone (endTest { s with
      ca.check := none
      ca.results := some { completed := c, startTime := r.startTime, endTime := now s, results := v } }))) :=
    revalidate_credit h
  unfold finishCheck; dsimp only
  split <;> exact h'.of_cs (by simp)

theorem abortCheck_credit {s : State} (h : CreditInRange s) : CreditInRange (abortCheck s) := by
  unfold abortCheck; split
  · exact h
  · exact finishCheck_credit _ _ _ h

theorem decideRun_credit {s : State} (h : CreditInRange s) : CreditInRange (decideRun s) := by
  unfold decideRun; dsimp only
  refine cutPending_credit ?_
  split
  · exact abortCheck_credit h
  · exact h

/-- A slot due moves the credit by one down, and stops at −8 (R104). -/
theorem decideSlot_credit {s : State} (due : RtcTime) (h : CreditInRange s) : CreditInRange (decideSlot due s) := by
  have hc : -8 ≤ s.cs.c ∧ s.cs.c ≤ 8 := h
  unfold decideSlot; dsimp only; split
  · show -8 ≤ s.cs.c - 1 ∧ s.cs.c - 1 ≤ 8
    omega
  · split
    · exact creditDown_inRange h
    · split
      · next hp =>
        have : -8 < s.cs.c := of_decide_eq_true (Bool.and_eq_true_iff.1 hp).2
        show -8 ≤ s.cs.c - 1 ∧ s.cs.c - 1 ≤ 8
        omega
      · exact decideRun_credit h

theorem slotFallsDue_credit {s : State} (due next : RtcTime) (h : CreditInRange s) :
    CreditInRange (slotFallsDue due next s) := by
  unfold slotFallsDue; exact decideSlot_credit due h

theorem slotAtOnce_credit {s : State} (h : CreditInRange s) : CreditInRange (slotAtOnce s) := by
  unfold slotAtOnce; exact slotFallsDue_credit _ _ h

theorem reformDue_credit {s : State} (h : CreditInRange s) : CreditInRange (reformDue s) := by
  unfold reformDue; dsimp only; split
  · split
    · exact slotAtOnce_credit h
    · exact h
  · exact h

theorem setMode_credit {s : State} (m : RateMode) (h : CreditInRange s) : CreditInRange (setMode m s) := by
  unfold setMode; split
  · exact h
  · exact reformDue_credit h

theorem cabinToFridge_credit {s : State} (t : Int) (h : CreditInRange s) : CreditInRange (cabinToFridge t s) := by
  unfold cabinToFridge; split
  · exact h
  · exact setMode_credit _ h

theorem completedCredit_inRange (k : RunKind) {c : Int} (h : -8 ≤ c ∧ c ≤ 8) :
    -8 ≤ completedCredit k c ∧ completedCredit k c ≤ 8 := by
  cases k
  case slot | override_ => exact h
  case catchUp | pullIn => exact creditUp_inRange h

theorem setWarm_credit {s : State} (h : CreditInRange s) : CreditInRange (setWarm s) := by
  have h' : CreditInRange { s with cs.warm := true } := h
  exact h'.of_cs (raiseWarning_cs _ _ _ _)

theorem clearWarm_credit {s : State} (h : CreditInRange s) : CreditInRange (clearWarm s) := by
  have h' : CreditInRange { s with cs.warm := false } := h
  exact h'.of_cs (removeWarning_cs _ _ _)

theorem completeRun_credit {s : State} (k : RunKind) (h : CreditInRange s) : CreditInRange (completeRun k s) := by
  have h' : CreditInRange (endRun { s with cs.c := completedCredit k s.cs.c }) := completedCredit_inRange k h
  unfold completeRun; dsimp only; split
  · exact setWarm_credit h'
  · exact h'

theorem setFridge_credit {s : State} (on : Bool) (h : CreditInRange s) : CreditInRange (setFridge on s) := by
  unfold setFridge; dsimp only; split
  · exact h
  · split
    · exact placeCooling_credit (show (-8 : Int) ≤ 0 ∧ (0 : Int) ≤ 8 by decide)
    · refine clearWarm_credit (withdraw_credit _ _ ?_)
      split <;> exact h

end Sys2Proof.Machine

namespace Sys2Proof.Machine

/-! ## O55: the charge range through what the rests' frame leaves alone (R5) -/

/-- The charge's range reads nothing that a rest's work may write. -/
theorem chargeInRange_besideRests (s : State) : ChargeInRange (besideRests s) ↔ ChargeInRange s := Iff.rfl

theorem ChargeInRange.of_rests {s t : State} (e : besideRests t = besideRests s) (h : ChargeInRange s) :
    ChargeInRange t := by
  rw [← chargeInRange_besideRests, e]; exact h

@[simp] theorem tripOn_besideRests (n : Fin 12) (c : FaultCode) (k : Nat) (s : State) :
    besideRests (tripOn n c k s) = besideRests s := besideRests_of_faults (by simp)

@[simp] theorem enterIgnite_besideRests (s : State) : besideRests (enterIgnite s) = besideRests s :=
  besideRests_of_grants (by simp)

@[simp] theorem enterRun_besideRests (s : State) : besideRests (enterRun s) = besideRests s :=
  besideRests_of_grants (by simp)

@[simp] theorem chooseStage_besideRests (s : State) : besideRests (chooseStage s) = besideRests s :=
  besideRests_of_grants (by simp)

@[simp] theorem enterPurge_besideRests (f : FollowOn) (b : Bool) (c : Option LockCause) (s : State) :
    besideRests (enterPurge f b c s) = besideRests s := besideRests_of_grants (by simp)

@[simp] theorem completePurge_besideRests (s : State) : besideRests (completePurge s) = besideRests s :=
  besideRests_of_grants (by simp)

@[simp] theorem standbyRestart_besideRests (s : State) : besideRests (standbyRestart s) = besideRests s :=
  besideRests_of_grants (by simp)

@[simp] theorem flameFailed_besideRests (s : State) : besideRests (flameFailed s) = besideRests s :=
  besideRests_of_grants (by simp)

@[simp] theorem testChannels_besideRests (n : Fin 12) (s : State) : besideRests (testChannels n s) = besideRests s :=
  besideRests_of_grants (by simp)

@[simp] theorem fanUnlocked_besideRests (s : State) : besideRests (fanUnlocked s) = besideRests s :=
  besideRests_of_grants (by simp)

@[simp] theorem clearLockoutPhase_besideRests (s : State) : besideRests (clearLockoutPhase s) = besideRests s :=
  besideRests_of_grants (by simp)

@[simp] theorem reviewAdmission_besideRests (m : Int) (s : State) : besideRests (reviewAdmission m s) = besideRests s :=
  besideRests_of_grants (by simp)

@[simp] theorem updateWarning_besideRests (k : WarnKind) (t : WarnTarget) (f : Warning → Warning) (s : State) :
    besideRests (updateWarning k t f s) = besideRests s := rfl

@[simp] theorem purgeAndMerge_besideRests (f : FollowOn) (c : Option LockCause) (s : State) :
    besideRests (purgeAndMerge f c s) = besideRests s := by
  simp [purgeAndMerge]

@[simp] theorem beginStep_besideRests (n : Fin 12) (t : RtcTime) (v : Vector WiringResult 12) (s : State) :
    besideRests (beginStep n t v s) = besideRests s := by
  simp [beginStep]

@[simp] theorem endStep_besideRests (c : WiringClass) (k : Nat) (r : WiringRun) (s : State) :
    besideRests (endStep c k r s) = besideRests s := by
  unfold endStep; dsimp only; split <;> simp

@[simp] theorem tripStep_besideRests (n : Fin 12) (k : Nat) (s : State) : besideRests (tripStep n k s) = besideRests s := by
  unfold tripStep; (repeat' split) <;> simp

@[simp] theorem openLoadFires_besideRests (n : Fin 12) (s : State) : besideRests (openLoadFires n s) = besideRests s := by
  unfold openLoadFires; dsimp only; split <;> simp

@[simp] theorem returnChannel_besideRests (n : Fin 12) (s : State) : besideRests (returnChannel n s) = besideRests s := by
  unfold returnChannel; dsimp only; split <;> simp

@[simp] theorem releaseUntied_besideRests (l : Load) (f : FaultSource → Bool) (s : State) :
    besideRests (releaseUntied l f s) = besideRests s := by
  unfold releaseUntied; (repeat' split) <;> simp

end Sys2Proof.Machine

namespace Sys2Proof.Machine

/-! ### The conversion -/

/-- A sample charge leaves the count within 0..C_nom and the residue below one mAh (R5). -/
theorem integrate_inRange (cnom q r : Nat) (x : Int) : (integrate cnom q r x).1 ≤ cnom ∧ (integrate cnom q r x).2 < 3600 := by
  unfold integrate; dsimp only
  split
  · simp
  · split
    · simp
    · simp only; omega

theorem fullDetector_charge {s : State} (i : Int) (v : Nat) (h : ChargeInRange s) :
    ChargeInRange (fullDetector i v s) := by
  unfold fullDetector; dsimp only; (repeat' split)
  case isTrue.isTrue | isTrue.isFalse | isFalse.isFalse => exact h
  case isFalse.isTrue => exact ⟨Nat.le_refl _, Nat.zero_lt_succ 3599⟩

theorem floorDetector_charge {s : State} (i : Int) (v : Nat) (h : ChargeInRange s) :
    ChargeInRange (floorDetector i v s) := by
  unfold floorDetector floorFires; dsimp only; (repeat' split)
  case isTrue | isFalse.isFalse => exact h
  case isFalse.isTrue.isFalse => exact h
  case isFalse.isTrue.isTrue lower =>
    have hq : floorCount s ≤ s.policy.p01 := (Nat.le_of_lt (of_decide_eq_true lower)).trans h.1
    exact .of_rests (revalidate_besideRests _) ⟨hq, Nat.zero_lt_succ 3599⟩

theorem goodSample_charge {s : State} (i : Int) (v : Nat) : ChargeInRange (goodSample i v s) :=
  floorDetector_charge i v (fullDetector_charge i v (integrate_inRange _ _ _ _))

theorem passedCheck_charge {s : State} (i : Int) (v : Nat) (h : ChargeInRange s) :
    ChargeInRange (passedCheck i v s) := by
  unfold passedCheck; dsimp only; (repeat' split)
  · exact h
  · exact goodSample_charge i v
  · exact goodSample_charge i v

theorem failedCheck_charge {s : State} (h : ChargeInRange s) : ChargeInRange (failedCheck s) := by
  unfold failedCheck; dsimp only; split
  · exact .of_rests (takeFault_besideRests _ _) h
  · exact h

theorem clearDetector_charge {s : State} (v : Nat) (h : ChargeInRange s) : ChargeInRange (clearDetector v s) := by
  unfold clearDetector; dsimp only; (repeat' split) <;> exact h

theorem conversionAt_charge {s : State} (t : Nat) (shunt volt : Int) (pass : Bool) (h : ChargeInRange s) :
    ChargeInRange (conversionAt t shunt volt pass s) := by
  unfold conversionAt; dsimp only
  refine clearDetector_charge _ ?_
  split
  · exact passedCheck_charge _ _ h
  · exact failedCheck_charge h

theorem fullDetection_charge {s : State} (shunt volt : Int) (h : ChargeInRange s) :
    ChargeInRange (fullDetection shunt volt s) := by
  unfold fullDetection; (repeat' split) <;> first | exact conversionAt_charge _ _ _ _ h | exact h

theorem floorCorrection_charge {s : State} (shunt volt : Int) (h : ChargeInRange s) :
    ChargeInRange (floorCorrection shunt volt s) := by
  unfold floorCorrection; (repeat' split) <;> first | exact conversionAt_charge _ _ _ _ h | exact h

theorem floorClear_charge {s : State} (shunt volt : Int) (pass : Bool) (h : ChargeInRange s) :
    ChargeInRange (floorClear shunt volt pass s) := by
  unfold floorClear; (repeat' split) <;> first | exact conversionAt_charge _ _ _ _ h | exact h

theorem battTemp_charge {s : State} (x : TempResult) (h : ChargeInRange s) : ChargeInRange (battTemp x s) := by
  unfold battTemp; dsimp only; split
  · exact h
  · exact h
  · exact .of_rests (takeFault_besideRests _ _) h

/-! ### Seeding and the policy -/

theorem seed_charge {s : State} (q : Nat) : ChargeInRange (seed q s) :=
  .of_rests (revalidate_besideRests _) ⟨Nat.min_le_right _ _, Nat.zero_lt_succ 3599⟩

/-- A new capacity lowers the count to it (R8). -/
theorem applyCapacity_charge {s : State} (h : s.cm.r < 3600) : ChargeInRange (applyCapacity s) := by
  have hr : ∀ x : State, x.cm.q ≤ x.policy.p01 → x.cm.r < 3600 →
      ChargeInRange (if x.policy.p01 < 2 * x.policy.p02 then { x with policy.p02 := x.policy.p01 / 2 } else x) := by
    intro x hq hr; split <;> exact ⟨hq, hr⟩
  unfold applyCapacity; dsimp only; split
  · exact hr _ (Nat.le_refl _) (Nat.zero_lt_succ 3599)
  · exact hr _ (Nat.le_of_not_lt ‹_›) h

/-- No item but P01 moves the capacity (R22). -/
theorem storeItem_p01 {id : Nat} (h : id ≠ 1) (v : Nat) (p : Policy) : (storeItem id v p).p01 = p.p01 := by
  unfold storeItem; split <;> first | rfl | exact absurd rfl h

theorem applySettings_besideRests (old : Nat) (s : State) : besideRests (applySettings old s) = besideRests s := by
  unfold applySettings
  exact foldl_keeps besideRests _ (fun s i => by split <;> simp) _ s

theorem applyEscalation_besideRests (s : State) : besideRests (applyEscalation s) = besideRests s := by
  unfold applyEscalation
  exact foldl_keeps besideRests _ (fun s i => by split <;> simp) _ s

theorem applyRate_besideRests (id : Nat) (s : State) : besideRests (applyRate id s) = besideRests s := by
  unfold applyRate; (repeat' split) <;> simp

/-- No item but P01, P51 and P54 moves another: what its owner does is the grant table's, a fault's or a rest's work. -/
theorem applyItem_besideRests {id : Nat} (h1 : id ≠ 1) (h51 : id ≠ 51) (h54 : id ≠ 54) (old : Nat) (s : State) :
    besideRests (applyItem id old s) = besideRests s := by
  unfold applyItem; split <;>
    first | contradiction | simp [applySettings_besideRests, applyEscalation_besideRests, applyRate_besideRests]

theorem applyItem_charge {s : State} {id : Nat} (hid : id ≠ 1) (old : Nat) (h : ChargeInRange s) :
    ChargeInRange (applyItem id old s) := by
  by_cases h51 : id = 51
  · subst h51; exact h
  by_cases h54 : id = 54
  · subst h54; exact h
  exact .of_rests (applyItem_besideRests hid h51 h54 old s) h

theorem changeItem_charge {s : State} (id old new : Nat) (h : ChargeInRange s) :
    ChargeInRange (changeItem id old new s) := by
  have h' : ChargeInRange (if id = 59 then accumulateAll (now s) s else s) := by
    split
    · exact .of_rests (accumulateAll_besideRests _ _) h
    · exact h
  unfold changeItem; dsimp only
  by_cases hid : id = 1
  · subst hid
    exact .of_rests (revalidate_besideRests _) (applyCapacity_charge h.2)
  · refine applyItem_charge hid old ⟨?_, h'.2⟩
    show _ ≤ (storeItem id new _).p01
    rw [storeItem_p01 hid]; exact h'.1

theorem setPolicy_charge {s : State} (id v : Nat) (h : ChargeInRange s) : ChargeInRange (setPolicy id v s).state := by
  unfold setPolicy; split
  · exact h
  · dsimp only; (repeat' split)
    · exact h
    · exact h
    · exact changeItem_charge _ _ _ h

/-! ### The resets -/

theorem resetMainDomain_charge {s : State} (h : ChargeInRange s) : ChargeInRange (resetMainDomain s) := h
theorem powerOnReset_charge {s : State} : ChargeInRange (powerOnReset s) := by
  show 112500 ≤ 225000 ∧ 0 < 3600
  decide

theorem reportDegraded_besideRests (s : State) : besideRests (reportDegraded s) = besideRests s := by
  simp [reportDegraded]

theorem restartHeater_besideRests (s : State) : besideRests (restartHeater s) = besideRests s := by
  unfold restartHeater; (repeat' split) <;> simp

theorem restartFridge_besideRests (s : State) : besideRests (restartFridge s) = besideRests s := by
  unfold restartFridge; dsimp only; (repeat' split) <;> simp

theorem handShort_besideRests (i : Fin 4) (s : State) : besideRests (handShort i s) = besideRests s := by
  unfold handShort; split <;> simp

theorem restartRests_besideRests (s : State) : besideRests (restartRests s) = besideRests s := by
  have e := foldl_keeps besideRests _ (fun s i => (handShort_besideRests i (evaluateConds i s)).trans
    (evaluateConds_besideRests i s)) allRecords
  unfold restartRests; dsimp only
  simp [e]

end Sys2Proof.Machine

namespace Sys2Proof.Machine

/-! ### Inputs and handsets -/

theorem inputWakes_besideRests (n : Fin 8) (x : Bool) (s : State) : besideRests (inputWakes n x s) = besideRests s := by
  unfold inputWakes; dsimp only; (repeat' split) <;> simp

theorem fixedFunction_charge {s : State} (n : Fin 8) (h : ChargeInRange s) : ChargeInRange (fixedFunction n s) := by
  have place : ChargeInRange (placeAsk (courtesyAsk s) s).1 := .of_rests (placeAsk_besideRests _ _) h
  have press : ∀ b, ChargeInRange (buttonPress b s).1 := fun b => .of_rests (buttonPress_besideRests b s) h
  unfold fixedFunction; dsimp only; split
  · exact h
  · exact .of_rests (overheat_besideRests _) h
  · exact place
  · exact press .lower
  · exact press .upper
  · exact h

theorem inputEvent_charge {s : State} (n : Fin 8) (h : ChargeInRange s) : ChargeInRange (inputEvent n s) := by
  unfold inputEvent; dsimp only
  refine fixedFunction_charge n (.of_rests (inputWakes_besideRests _ _ _) ?_)
  (repeat' split) <;> exact h

theorem takeRaw_charge {s : State} (n : Fin 8) (h : ChargeInRange s) : ChargeInRange (takeRaw n s) := by
  unfold takeRaw; dsimp only; (repeat' split)
  · exact h
  · exact h
  · exact inputEvent_charge n h

theorem restartInput_charge {s : State} (n : Fin 8) (h : ChargeInRange s) : ChargeInRange (restartInput n s) := by
  unfold restartInput; dsimp only; split
  · exact h
  · exact takeRaw_charge n h

theorem rawChange_charge {s : State} (n : Fin 8) (x : Bool) (h : ChargeInRange s) : ChargeInRange (rawChange n x s) := by
  have hp : ChargeInRange (setPin n x s) := h
  unfold rawChange; dsimp only; (repeat' split)
  · exact h
  · exact hp
  · exact hp
  · exact takeRaw_charge n hp

theorem debounceExpiry_charge {s : State} (n : Fin 8) (h : ChargeInRange s) : ChargeInRange (debounceExpiry n s) := by
  unfold debounceExpiry; dsimp only; split
  · exact takeRaw_charge n h
  · exact h

theorem applyKey_charge {s : State} (b : Bunk) (i k : Byte) (h : ChargeInRange s) : ChargeInRange (applyKey b i k s) := by
  have hk : ChargeInRange (keyAction b k s).1 := .of_rests (keyAction_besideRests _ _ _) h
  exact hk

theorem takeFrame_charge {s : State} (i k : Byte) (h : ChargeInRange s) : ChargeInRange (takeFrame i k s) := by
  unfold takeFrame; dsimp only; (repeat' split)
  · exact h
  · exact .of_rests (wake_besideRests _ _) (applyKey_charge _ i k h)
  · exact .of_rests (wake_besideRests _ _) h
  · exact h

theorem takeRepeat_charge {s : State} (h : ChargeInRange s) : ChargeInRange (takeRepeat s) := by
  have hw : ChargeInRange (wake .handset s) := .of_rests (wake_besideRests _ _) h
  unfold takeRepeat; dsimp only; (repeat' split)
  · exact applyKey_charge _ _ _ hw
  · exact hw
  · exact hw
  · exact h

theorem handsetFrame_charge {s : State} (i k : Byte) (e : Nat) (h : ChargeInRange s) :
    ChargeInRange (handsetFrame i k e s) := by
  unfold handsetFrame; split
  · exact takeFrame_charge i k h
  · exact h

theorem handsetRepeat_charge {s : State} (e : Nat) (h : ChargeInRange s) : ChargeInRange (handsetRepeat e s) := by
  unfold handsetRepeat; split
  · exact takeRepeat_charge h
  · exact h

/-! ### The end of a main reset, and the clocks -/

theorem endMainReset_charge {s : State} (x : ResetHold) (h : ChargeInRange s) : ChargeInRange (endMainReset x s) := by
  unfold endMainReset restartInputs; dsimp only
  have hr : ∀ y : State, ChargeInRange y → ChargeInRange (restartRests (restartFridge (resetPorts (restartHeater y)))) :=
    fun y hy => .of_rests (restartRests_besideRests _) (.of_rests (restartFridge_besideRests _)
      (show ChargeInRange (resetPorts (restartHeater y)) from
        (ChargeInRange.of_rests (restartHeater_besideRests y) hy : ChargeInRange (restartHeater y))))
  have hi : ∀ y : State, ChargeInRange y →
      ChargeInRange (([0, 1, 2, 3, 4, 5, 6, 7] : List (Fin 8)).foldl (fun s n => restartInput n s) y) := fun y hy =>
    foldl_preserves ChargeInRange (fun _ n h => restartInput_charge n h) _ hy
  split
  · exact .of_rests (reportDegraded_besideRests _) (hi _ (hr _ h))
  · exact hi _ (hr _ h)

theorem mainResetEnd_charge {s : State} (h : ChargeInRange s) : ChargeInRange (mainResetEnd s) := by
  unfold mainResetEnd; split
  · exact endMainReset_charge _ h
  · exact h

theorem stopCrystal_charge {s : State} (h : ChargeInRange s) : ChargeInRange (stopCrystal s) := by
  unfold stopCrystal unlessReset; (repeat' split)
  · exact h
  · exact .of_rests (reportDegraded_besideRests _) h
  · exact h

theorem returnCrystal_charge {s : State} (h : ChargeInRange s) : ChargeInRange (returnCrystal s) := by
  unfold returnCrystal unlessReset; dsimp only; (repeat' split) <;> exact h

theorem startStable_charge {s : State} (h : ChargeInRange s) : ChargeInRange (startStable s) := by
  unfold startStable; split <;> exact h

theorem enterDoze_charge {s : State} (h : ChargeInRange s) : ChargeInRange (enterDoze s) := by
  unfold enterDoze; dsimp only; (repeat' split) <;> exact h

theorem leaveDoze_charge {s : State} (h : ChargeInRange s) : ChargeInRange (leaveDoze s) := by
  unfold leaveDoze; dsimp only; split
  · exact .of_rests (syncDoze_besideRests _) h
  · exact h

theorem restTimeSet_besideRests (s : State) : besideRests (restTimeSet s) = besideRests s := by
  unfold restTimeSet; dsimp only; simp

theorem setTime_charge {s : State} (t : RtcTime) (h : ChargeInRange s) : ChargeInRange (setTime t s) := by
  have hr : ChargeInRange (restTimeSet (accumulateAll (now s)
      { s with tu.rtc := t, tu.subSecond := 0, tu.timeSet := true })) :=
    .of_rests (restTimeSet_besideRests _) (ChargeInRange.of_rests (accumulateAll_besideRests _ _) h)
  unfold setTime; dsimp only
  refine .of_rests (?_ : besideRests _ = besideRests _) hr
  (repeat' split) <;> simp

/-! ### The review -/

theorem markReviewed_besideRests (s : State) : besideRests (markReviewed s) = besideRests s :=
  syncDoze_besideRests { s with tu.postExit := true }

theorem review_charge {s : State} (h : ChargeInRange s) : ChargeInRange (review s) := by
  have hand : ∀ x, ChargeInRange x → ChargeInRange (handReview (reviewAdmission x.cm.winMean x)) := fun x hx =>
    .of_rests (by simp) hx
  have close : ∀ x, ChargeInRange x →
      ChargeInRange (markReviewed (reconcileSunrise .upper (reconcileSunrise .lower x))) := fun x hx =>
    .of_rests (by simp [markReviewed_besideRests]) hx
  have window : ChargeInRange (takeWindow { reach s.au.reviewDue s with
      au.reviewDue := (reach s.au.reviewDue s).tu.clock + secs 60 }) := h
  unfold review; dsimp only
  refine close _ ?_
  split
  · exact .of_rests (addCause_besideRests _ _ _) (hand _ window)
  · exact hand _ window

end Sys2Proof.Machine

namespace Sys2Proof.Machine

/-! ### Channels -/

theorem inrushEnd_charge {s : State} (n : Fin 12) (h : ChargeInRange s) : ChargeInRange (inrushEnd n s) := by
  unfold inrushEnd; dsimp only; split <;> exact h

theorem retryExpiry_charge {s : State} (n : Fin 12) (h : ChargeInRange s) : ChargeInRange (retryExpiry n s) := by
  unfold retryExpiry; dsimp only; split <;> exact h

theorem channelShort_charge {s : State} (n : Fin 12) (k : Nat) (h : ChargeInRange s) :
    ChargeInRange (channelShort n k s) := by
  refine .of_rests ?_ h
  unfold channelShort; dsimp only; (repeat' split) <;> simp

theorem channelOvercurrent_charge {s : State} (n : Fin 12) (k : Nat) (h : ChargeInRange s) :
    ChargeInRange (channelOvercurrent n k s) := by
  refine .of_rests ?_ h
  unfold channelOvercurrent; dsimp only; (repeat' split) <;> simp

theorem fade_charge {s : State} (n : Fin 12) (k : Nat) (h : ChargeInRange s) : ChargeInRange (fade n k s) := by
  unfold fade; dsimp only; split <;> exact h

theorem fuelPumpPulse_charge {s : State} (k : Nat) (h : ChargeInRange s) : ChargeInRange (fuelPumpPulse k s) := by
  unfold fuelPumpPulse; dsimp only; (repeat' split)
  · exact .of_rests (openLoadFires_besideRests _ _) h
  · exact h
  · exact h

theorem openLoad_charge {s : State} (n : Fin 12) (k : Nat) (h : ChargeInRange s) : ChargeInRange (openLoad n k s) := by
  unfold openLoad; dsimp only; (repeat' split)
  · exact fuelPumpPulse_charge k h
  · exact h
  · exact .of_rests (openLoadFires_besideRests _ _) h
  · exact h

theorem wiringStepEnd_charge {s : State} (x : Bool) (k : Nat) (h : ChargeInRange s) :
    ChargeInRange (wiringStepEnd x k s) := by
  unfold wiringStepEnd; (repeat' split)
  · exact h
  · exact .of_rests (endStep_besideRests _ _ _ _) h
  · exact h
  · exact .of_rests (endStep_besideRests _ _ _ _) h
  · exact h

/-! ### The heater and the fridge -/

theorem cabinValue_besideRests (t : Int) (s : State) : besideRests (cabinValue t s) = besideRests s := by
  unfold cabinValue satisfiedTest; dsimp only; split <;> simp

theorem cabinFailed_besideRests (c : FaultCode) (s : State) : besideRests (cabinFailed c s) = besideRests s := by
  unfold cabinFailed; dsimp only; split <;> simp

theorem cabinTemp_charge {s : State} (x : TempResult) (h : ChargeInRange s) : ChargeInRange (cabinTemp x s) := by
  unfold cabinTemp; dsimp only; split
  · exact .of_rests (cabinValue_besideRests _ _) h
  · exact h
  · exact .of_rests (cabinFailed_besideRests _ _) h

theorem flameValue_besideRests (t : Int) (s : State) : besideRests (flameValue t s) = besideRests s := by
  unfold flameValue flameWatch judgeFlame; dsimp only; (repeat' split) <;> simp

theorem flameKept_besideRests (s : State) : besideRests (flameKept s) = besideRests s := by
  unfold flameKept judgeFlame; (repeat' split) <;> simp

theorem flameTemp_charge {s : State} (x : TempResult) (h : ChargeInRange s) : ChargeInRange (flameTemp x s) := by
  unfold flameTemp; dsimp only; split
  · exact .of_rests (flameValue_besideRests _ _) h
  · exact .of_rests (flameKept_besideRests _) h
  · exact .of_rests (takeFault_besideRests _ _) (ChargeInRange.of_rests (flameFailed_besideRests _) h)

/-- A phase timer moves the clock, and its act works in its phase alone. -/
theorem phaseExpiry_charge {s : State} {p : HeaterPhase} {due : Option Nat} {act : State → State}
    (hact : ∀ x, besideRests (act x) = besideRests x) (h : ChargeInRange s) :
    ChargeInRange (phaseExpiry p due act s) := by
  unfold phaseExpiry; (repeat' split)
  · exact .of_rests (hact _) h
  · exact h
  · exact h

theorem ignitionFails_besideRests (s : State) : besideRests (ignitionFails s) = besideRests s := by
  unfold ignitionFails; dsimp only; split <;> simp

theorem regulate_besideRests (s : State) : besideRests (regulate s) = besideRests s := by
  simp [regulate]

theorem flameGone_besideRests (s : State) : besideRests (flameGone s) = besideRests s := by
  unfold flameGone; dsimp only; split <;> simp

theorem preheatExpiry_charge {s : State} (h : ChargeInRange s) : ChargeInRange (preheatExpiry s) :=
  phaseExpiry_charge enterIgnite_besideRests h

theorem ignitionExpiry_charge {s : State} (h : ChargeInRange s) : ChargeInRange (ignitionExpiry s) :=
  phaseExpiry_charge ignitionFails_besideRests h

theorem regulationExpiry_charge {s : State} (h : ChargeInRange s) : ChargeInRange (regulationExpiry s) :=
  phaseExpiry_charge regulate_besideRests h

theorem provenExpiry_charge {s : State} (h : ChargeInRange s) : ChargeInRange (provenExpiry s) :=
  phaseExpiry_charge (fun _ => rfl) h

theorem satisfiedExpiry_charge {s : State} (h : ChargeInRange s) : ChargeInRange (satisfiedExpiry s) :=
  phaseExpiry_charge (purgeAndMerge_besideRests _ _) h

theorem flameOutExpiry_charge {s : State} (h : ChargeInRange s) : ChargeInRange (flameOutExpiry s) :=
  phaseExpiry_charge flameGone_besideRests h

theorem glowOff_charge {s : State} (h : ChargeInRange s) : ChargeInRange (glowOff s) := by
  unfold glowOff; dsimp only; (repeat' split) <;> exact h

theorem purgeExpiry_charge {s : State} (h : ChargeInRange s) : ChargeInRange (purgeExpiry s) := by
  unfold purgeExpiry; split
  · exact .of_rests (completePurge_besideRests _) h
  · exact h

theorem cabinetTemp_charge {s : State} (x : TempResult) (h : ChargeInRange s) : ChargeInRange (cabinetTemp x s) := by
  unfold cabinetTemp; dsimp only; split
  · unfold cabinetValue; dsimp only; split
    · exact .of_rests (clearWarm_besideRests _) h
    · exact h
  · exact h
  · exact .of_rests (takeFault_besideRests _ _) (ChargeInRange.of_rests (clearWarm_besideRests _) h)

theorem slotDue_charge {s : State} (h : ChargeInRange s) : ChargeInRange (slotDue s) := by
  unfold slotDue; split
  · exact .of_rests (slotFallsDue_besideRests _ _ _) h
  · exact h

theorem runStart_charge {s : State} (h : ChargeInRange s) : ChargeInRange (runStart s) := by
  unfold runStart; (repeat' split)
  · exact .of_rests (beginRun_besideRests _ _) h
  · exact h
  · exact h

theorem runExpiry_charge {s : State} (h : ChargeInRange s) : ChargeInRange (runExpiry s) := by
  unfold runExpiry; split
  · exact .of_rests (completeRun_besideRests _ _) h
  · exact h

theorem minOffExpiry_charge {s : State} (h : ChargeInRange s) : ChargeInRange (minOffExpiry s) := by
  unfold minOffExpiry; dsimp only; split <;> exact h

/-! ### Rests and warnings -/

theorem accountExpiry_charge {s : State} (h : ChargeInRange s) : ChargeInRange (accountExpiry s) := by
  unfold accountExpiry; dsimp only
  exact .of_rests (reconcilePrewarm_besideRests _) (ChargeInRange.of_rests (accumulateAll_besideRests _ _) h)

theorem quietEnds_charge {s : State} (b : Bunk) (h : ChargeInRange s) : ChargeInRange (quietEnds b s) := by
  refine .of_rests ?_ h
  unfold quietEnds; split <;> simp

theorem wakeLead_charge {s : State} (b : Bunk) (h : ChargeInRange s) : ChargeInRange (wakeLead b s) := by
  refine .of_rests ?_ h
  unfold wakeLead; split <;> simp

theorem plannedEndPassed_charge {s : State} (b : Bunk) (h : ChargeInRange s) : ChargeInRange (plannedEndPassed b s) := by
  refine .of_rests ?_ h
  unfold plannedEndPassed; (repeat' split) <;> simp

theorem escalation_charge {s : State} (k : WarnKind) (t : WarnTarget) (h : ChargeInRange s) :
    ChargeInRange (escalation k t s) := by
  unfold escalation; (repeat' split)
  · exact .of_rests (escalateWarning_besideRests _ _ _) h
  · exact h
  · exact h

theorem flashPhase_charge {s : State} (b : Bunk) (h : ChargeInRange s) : ChargeInRange (flashPhase b s) := by
  unfold flashPhase; dsimp only; split
  · exact .of_rests (mergeLoad_besideRests _ _) h
  · exact h

theorem sunriseStep_charge {s : State} (b : Bunk) (h : ChargeInRange s) : ChargeInRange (sunriseStep b s) := by
  refine .of_rests ?_ h
  unfold sunriseStep; (repeat' split) <;> simp

theorem chimeStart_charge {s : State} (h : ChargeInRange s) : ChargeInRange (chimeStart s) := by
  unfold chimeStart; dsimp only; (repeat' split) <;> exact h

theorem chimeEnd_charge {s : State} (h : ChargeInRange s) : ChargeInRange (chimeEnd s) := by
  unfold chimeEnd; dsimp only; split <;> exact h

/-! ### The receiver -/

theorem checkError_charge {s : State} (e : Nat) (h : ChargeInRange s) : ChargeInRange (checkError e s) := by
  unfold checkError; split <;> exact h

theorem repeatTimeout_charge {s : State} (h : ChargeInRange s) : ChargeInRange (repeatTimeout s) := by
  unfold repeatTimeout; split <;> exact h

theorem closeWindow_charge {s : State} (h : ChargeInRange s) : ChargeInRange (closeWindow s) := by
  unfold closeWindow; dsimp only; split <;> exact h

end Sys2Proof.Machine

namespace Sys2Proof.Machine

/-! ### The ports -/

/-- What the count, the credit and their ranges are read from. -/
def chargeUnits (s : State) : ChargeMonitor × ColdStore × Policy := (s.cm, s.cs, s.policy)

/-- A predicate that reads CM, CS and the policy alone. -/
def ReadsUnits (P : State → Prop) : Prop := ∀ {s t : State}, chargeUnits t = chargeUnits s → P s → P t

theorem chargeInRange_readsUnits : ReadsUnits ChargeInRange := by
  intro s t e h
  simp only [chargeUnits, Prod.mk.injEq] at e
  obtain ⟨hcm, -, hp⟩ := e
  unfold ChargeInRange; rw [hcm, hp]; exact h

theorem creditInRange_readsUnits : ReadsUnits CreditInRange := by
  intro s t e h
  simp only [chargeUnits, Prod.mk.injEq] at e
  exact h.of_cs e.2.1

@[simp] theorem mapPort_units (l : Link) (f : Port → Port) (s : State) :
    chargeUnits (mapPort l f s) = chargeUnits s := by cases l <;> rfl

@[simp] theorem notify_units (l : Link) (n : Notice) (s : State) : chargeUnits (notify l n s) = chargeUnits s :=
  mapPort_units l _ s

@[simp] theorem wake_units (c : WakeCause) (s : State) : chargeUnits (wake c s) = chargeUnits s := by
  unfold wake; split <;> rfl

@[simp] theorem syncDoze_units (s : State) : chargeUnits (syncDoze s) = chargeUnits s := by
  unfold syncDoze; split <;> rfl

@[simp] theorem beginTransfer_units (l : Link) (s : State) : chargeUnits (beginTransfer l s) = chargeUnits s := by
  unfold beginTransfer; dsimp only; (repeat' split)
  · simp
  · rw [wake_units]; exact mapPort_units l _ s
  · exact mapPort_units l _ s

@[simp] theorem openTransfer_units (l : Link) (s : State) : chargeUnits (openTransfer l s) = chargeUnits s := by
  unfold openTransfer; split <;> simp

@[simp] theorem endTransfer_units (l : Link) (s : State) : chargeUnits (endTransfer l s) = chargeUnits s := by
  simp [endTransfer]

@[simp] theorem answer_units (l : Link) (k : Byte) (r : Reply) : chargeUnits (answer l k r) = chargeUnits r.state := by
  simp [answer, placeResponse]

@[simp] theorem clearReleased_units (l : Link) (s : State) : chargeUnits (clearReleased l s) = chargeUnits s :=
  mapPort_units l _ s

@[simp] theorem dropTransfer_units (l : Link) (s : State) : chargeUnits (dropTransfer l s) = chargeUnits s :=
  mapPort_units l _ s

theorem transferStart_units (l : Link) (s : State) : chargeUnits (transferStart l s) = chargeUnits s := by
  unfold transferStart; split <;> simp

theorem emptyTransfer_units (l : Link) (s : State) : chargeUnits (emptyTransfer l s) = chargeUnits s := by
  unfold emptyTransfer; dsimp only; split <;> simp

theorem answerPort_units (l : Link) (k : Byte) (st : Status) (s : State) :
    chargeUnits (answerPort l k st s) = chargeUnits s := by
  unfold answerPort; dsimp only; split <;> simp [refuse]

theorem fetch_units (l : Link) (n : Nat) (s : State) : chargeUnits (fetch l n s) = chargeUnits s := by
  unfold fetch; dsimp only; (repeat' split) <;> simp

/-- A served request keeps what its owner keeps. -/
theorem serve_keeps {P : State → Prop} (hP : ReadsUnits P) {l : Link} {k : Byte} {perform : State → Reply}
    (hp : ∀ x, P x → P (perform x).state) {s : State} (h : P s) : P (serve l k perform s) := by
  have ho : P (clearReleased l (openTransfer l s)) := hP (by simp) h
  unfold serve; dsimp only; split
  · (repeat' split)
    · exact hP (answer_units _ _ _) ho
    · exact hP (answer_units _ _ _) (hp _ ho)
    · exact hP (answer_units _ _ _) ho
  · exact hP (by simp) h

/-- A command of the main domain keeps what its work keeps. -/
theorem unlessReset_keeps {P : State → Prop} {f : State → State} (hf : ∀ x, P x → P (f x)) {s : State} (h : P s) :
    P (unlessReset f s) := by
  unfold unlessReset; split
  · exact h
  · exact hf s h

end Sys2Proof.Machine

namespace Sys2Proof.Machine

/-! ### What the owners of requests leave alone -/

theorem grantReply_state (l : Load) (p : Purpose) (a : Admitted) : (grantReply l p a).state = a.state := by
  unfold grantReply; (repeat' split) <;> rfl

theorem requestGrant_besideRests (l : Link) (load : Load) (p : Purpose) (o : Origin) (v : Level) (e : Option RtcTime)
    (s : State) : besideRests (requestGrant l load p o v e s).state = besideRests s := by
  unfold requestGrant; split
  · rfl
  · rw [grantReply_state, grantAsk_besideRests]

theorem probeGrant_state (l : Load) (p : Purpose) (s : State) : (probeGrant l p s).state = s := by
  unfold probeGrant; split <;> rfl

theorem revokeGrant_besideRests (l : Link) (load : Load) (p : Purpose) (s : State) :
    besideRests (revokeGrant l load p s).state = besideRests s := by
  unfold revokeGrant; (repeat' split) <;> simp [taken, refuse]

theorem ackWarning_besideRests (l : Link) (k : WarnKind) (t : WarnTarget) (s : State) :
    besideRests (ackWarning l k t s).state = besideRests s := by
  unfold ackWarning; (repeat' split) <;> simp [taken, refuse]

theorem releaseChannel_besideRests (r : FaultReport) (s : State) :
    besideRests (releaseChannel r s) = besideRests s := by
  unfold releaseChannel; (repeat' split) <;> simp

theorem releaseTied_besideRests (r : FaultReport) (s : State) : besideRests (releaseTied r s) = besideRests s := by
  unfold releaseTied; (repeat' split) <;> simp

theorem ackFault_besideRests (f : FaultSource) (t : RtcTime) (s : State) :
    besideRests (ackFault f t s).state = besideRests s := by
  unfold ackFault; dsimp only; (repeat' split)
  · rfl
  · rfl
  · simp [taken, releaseTied_besideRests, releaseChannel_besideRests]

theorem readAccount_besideRests (x : AccountSelector) (s : State) :
    besideRests (readAccount x s).state = besideRests s := by
  unfold readAccount; split <;> simp [refuse]

theorem useRecord_besideRests (i : Fin 4) (k : DriverKey) (s : State) :
    besideRests (useRecord i k s) = besideRests s := by
  unfold useRecord; dsimp only; split <;> simp

theorem recordFor_besideRests {k : DriverKey} {s t : State} {i : Fin 4} (e : recordFor k s = some (i, t)) :
    besideRests t = besideRests s := by
  unfold recordFor at e
  split at e
  · cases e; simp
  · split at e
    · cases e; exact useRecord_besideRests _ _ _
    · obtain ⟨j, -, hj⟩ := Option.map_eq_some_iff.1 e
      cases hj; exact useRecord_besideRests _ _ _

theorem bindSlot_besideRests (i : Fin 4) (d : DriverSlot) (s : State) : besideRests (bindSlot i d s) = besideRests s := by
  unfold bindSlot; dsimp only; (repeat' split) <;> simp

theorem useCard_besideRests (d : DriverSlot) (k : DriverKey) (s : State) :
    besideRests (useCard d k s).state = besideRests s := by
  unfold useCard; (repeat' split)
  · simp [taken]
  · rfl
  · rfl
  · next e => rw [bindSlot_besideRests, recordFor_besideRests e]

theorem reportActivity_besideRests (i : Fin 4) (a : Activity) (s : State) :
    besideRests (reportActivity i a s) = besideRests s := by
  unfold reportActivity leaveBunk; dsimp only; (repeat' split) <;> simp

theorem setActivity_besideRests (d : DriverSlot) (a : Activity) (s : State) :
    besideRests (setActivity d a s).state = besideRests s := by
  unfold setActivity; split <;> simp [refuse, taken, reportActivity_besideRests]

theorem moveClass_besideRests (i : Fin 4) (a b : Bool) (s : State) : besideRests (moveClass i a b s) = besideRests s := by
  unfold moveClass; split <;> simp

theorem setMoving_besideRests (m : Bool) (s : State) : besideRests (setMoving m s) = besideRests s := by
  unfold setMoving; dsimp only
  rw [foldl_keeps besideRests _ (fun s i => moveClass_besideRests i _ _ s)]
  exact (besideRests_withRm (accumulateAll (now s) s) _).trans (accumulateAll_besideRests _ s)

theorem swapSlots_besideRests (s : State) : besideRests (swapSlots s) = besideRests s := by
  unfold swapSlots; dsimp only; split <;> simp

theorem endBunkShort_besideRests (b : Bunk) (s : State) : besideRests (endBunkShort b s) = besideRests s := by
  unfold endBunkShort
  exact foldl_keeps besideRests _ (fun s i => by (repeat' split) <;> simp) _ s

theorem bunkRest_besideRests (b : Bunk) (d : DriverSlot) (p : Option RtcTime) (w : Bool) (s : State) :
    besideRests (bunkRest b d p w s).state = besideRests s := by
  unfold bunkRest beginRest updateRest; dsimp only; (repeat' split) <;>
    simp [refuse, taken, endBunkShort_besideRests]

theorem bunkWake_besideRests (b : Bunk) (s : State) : besideRests (bunkWake b s).state = besideRests s := by
  unfold bunkWake; split <;> simp [refuse, taken]

theorem releaseHold_besideRests (s : State) : besideRests (releaseHold s).state = besideRests s := by
  unfold releaseHold; split <;> rfl

theorem clearLockout_besideRests (s : State) : besideRests (clearLockout s).state = besideRests s := by
  unfold clearLockout; split <;> simp [refuse, taken]

theorem clearChannel_besideRests (n : Nat) (s : State) : besideRests (clearChannel n s).state = besideRests s := by
  unfold clearChannel; dsimp only; (repeat' split) <;> simp [refuse, taken]

theorem startCheck_besideRests (s : State) : besideRests (startCheck s).state = besideRests s := by
  unfold startCheck; split <;> simp [refuse, taken]

theorem readCheck_state (s : State) : (readCheck s).state = s := by
  unfold readCheck; (repeat' split) <;> rfl

theorem getPolicy_state (id : Nat) (s : State) : (getPolicy id s).state = s := by
  unfold getPolicy; split <;> rfl

theorem configureInput_charge (n : Nat) (x : InputConfig) {s : State} (h : ChargeInRange s) :
    ChargeInRange (configureInput n x s).state := by
  unfold configureInput; dsimp only; (repeat' split)
  · exact h
  · exact restartInput_charge _ h
  · exact h

/-- A report of section CHARGE clears the over-range flag and nothing else of CM (R2). -/
theorem readStatus_charge (n : Nat) {s : State} (h : ChargeInRange s) : ChargeInRange (readStatus n s).state := by
  unfold readStatus; (repeat' split) <;> exact h

theorem readNotices_units (l : Link) (s : State) : chargeUnits (readNotices l s).state = chargeUnits s := by
  unfold readNotices; dsimp only; split <;> simp

/-- RESTART begins a main reset where it is taken, and is a request like another where it is not (R208). -/
theorem restartPart_keeps {P : State → Prop} (hP : ReadsUnits P) (hr : ∀ x, P x → P (mainReset .restart x)) (l : Link)
    {s : State} (h : P s) : P (restartPart l s) := by
  have ho : P (openTransfer l s) := hP (by simp) h
  have hs : P (serve l 0x5F#8 taken (openTransfer l s)) := serve_keeps hP (fun _ hx => hx) ho
  unfold restartPart; dsimp only; (repeat' split)
  · exact hr _ (hP (by simp) ho)
  · exact hs
  all_goals exact hs

/-! ### Every command keeps the count in range -/

section
variable {s t : State}

theorem performRequest_charge {c : Instr} (h : ChargeInRange s) (e : performRequest c s = .next t) :
    ChargeInRange t := by
  have served : ∀ {l : Link} {k : Byte} {perform : State → Reply}, (∀ x, ChargeInRange x → ChargeInRange (perform x).state) →
      ChargeInRange (serve l k perform s) := fun hp => serve_keeps chargeInRange_readsUnits hp h
  have framed : ∀ {l : Link} {k : Byte} {perform : State → Reply},
      (∀ x, besideRests (perform x).state = besideRests x) → ChargeInRange (serve l k perform s) := fun hp =>
    served fun x hx => .of_rests (hp x) hx
  cases c <;> cases e
  case notices => exact served fun x hx => chargeInRange_readsUnits (readNotices_units _ x) hx
  case noticeEnable => exact served fun x hx => chargeInRange_readsUnits (mapPort_units _ _ x) hx
  case release => exact served fun x hx => chargeInRange_readsUnits (mapPort_units _ _ x) hx
  case statusRead => exact served fun _ hx => readStatus_charge _ hx
  case budgetRead => exact framed fun _ => rfl
  case grantRequest => exact framed (requestGrant_besideRests _ _ _ _ _ _)
  case grantProbe => exact framed fun x => by rw [probeGrant_state]
  case grantRevoke => exact framed (revokeGrant_besideRests _ _ _)
  case ackWarning => exact framed (ackWarning_besideRests _ _ _)
  case warningList => exact framed fun _ => rfl
  case ackFault => exact framed (ackFault_besideRests _ _)
  case faultRead => exact framed fun _ => rfl
  case accountRead => exact framed (readAccount_besideRests _)
  case fridgeSet => exact framed (setFridge_besideRests _)
  case policySet => exact served fun _ hx => setPolicy_charge _ _ hx
  case policyGet => exact framed fun x => by rw [getPolicy_state]
  case policyLock => exact served fun _ hx => hx
  case seedCharge => exact served fun _ _ => seed_charge _
  case timeSet => exact served fun _ hx => setTime_charge _ hx
  case card => exact framed (useCard_besideRests _ _)
  case activity => exact framed (setActivity_besideRests _ _)
  case motion m =>
    exact served fun x hx => by dsimp only [taken]; exact .of_rests (setMoving_besideRests m x) hx
  case slotSwap => exact framed swapSlots_besideRests
  case inputConfig => exact served fun _ hx => configureInput_charge _ _ hx
  case hold => exact framed (addCause_besideRests _ _)
  case releaseHold => exact framed releaseHold_besideRests
  case clearLockout => exact framed clearLockout_besideRests
  case clearChannel => exact framed (clearChannel_besideRests _)
  case wiringCheck => exact framed startCheck_besideRests
  case checkRead => exact framed fun x => by rw [readCheck_state]
  case restart => exact restartPart_keeps chargeInRange_readsUnits (fun _ hx => resetMainDomain_charge hx) _ h
  case bunkRest => exact framed (bunkRest_besideRests _ _ _ _)
  case bunkWake => exact framed (bunkWake_besideRests _)
  case snooze => exact framed (snoozeRest_besideRests _)
  case pairHandset => exact served fun _ hx => hx
  all_goals exact h

end
end Sys2Proof.Machine

namespace Sys2Proof.Machine

theorem undefinedRequest_keeps {P : State → Prop} (hP : ReadsUnits P)
    (hp : ∀ {c : Instr} {s t : State}, P s → performRequest c s = .next t → P t) {l : Link} {bytes : List Byte}
    {s t : State} (h : P s) (e : execUndefinedRequest l bytes s = .next t) : P t := by
  unfold execUndefinedRequest at e
  dsimp only at e
  split at e
  case h_6 => exact hp h e
  all_goals cases e
  · exact hP (emptyTransfer_units _ _) h
  · exact hP (answerPort_units _ _ _ _) h
  · exact hP (answerPort_units _ _ _ _) h
  · exact hP (answerPort_units _ _ _ _) h
  · exact hP (fetch_units _ _ _) h

/-- A request is performed as its frame is. -/
theorem exec_request {c : Instr} {lk : Link × Byte} (hk : requestKind c = some lk) (s : State) :
    exec c s = performRequest c s := by
  cases c <;> cases hk <;> rfl

section
variable {s t : State}

theorem exec_charge {c : Instr} (h : ChargeInRange s) (e : exec c s = .next t) : ChargeInRange t := by
  have event : ∀ {f : State → State}, (∀ x, ChargeInRange x → ChargeInRange (f x)) → ChargeInRange (unlessReset f s) :=
    fun hf => unlessReset_keeps hf h
  have framed : ∀ {f : State → State}, (∀ x, besideRests (f x) = besideRests x) → ChargeInRange (unlessReset f s) :=
    fun hf => event fun x hx => .of_rests (hf x) hx
  cases hk : requestKind c
  case some lk =>
    rw [exec_request hk] at e
    exact performRequest_charge h e
  cases c
  case undefinedRequest => exact undefinedRequest_keeps chargeInRange_readsUnits performRequest_charge h e
  case transferStart => cases e; exact chargeInRange_readsUnits (transferStart_units _ _) h
  case fetch => cases e; exact chargeInRange_readsUnits (fetch_units _ _ _) h
  case kpor => cases e; exact powerOnReset_charge
  case mainReset => cases e; exact resetMainDomain_charge h
  case mainResetEnd => cases e; exact mainResetEnd_charge h
  case crystalStop => cases e; exact stopCrystal_charge h
  case crystalReturn => cases e; exact returnCrystal_charge h
  case crystalEdgesResume => cases e; exact startStable_charge h
  case rtcSecond => cases e; exact h
  case inputRawChange => cases e; exact rawChange_charge _ _ h
  case conversion => cases e; exact event fun _ hx => conversionAt_charge _ _ _ _ hx
  case fullDetection => cases e; exact event fun _ hx => fullDetection_charge _ _ hx
  case floorCorrection => cases e; exact event fun _ hx => floorCorrection_charge _ _ hx
  case voltageFloorClear => cases e; exact event fun _ hx => floorClear_charge _ _ _ hx
  case battTempConversion => cases e; exact event fun _ hx => battTemp_charge _ hx
  case review => cases e; exact event fun _ hx => review_charge hx
  case grantEndReached => cases e; exact framed (expireGrant_besideRests _ _)
  case grantStartReached => cases e; exact framed (startGrant_besideRests _ _)
  case inrushWindowEnd => cases e; exact event fun _ hx => inrushEnd_charge _ hx
  case channelShort => cases e; exact event fun _ hx => channelShort_charge _ _ hx
  case channelOvercurrent => cases e; exact event fun _ hx => channelOvercurrent_charge _ _ hx
  case retryTimerExpiry => cases e; exact event fun _ hx => retryExpiry_charge _ hx
  case openLoadDetected => cases e; exact event fun _ hx => openLoad_charge _ _ hx
  case wiringStepEnd => cases e; exact event fun _ hx => wiringStepEnd_charge _ _ hx
  case cabinTempConversion => cases e; exact event fun _ hx => cabinTemp_charge _ hx
  case flameTempConversion => cases e; exact event fun _ hx => flameTemp_charge _ hx
  case preheatTimerExpiry => cases e; exact event fun _ hx => preheatExpiry_charge hx
  case ignitionTimerExpiry => cases e; exact event fun _ hx => ignitionExpiry_charge hx
  case regulationTimerExpiry => cases e; exact event fun _ hx => regulationExpiry_charge hx
  case flameProvenTimeout => cases e; exact event fun _ hx => provenExpiry_charge hx
  case satisfiedTimeout => cases e; exact event fun _ hx => satisfiedExpiry_charge hx
  case flameOut => cases e; exact event fun _ hx => flameOutExpiry_charge hx
  case purgeGlowOff => cases e; exact event fun _ hx => glowOff_charge hx
  case purgeComplete => cases e; exact event fun _ hx => purgeExpiry_charge hx
  case cabinetTempConversion => cases e; exact event fun _ hx => cabinetTemp_charge _ hx
  case slotDue => cases e; exact event fun _ hx => slotDue_charge hx
  case runStart => cases e; exact event fun _ hx => runStart_charge hx
  case runComplete => cases e; exact event fun _ hx => runExpiry_charge hx
  case minOffExpiry => cases e; exact event fun _ hx => minOffExpiry_charge hx
  case accountTimer => cases e; exact event fun _ hx => accountExpiry_charge hx
  case quietHoursEnd => cases e; exact event fun _ hx => quietEnds_charge _ hx
  case wakeTimeout => cases e; exact framed (timeoutRest_besideRests _)
  case wakeLeadReached => cases e; exact event fun _ hx => wakeLead_charge _ hx
  case plannedEndReached => cases e; exact event fun _ hx => plannedEndPassed_charge _ hx
  case escalation => cases e; exact event fun _ hx => escalation_charge _ _ hx
  case flashPhaseChange => cases e; exact event fun _ hx => flashPhase_charge _ hx
  case sunriseStep => cases e; exact event fun _ hx => sunriseStep_charge _ hx
  case chimePatternStart => cases e; exact event fun _ hx => chimeStart_charge hx
  case chimePatternEnd => cases e; exact event fun _ hx => chimeEnd_charge hx
  case dozeTimerExpiry => cases e; exact event fun _ hx => enterDoze_charge hx
  case dozeExitComplete => cases e; exact event fun _ hx => leaveDoze_charge hx
  case handsetFrame => cases e; exact event fun _ hx => handsetFrame_charge _ _ _ hx
  case handsetRepeat => cases e; exact event fun _ hx => handsetRepeat_charge _ hx
  case repeatWindowTimeout => cases e; exact event fun _ hx => repeatTimeout_charge hx
  case pairingWindowClose => cases e; exact event fun _ hx => closeWindow_charge hx
  case debounceExpiry => cases e; exact event fun _ hx => debounceExpiry_charge _ hx
  case infraredMarkEdge => cases e; exact event fun _ hx => hx
  case timingError => cases e; exact event fun _ hx => hx
  case checkError => cases e; exact event fun _ hx => checkError_charge _ hx
  case fade => cases e; exact event fun _ hx => fade_charge _ _ hx
  case fuelPumpPulse => cases e; exact event fun _ hx => fuelPumpPulse_charge _ hx
  all_goals cases hk

end
end Sys2Proof.Machine

namespace Sys2Proof.Machine

/-! ### What reaches the fridge's credit: requests -/

theorem requestGrant_credit {s : State} (l : Link) (load : Load) (p : Purpose) (o : Origin) (v : Level)
    (e : Option RtcTime) (h : CreditInRange s) : CreditInRange (requestGrant l load p o v e s).state := by
  unfold requestGrant; split
  · exact h
  · rw [grantReply_state]; exact grantAsk_credit _ h

theorem revokeGrant_credit {s : State} (l : Link) (load : Load) (p : Purpose) (h : CreditInRange s) :
    CreditInRange (revokeGrant l load p s).state := by
  unfold revokeGrant taken refuse; (repeat' split)
  · exact removeEntry_credit load p _ h
  · exact h
  · exact h

theorem ackWarning_cs (l : Link) (k : WarnKind) (t : WarnTarget) (s : State) : (ackWarning l k t s).state.cs = s.cs := by
  unfold ackWarning; (repeat' split) <;> simp [taken, refuse]

@[simp] theorem returnChannel_cs (n : Fin 12) (s : State) : (returnChannel n s).cs = s.cs := by
  unfold returnChannel; dsimp only; split <;> simp

theorem releaseChannel_cs (r : FaultReport) (s : State) : (releaseChannel r s).cs = s.cs := by
  unfold releaseChannel; (repeat' split) <;> simp

theorem releaseTied_credit {s : State} (r : FaultReport) (h : CreditInRange s) : CreditInRange (releaseTied r s) := by
  unfold releaseTied; (repeat' split)
  · exact h
  · exact releaseSuspension_credit _ h
  · exact h
  · exact h

theorem ackFault_credit {s : State} (f : FaultSource) (t : RtcTime) (h : CreditInRange s) :
    CreditInRange (ackFault f t s).state := by
  unfold ackFault; dsimp only; (repeat' split)
  · exact h
  · exact h
  · exact releaseTied_credit _ (h.of_cs (releaseChannel_cs _ s))

theorem readAccount_cs (x : AccountSelector) (s : State) : (readAccount x s).state.cs = s.cs := by
  unfold readAccount; split <;> simp [refuse]

theorem useRecord_cs (i : Fin 4) (k : DriverKey) (s : State) : (useRecord i k s).cs = s.cs := by
  unfold useRecord; dsimp only; split <;> simp

theorem recordFor_cs {k : DriverKey} {s t : State} {i : Fin 4} (e : recordFor k s = some (i, t)) : t.cs = s.cs := by
  unfold recordFor at e
  split at e
  · cases e; simp
  · split at e
    · cases e; exact useRecord_cs _ _ _
    · obtain ⟨j, -, hj⟩ := Option.map_eq_some_iff.1 e
      cases hj; exact useRecord_cs _ _ _

theorem bindSlot_cs (i : Fin 4) (d : DriverSlot) (s : State) : (bindSlot i d s).cs = s.cs := by
  unfold bindSlot; dsimp only; (repeat' split) <;> simp

theorem useCard_cs (d : DriverSlot) (k : DriverKey) (s : State) : (useCard d k s).state.cs = s.cs := by
  unfold useCard; (repeat' split)
  · simp [taken]
  · rfl
  · rfl
  · next e => rw [bindSlot_cs, recordFor_cs e]

theorem reportActivity_cs (i : Fin 4) (a : Activity) (s : State) : (reportActivity i a s).cs = s.cs := by
  unfold reportActivity leaveBunk; dsimp only; (repeat' split) <;> simp

theorem setActivity_cs (d : DriverSlot) (a : Activity) (s : State) : (setActivity d a s).state.cs = s.cs := by
  unfold setActivity; split <;> simp [refuse, taken, reportActivity_cs]

theorem moveClass_cs (i : Fin 4) (a b : Bool) (s : State) : (moveClass i a b s).cs = s.cs := by
  unfold moveClass; split <;> simp

theorem setMoving_cs (m : Bool) (s : State) : (setMoving m s).cs = s.cs := by
  unfold setMoving; dsimp only
  rw [foldl_keeps State.cs _ (fun s i => moveClass_cs i _ _ s)]
  exact accumulateAll_cs _ s

theorem swapSlots_cs (s : State) : (swapSlots s).cs = s.cs := by
  unfold swapSlots; dsimp only; split <;> simp

theorem endBunkShort_cs (b : Bunk) (s : State) : (endBunkShort b s).cs = s.cs := by
  unfold endBunkShort
  exact foldl_keeps State.cs _ (fun s i => by (repeat' split) <;> simp) _ s

theorem bunkRest_cs (b : Bunk) (d : DriverSlot) (p : Option RtcTime) (w : Bool) (s : State) :
    (bunkRest b d p w s).state.cs = s.cs := by
  unfold bunkRest beginRest updateRest; dsimp only; (repeat' split) <;>
    simp [refuse, taken, endBunkShort_cs]

theorem bunkWake_cs (b : Bunk) (s : State) : (bunkWake b s).state.cs = s.cs := by
  unfold bunkWake; split <;> simp [refuse, taken]

theorem releaseHold_cs (s : State) : (releaseHold s).state.cs = s.cs := by
  unfold releaseHold; split <;> rfl

theorem releaseUntied_credit {s : State} (l : Load) (f : FaultSource → Bool) (h : CreditInRange s) :
    CreditInRange (releaseUntied l f s) := by
  unfold releaseUntied; (repeat' split)
  · exact releaseSuspension_credit _ h
  · exact h
  · exact h

theorem clearLockout_credit {s : State} (h : CreditInRange s) : CreditInRange (clearLockout s).state := by
  unfold clearLockout; split
  · exact h
  · exact releaseUntied_credit _ _ (h.of_cs (clearLockoutPhase_cs s))

theorem clearChannel_credit {s : State} (n : Nat) (h : CreditInRange s) : CreditInRange (clearChannel n s).state := by
  unfold clearChannel; dsimp only; (repeat' split)
  · exact h
  · exact releaseUntied_credit _ _ (h.of_cs (returnChannel_cs _ s))
  · exact h

theorem startCheck_cs (s : State) : (startCheck s).state.cs = s.cs := by
  unfold startCheck; split <;> simp [refuse, taken, beginStep]

theorem readStatus_cs (n : Nat) (s : State) : (readStatus n s).state.cs = s.cs := by
  unfold readStatus; (repeat' split) <;> rfl

/-! ### Keys, inputs and the receiver -/

theorem toggle_cs {r : GrantAsk} (hr : r.load ≠ .fridge) (s : State) : (toggle r s).1.cs = s.cs := by
  unfold toggle placeAsk; split <;> simp [hr]

theorem lightToggle_cs (w : Requester) (b : Bunk) (s : State) : (lightToggle w b s).1.cs = s.cs :=
  toggle_cs (bunkZone_ne_fridge b) s

theorem lightStep_cs (up : Bool) (b : Bunk) (s : State) : (lightStep up b s).1.cs = s.cs := by
  have hz : ∀ k, (comfortAsk (bunkZone b) .handset b { level := k }).load ≠ .fridge := fun _ => bunkZone_ne_fridge b
  unfold lightStep; extract_lets base level
  split
  · rfl
  · exact grantAsk_cs (hz level) s

theorem heatStep_cs (up : Bool) (b : Bunk) (s : State) : (heatStep up b s).1.cs = s.cs := by
  unfold heatStep; split
  · rfl
  · exact grantAsk_cs (by decide : Load.heater ≠ .fridge) s

theorem keyAction_cs (b : Bunk) (k : Byte) (s : State) : (keyAction b k s).1.cs = s.cs := by
  unfold keyAction; split
  · exact lightToggle_cs _ b s
  · exact lightStep_cs _ b s
  · exact lightStep_cs _ b s
  · exact toggle_cs (bunkReading_ne_fridge b) s
  · exact toggle_cs (by decide : Load.heater ≠ .fridge) s
  · exact heatStep_cs _ b s
  · exact heatStep_cs _ b s
  · exact snoozeRest_cs b s
  · exact bunkAck_cs b s
  · rfl

theorem buttonPress_cs (b : Bunk) (s : State) : (buttonPress b s).1.cs = s.cs := by
  unfold buttonPress; dsimp only; split
  · rw [lightToggle_cs, bunkAck_cs]
  · exact bunkAck_cs b s

theorem inputWakes_cs (n : Fin 8) (x : Bool) (s : State) : (inputWakes n x s).cs = s.cs := by
  unfold inputWakes; dsimp only; (repeat' split) <;> simp

theorem fixedFunction_credit {s : State} (n : Fin 8) (h : CreditInRange s) : CreditInRange (fixedFunction n s) := by
  have place : CreditInRange (placeAsk (courtesyAsk s) s).1 :=
    h.of_cs (grantAsk_cs (by decide : Load.step ≠ .fridge) s)
  have press : ∀ b, CreditInRange (buttonPress b s).1 := fun b => h.of_cs (buttonPress_cs b s)
  unfold fixedFunction; dsimp only; split
  · exact h
  · exact overheat_credit h
  · exact place
  · exact press .lower
  · exact press .upper
  · exact h

theorem inputEvent_credit {s : State} (n : Fin 8) (h : CreditInRange s) : CreditInRange (inputEvent n s) := by
  unfold inputEvent; dsimp only
  refine fixedFunction_credit n (h.of_cs ?_)
  rw [inputWakes_cs]; (repeat' split) <;> simp

theorem takeRaw_credit {s : State} (n : Fin 8) (h : CreditInRange s) : CreditInRange (takeRaw n s) := by
  unfold takeRaw; dsimp only; (repeat' split)
  · exact h
  · exact h
  · exact inputEvent_credit n h

theorem restartInput_credit {s : State} (n : Fin 8) (h : CreditInRange s) : CreditInRange (restartInput n s) := by
  unfold restartInput; dsimp only; split
  · exact h
  · exact takeRaw_credit n h

theorem configureInput_credit {s : State} (n : Nat) (x : InputConfig) (h : CreditInRange s) :
    CreditInRange (configureInput n x s).state := by
  unfold configureInput; dsimp only; (repeat' split)
  · exact h
  · exact restartInput_credit _ h
  · exact h

theorem rawChange_credit {s : State} (n : Fin 8) (x : Bool) (h : CreditInRange s) : CreditInRange (rawChange n x s) := by
  have hp : CreditInRange (setPin n x s) := h
  unfold rawChange; dsimp only; (repeat' split)
  · exact h
  · exact hp
  · exact hp
  · exact takeRaw_credit n hp

theorem debounceExpiry_credit {s : State} (n : Fin 8) (h : CreditInRange s) : CreditInRange (debounceExpiry n s) := by
  unfold debounceExpiry; dsimp only; split
  · exact takeRaw_credit n h
  · exact h

theorem applyKey_cs (b : Bunk) (i k : Byte) (s : State) : (applyKey b i k s).cs = s.cs := keyAction_cs b k s
theorem takeFrame_cs (i k : Byte) (s : State) : (takeFrame i k s).cs = s.cs := by
  unfold takeFrame ignoreFrame pairHandset; dsimp only; (repeat' split) <;> simp [applyKey_cs]

theorem takeRepeat_cs (s : State) : (takeRepeat s).cs = s.cs := by
  unfold takeRepeat; dsimp only; (repeat' split) <;> simp [applyKey_cs]

theorem handsetFrame_cs (i k : Byte) (e : Nat) (s : State) : (handsetFrame i k e s).cs = s.cs := by
  unfold handsetFrame; split
  · exact takeFrame_cs i k _
  · rfl

theorem handsetRepeat_cs (e : Nat) (s : State) : (handsetRepeat e s).cs = s.cs := by
  unfold handsetRepeat; split
  · exact takeRepeat_cs _
  · rfl

end Sys2Proof.Machine

namespace Sys2Proof.Machine

/-! ### Channels and the wiring check -/

theorem openLoadFires_cs (n : Fin 12) (s : State) : (openLoadFires n s).cs = s.cs := by
  unfold openLoadFires; dsimp only; split <;> simp

theorem endStep_credit {s : State} (c : WiringClass) (k : Nat) (r : WiringRun) (h : CreditInRange s) :
    CreditInRange (endStep c k r s) := by
  unfold endStep; dsimp only; split
  · exact h.of_cs (by simp [beginStep])
  · exact finishCheck_credit _ _ _ (h.of_cs (by simp))

theorem tripStep_credit {s : State} (n : Fin 12) (k : Nat) (h : CreditInRange s) : CreditInRange (tripStep n k s) := by
  unfold tripStep; (repeat' split)
  · exact endStep_credit _ _ _ h
  · exact h
  · exact h

theorem wiringStepEnd_credit {s : State} (x : Bool) (k : Nat) (h : CreditInRange s) :
    CreditInRange (wiringStepEnd x k s) := by
  unfold wiringStepEnd; (repeat' split)
  · exact h
  · exact endStep_credit _ _ _ h
  · exact h
  · exact endStep_credit _ _ _ h
  · exact h

theorem channelShort_credit {s : State} (n : Fin 12) (k : Nat) (h : CreditInRange s) :
    CreditInRange (channelShort n k s) := by
  unfold channelShort; dsimp only; (repeat' split) <;>
    first | exact tripOn_credit _ _ _ h | exact tripStep_credit _ _ h | exact h

theorem channelOvercurrent_credit {s : State} (n : Fin 12) (k : Nat) (h : CreditInRange s) :
    CreditInRange (channelOvercurrent n k s) := by
  unfold channelOvercurrent; dsimp only; (repeat' split) <;>
    first | exact tripOn_credit _ _ _ h | exact tripStep_credit _ _ h | exact h

theorem inrushEnd_cs (n : Fin 12) (s : State) : (inrushEnd n s).cs = s.cs := by
  unfold inrushEnd; dsimp only; split <;> rfl

theorem retryExpiry_cs (n : Fin 12) (s : State) : (retryExpiry n s).cs = s.cs := by
  unfold retryExpiry; dsimp only; split <;> rfl

theorem fade_cs (n : Fin 12) (k : Nat) (s : State) : (fade n k s).cs = s.cs := by
  unfold fade; dsimp only; split <;> rfl

theorem fuelPumpPulse_cs (k : Nat) (s : State) : (fuelPumpPulse k s).cs = s.cs := by
  unfold fuelPumpPulse; dsimp only; (repeat' split) <;> simp [openLoadFires_cs]

theorem openLoad_cs (n : Fin 12) (k : Nat) (s : State) : (openLoad n k s).cs = s.cs := by
  unfold openLoad; dsimp only; (repeat' split) <;> simp [openLoadFires_cs, fuelPumpPulse_cs]

/-! ### The heater -/

theorem cabinValue_credit {s : State} (t : Int) (h : CreditInRange s) : CreditInRange (cabinValue t s) := by
  unfold cabinValue satisfiedTest; dsimp only
  refine cabinToFridge_credit t (h.of_cs ?_)
  split <;> simp

theorem cabinFailed_credit {s : State} (c : FaultCode) (h : CreditInRange s) : CreditInRange (cabinFailed c s) := by
  unfold cabinFailed; dsimp only
  refine takeFault_credit _ (h.of_cs ?_)
  split <;> simp

theorem cabinTemp_credit {s : State} (x : TempResult) (h : CreditInRange s) : CreditInRange (cabinTemp x s) := by
  unfold cabinTemp; dsimp only; split
  · exact cabinValue_credit _ h
  · exact h
  · exact cabinFailed_credit _ h

theorem flameWatch_cs (t : Int) (s : State) : (flameWatch t s).cs = s.cs := rfl
theorem flameValue_credit {s : State} (t : Int) (h : CreditInRange s) : CreditInRange (flameValue t s) := by
  unfold flameValue; dsimp only; split
  · refine overheat_credit (h.of_cs ?_)
    (repeat' split) <;> simp [flameWatch_cs]
  · refine h.of_cs ?_
    (repeat' split) <;> simp [flameWatch_cs]

theorem flameKept_cs (s : State) : (flameKept s).cs = s.cs := by
  unfold flameKept judgeFlame; (repeat' split) <;> rfl

theorem flameTemp_credit {s : State} (x : TempResult) (h : CreditInRange s) : CreditInRange (flameTemp x s) := by
  unfold flameTemp; dsimp only; split
  · exact flameValue_credit _ h
  · exact h.of_cs (flameKept_cs _)
  · exact takeFault_credit _ (h.of_cs (flameFailed_cs _))

theorem phaseExpiry_credit {s : State} {p : HeaterPhase} {due : Option Nat} {act : State → State}
    (hact : ∀ x, CreditInRange x → CreditInRange (act x)) (h : CreditInRange s) :
    CreditInRange (phaseExpiry p due act s) := by
  unfold phaseExpiry; (repeat' split)
  · exact hact _ h
  · exact h
  · exact h

@[simp] theorem purgeAndMerge_cs (f : FollowOn) (c : Option LockCause) (s : State) : (purgeAndMerge f c s).cs = s.cs := by
  simp [purgeAndMerge]

theorem ignitionFails_credit {s : State} (h : CreditInRange s) : CreditInRange (ignitionFails s) := by
  unfold ignitionFails; dsimp only; split
  · exact h.of_cs (by simp)
  · exact takeFault_credit _ (h.of_cs (by simp))

theorem flameGone_credit {s : State} (h : CreditInRange s) : CreditInRange (flameGone s) := by
  unfold flameGone; dsimp only; split
  · exact h.of_cs (by simp)
  · exact takeFault_credit _ (h.of_cs (by simp))

theorem regulate_cs (s : State) : (regulate s).cs = s.cs := by
  simp [regulate]

theorem glowOff_cs (s : State) : (glowOff s).cs = s.cs := by
  unfold glowOff; dsimp only; (repeat' split) <;> rfl

theorem purgeExpiry_cs (s : State) : (purgeExpiry s).cs = s.cs := by
  unfold purgeExpiry; split <;> simp

/-! ### The fridge -/

theorem cabinetTemp_credit {s : State} (x : TempResult) (h : CreditInRange s) : CreditInRange (cabinetTemp x s) := by
  unfold cabinetTemp; dsimp only; split
  · unfold cabinetValue; dsimp only; split
    · exact clearWarm_credit h
    · exact h
  · exact h
  · exact takeFault_credit _ (clearWarm_credit h)

theorem slotDue_credit {s : State} (h : CreditInRange s) : CreditInRange (slotDue s) := by
  unfold slotDue; split
  · exact slotFallsDue_credit _ _ h
  · exact h

theorem runStart_credit {s : State} (h : CreditInRange s) : CreditInRange (runStart s) := by
  unfold runStart; (repeat' split) <;> exact h

theorem runExpiry_credit {s : State} (h : CreditInRange s) : CreditInRange (runExpiry s) := by
  unfold runExpiry; split
  · exact completeRun_credit _ h
  · exact h

theorem minOffExpiry_credit {s : State} (h : CreditInRange s) : CreditInRange (minOffExpiry s) := by
  unfold minOffExpiry; dsimp only; split <;> exact h

/-! ### The charge path, the review and the policy -/

theorem goodSample_credit {s : State} (i : Int) (v : Nat) (h : CreditInRange s) : CreditInRange (goodSample i v s) := by
  have hf : CreditInRange (fullDetector i v (integrateSample i s)) := by
    unfold fullDetector; dsimp only; (repeat' split) <;> exact h
  unfold goodSample floorDetector floorFires; dsimp only; (repeat' split)
  case isFalse.isTrue.isTrue => exact revalidate_credit hf
  all_goals exact hf

theorem passedCheck_credit {s : State} (i : Int) (v : Nat) (h : CreditInRange s) : CreditInRange (passedCheck i v s) := by
  unfold passedCheck; dsimp only; (repeat' split)
  · exact h
  · exact goodSample_credit i v h
  · exact goodSample_credit i v h

theorem failedCheck_credit {s : State} (h : CreditInRange s) : CreditInRange (failedCheck s) := by
  unfold failedCheck; dsimp only; split
  · exact takeFault_credit _ h
  · exact h

theorem conversionAt_credit {s : State} (t : Nat) (shunt volt : Int) (pass : Bool) (h : CreditInRange s) :
    CreditInRange (conversionAt t shunt volt pass s) := by
  have clear : ∀ (v : Nat) (x : State), CreditInRange x → CreditInRange (clearDetector v x) := by
    intro v x hx; unfold clearDetector; dsimp only; (repeat' split) <;> exact hx
  unfold conversionAt; dsimp only
  refine clear _ _ ?_
  split
  · exact passedCheck_credit _ _ h
  · exact failedCheck_credit h

theorem fullDetection_credit {s : State} (shunt volt : Int) (h : CreditInRange s) :
    CreditInRange (fullDetection shunt volt s) := by
  unfold fullDetection; (repeat' split) <;> first | exact conversionAt_credit _ _ _ _ h | exact h

theorem floorCorrection_credit {s : State} (shunt volt : Int) (h : CreditInRange s) :
    CreditInRange (floorCorrection shunt volt s) := by
  unfold floorCorrection; (repeat' split) <;> first | exact conversionAt_credit _ _ _ _ h | exact h

theorem floorClear_credit {s : State} (shunt volt : Int) (pass : Bool) (h : CreditInRange s) :
    CreditInRange (floorClear shunt volt pass s) := by
  unfold floorClear; (repeat' split) <;> first | exact conversionAt_credit _ _ _ _ h | exact h

theorem battTemp_credit {s : State} (x : TempResult) (h : CreditInRange s) : CreditInRange (battTemp x s) := by
  unfold battTemp; dsimp only; split
  · exact h
  · exact h
  · exact takeFault_credit _ h

theorem handReview_credit {s : State} (h : CreditInRange s) : CreditInRange (handReview s) := by
  have h' : CreditInRange { s with cs.deficit := s.au.deficit, cs.surplus := s.au.surplus } := h
  unfold handReview; dsimp only; split
  · exact h'.of_cs (raiseWarning_cs _ _ _ _)
  · exact h'.of_cs (removeWarning_cs _ _ _)

theorem review_credit {s : State} (h : CreditInRange s) : CreditInRange (review s) := by
  have close : ∀ x, CreditInRange x →
      CreditInRange (markReviewed (reconcileSunrise .upper (reconcileSunrise .lower x))) := fun x hx =>
    hx.of_cs (by simp [markReviewed])
  have window : CreditInRange (takeWindow { reach s.au.reviewDue s with
      au.reviewDue := (reach s.au.reviewDue s).tu.clock + secs 60 }) := h
  unfold review; dsimp only
  refine close _ ?_
  split
  · exact addCause_credit _ _ (handReview_credit (reviewAdmission_credit _ window))
  · exact handReview_credit (reviewAdmission_credit _ window)

theorem applySettings_cs (old : Nat) (s : State) : (applySettings old s).cs = s.cs := by
  unfold applySettings
  exact foldl_keeps State.cs _ (fun s i => by split <;> simp) _ s

theorem applyEscalation_cs (s : State) : (applyEscalation s).cs = s.cs := by
  unfold applyEscalation
  exact foldl_keeps State.cs _ (fun s i => by split <;> simp) _ s

theorem applyRate_credit {s : State} (id : Nat) (h : CreditInRange s) : CreditInRange (applyRate id s) := by
  unfold applyRate; (repeat' split)
  · exact setMode_credit _ h
  · exact h
  · exact reformDue_credit h
  · exact reformDue_credit h
  · exact reformDue_credit h
  · exact h

theorem applyCapacity_cs (s : State) : (applyCapacity s).cs = s.cs := by
  unfold applyCapacity; dsimp only; (repeat' split) <;> rfl

theorem applyItem_credit {s : State} (id old : Nat) (h : CreditInRange s) : CreditInRange (applyItem id old s) := by
  unfold applyItem; split
  case h_1 => exact revalidate_credit (h.of_cs (applyCapacity_cs s))
  all_goals first
    | with_reducible exact revalidate_credit h
    | with_reducible exact applyRate_credit _ h
    | exact h.of_cs (by simp [applySettings_cs, applyEscalation_cs])

theorem setPolicy_credit {s : State} (id v : Nat) (h : CreditInRange s) : CreditInRange (setPolicy id v s).state := by
  unfold setPolicy; split
  · exact h
  · dsimp only; (repeat' split)
    · exact h
    · exact h
    · unfold changeItem; dsimp only
      refine applyItem_credit _ _ (h.of_cs ?_)
      split <;> simp

/-! ### Rests, warnings and the clocks -/

theorem accountExpiry_cs (s : State) : (accountExpiry s).cs = s.cs := by
  simp [accountExpiry]

theorem quietEnds_cs (b : Bunk) (s : State) : (quietEnds b s).cs = s.cs := by
  unfold quietEnds; split <;> simp

theorem wakeLead_cs (b : Bunk) (s : State) : (wakeLead b s).cs = s.cs := by
  unfold wakeLead; split <;> simp

theorem plannedEndPassed_cs (b : Bunk) (s : State) : (plannedEndPassed b s).cs = s.cs := by
  unfold plannedEndPassed; (repeat' split) <;> simp

theorem escalation_cs (k : WarnKind) (t : WarnTarget) (s : State) : (escalation k t s).cs = s.cs := by
  unfold escalation; (repeat' split) <;> simp

theorem flashPhase_cs (b : Bunk) (s : State) : (flashPhase b s).cs = s.cs := by
  unfold flashPhase; dsimp only; split <;> simp

theorem sunriseStep_cs (b : Bunk) (s : State) : (sunriseStep b s).cs = s.cs := by
  unfold sunriseStep; (repeat' split) <;> simp

theorem chimeStart_cs (s : State) : (chimeStart s).cs = s.cs := by
  unfold chimeStart; dsimp only; (repeat' split) <;> rfl

theorem chimeEnd_cs (s : State) : (chimeEnd s).cs = s.cs := by
  unfold chimeEnd; dsimp only; split <;> rfl

theorem reportDegraded_credit {s : State} (h : CreditInRange s) : CreditInRange (reportDegraded s) := by
  unfold reportDegraded; exact takeFault_credit _ (h.of_cs (by simp))

theorem stopCrystal_credit {s : State} (h : CreditInRange s) : CreditInRange (stopCrystal s) := by
  unfold stopCrystal; split
  · exact unlessReset_keeps (fun _ hx => reportDegraded_credit hx) h
  · exact h

theorem returnCrystal_cs (s : State) : (returnCrystal s).cs = s.cs := by
  unfold returnCrystal unlessReset; dsimp only; (repeat' split) <;> rfl

theorem startStable_cs (s : State) : (startStable s).cs = s.cs := by
  unfold startStable; split <;> rfl

theorem enterDoze_cs (s : State) : (enterDoze s).cs = s.cs := by
  unfold enterDoze; dsimp only; (repeat' split) <;> rfl

theorem leaveDoze_cs (s : State) : (leaveDoze s).cs = s.cs := by
  unfold leaveDoze; dsimp only; split <;> simp

theorem restTimeSet_cs (s : State) : (restTimeSet s).cs = s.cs := by
  simp [restTimeSet]

theorem setTime_credit {s : State} (t : RtcTime) (h : CreditInRange s) : CreditInRange (setTime t s) := by
  have passed : ∀ (b : Bool) (x : State), CreditInRange x → CreditInRange (if b then passStoredTimes x else x) := by
    intro b x hx; split
    · exact passStoredTimes_credit hx
    · exact hx
  have due : ∀ (b : Bool) (x : State), CreditInRange x → CreditInRange (if b then slotAtOnce x else x) := by
    intro b x hx; split
    · exact slotAtOnce_credit hx
    · exact hx
  have wake : ∀ x, CreditInRange x → CreditInRange (testWake .upper (testWake .lower x)) := fun x hx =>
    hx.of_cs (by simp)
  unfold setTime; dsimp only
  exact wake _ (due _ _ (passed _ _ (h.of_cs (by simp [restTimeSet_cs]))))

/-! ### The resets -/

theorem resetMainDomain_credit {s : State} (h : CreditInRange s) : CreditInRange (resetMainDomain s) := h
theorem powerOnReset_credit {s : State} : CreditInRange (powerOnReset s) := by
  show (-8 : Int) ≤ 0 ∧ (0 : Int) ≤ 8
  decide

theorem restartHeater_cs (s : State) : (restartHeater s).cs = s.cs := by
  unfold restartHeater; (repeat' split) <;> simp

/-- A slot run cut short at the restart moves the credit one down (R113). -/
theorem restartFridge_credit {s : State} (h : CreditInRange s) : CreditInRange (restartFridge s) := by
  have placed : ∀ (c : Prop) [Decidable c] (x : State), CreditInRange x →
      CreditInRange (if c then placeCooling x else x) := by
    intro c _ x hx; split
    · exact placeCooling_credit hx
    · exact hx
  have due : ∀ (c : Prop) [Decidable c] (x : State), CreditInRange x →
      CreditInRange (if c then slotAtOnce x else x) := by
    intro c _ x hx; split
    · exact slotAtOnce_credit hx
    · exact hx
  unfold restartFridge; dsimp only
  refine due _ _ (placed _ _ ?_)
  show -8 ≤ (if _ then creditDown s.cs.c else s.cs.c) ∧ (if _ then creditDown s.cs.c else s.cs.c) ≤ 8
  split
  · exact creditDown_inRange h
  · exact h

theorem handShort_cs (i : Fin 4) (s : State) : (handShort i s).cs = s.cs := by
  unfold handShort; split <;> simp

theorem restartRests_cs (s : State) : (restartRests s).cs = s.cs := by
  have e := foldl_keeps State.cs _ (fun s i => (handShort_cs i (evaluateConds i s)).trans (evaluateConds_cs i s)) allRecords
  unfold restartRests; dsimp only
  simp [e]

theorem endMainReset_credit {s : State} (x : ResetHold) (h : CreditInRange s) : CreditInRange (endMainReset x s) := by
  have hr : ∀ y : State, CreditInRange y → CreditInRange (restartRests (restartFridge (resetPorts (restartHeater y)))) :=
    fun y hy =>
      have hh : CreditInRange (restartHeater y) := hy.of_cs (restartHeater_cs y)
      have hp : CreditInRange (resetPorts (restartHeater y)) := hh
      (restartFridge_credit hp).of_cs (restartRests_cs _)
  have hi : ∀ y : State, CreditInRange y →
      CreditInRange (([0, 1, 2, 3, 4, 5, 6, 7] : List (Fin 8)).foldl (fun s n => restartInput n s) y) := fun y hy =>
    foldl_preserves CreditInRange (fun _ n h => restartInput_credit n h) _ hy
  unfold endMainReset restartInputs; dsimp only; split
  · exact reportDegraded_credit (hi _ (hr _ h))
  · exact hi _ (hr _ h)

theorem mainResetEnd_credit {s : State} (h : CreditInRange s) : CreditInRange (mainResetEnd s) := by
  unfold mainResetEnd; split
  · exact endMainReset_credit _ h
  · exact h

end Sys2Proof.Machine

namespace Sys2Proof.Machine

/-! ### Every command keeps the credit in range -/

section
variable {s t : State}

theorem readNotices_credit (l : Link) (h : CreditInRange s) : CreditInRange (readNotices l s).state :=
  creditInRange_readsUnits (readNotices_units l s) h

theorem seed_credit (q : Nat) (h : CreditInRange s) : CreditInRange (seed q s) := by
  unfold seed; exact revalidate_credit h

theorem repeatTimeout_cs (s : State) : (repeatTimeout s).cs = s.cs := by
  unfold repeatTimeout; split <;> rfl

theorem closeWindow_cs (s : State) : (closeWindow s).cs = s.cs := by
  unfold closeWindow; split <;> rfl

theorem checkError_cs (k : Nat) (s : State) : (checkError k s).cs = s.cs := by
  unfold checkError; split <;> rfl

theorem performRequest_credit {c : Instr} (h : CreditInRange s) (e : performRequest c s = .next t) :
    CreditInRange t := by
  have served : ∀ {l : Link} {k : Byte} {perform : State → Reply}, (∀ x, CreditInRange x → CreditInRange (perform x).state) →
      CreditInRange (serve l k perform s) := fun hp => serve_keeps creditInRange_readsUnits hp h
  have framed : ∀ {l : Link} {k : Byte} {perform : State → Reply},
      (∀ x, (perform x).state.cs = x.cs) → CreditInRange (serve l k perform s) := fun hp =>
    served fun x hx => hx.of_cs (hp x)
  cases c <;> cases e
  case notices => exact served fun _ hx => readNotices_credit _ hx
  case noticeEnable => exact served fun x hx => creditInRange_readsUnits (mapPort_units _ _ x) hx
  case release => exact served fun x hx => creditInRange_readsUnits (mapPort_units _ _ x) hx
  case statusRead => exact framed (readStatus_cs _)
  case budgetRead => exact framed fun _ => rfl
  case grantRequest => exact served fun _ hx => requestGrant_credit _ _ _ _ _ _ hx
  case grantProbe => exact framed fun x => by rw [probeGrant_state]
  case grantRevoke => exact served fun _ hx => revokeGrant_credit _ _ _ hx
  case ackWarning => exact framed (ackWarning_cs _ _ _)
  case warningList => exact framed fun _ => rfl
  case ackFault => exact served fun _ hx => ackFault_credit _ _ hx
  case faultRead => exact framed fun _ => rfl
  case accountRead => exact framed (readAccount_cs _)
  case fridgeSet => exact served fun _ hx => setFridge_credit _ hx
  case policySet => exact served fun _ hx => setPolicy_credit _ _ hx
  case policyGet => exact framed fun x => by rw [getPolicy_state]
  case policyLock => exact served fun _ hx => hx
  case seedCharge => exact served fun _ hx => seed_credit _ hx
  case timeSet => exact served fun _ hx => setTime_credit _ hx
  case card => exact framed (useCard_cs _ _)
  case activity => exact framed (setActivity_cs _ _)
  case motion m => exact served fun x hx => by dsimp only [taken]; exact hx.of_cs (setMoving_cs m x)
  case slotSwap => exact framed swapSlots_cs
  case inputConfig => exact served fun _ hx => configureInput_credit _ _ hx
  case hold => exact served fun _ hx => addCause_credit _ _ hx
  case releaseHold => exact framed releaseHold_cs
  case clearLockout => exact served fun _ hx => clearLockout_credit hx
  case clearChannel => exact served fun _ hx => clearChannel_credit _ hx
  case wiringCheck => exact framed startCheck_cs
  case checkRead => exact framed fun x => by rw [readCheck_state]
  case restart => exact restartPart_keeps creditInRange_readsUnits (fun _ hx => resetMainDomain_credit hx) _ h
  case bunkRest => exact framed (bunkRest_cs _ _ _ _)
  case bunkWake => exact framed (bunkWake_cs _)
  case snooze => exact framed (snoozeRest_cs _)
  case pairHandset => exact served fun _ hx => hx
  all_goals exact h

theorem exec_credit {c : Instr} (h : CreditInRange s) (e : exec c s = .next t) : CreditInRange t := by
  have event : ∀ {f : State → State}, (∀ x, CreditInRange x → CreditInRange (f x)) → CreditInRange (unlessReset f s) :=
    fun hf => unlessReset_keeps hf h
  have framed : ∀ {f : State → State}, (∀ x, (f x).cs = x.cs) → CreditInRange (unlessReset f s) :=
    fun hf => event fun x hx => hx.of_cs (hf x)
  cases hk : requestKind c
  case some lk =>
    rw [exec_request hk] at e
    exact performRequest_credit h e
  cases c
  case undefinedRequest => exact undefinedRequest_keeps creditInRange_readsUnits performRequest_credit h e
  case transferStart => cases e; exact creditInRange_readsUnits (transferStart_units _ _) h
  case fetch => cases e; exact creditInRange_readsUnits (fetch_units _ _ _) h
  case kpor => cases e; exact powerOnReset_credit
  case mainReset => cases e; exact resetMainDomain_credit h
  case mainResetEnd => cases e; exact mainResetEnd_credit h
  case crystalStop => cases e; exact stopCrystal_credit h
  case crystalReturn => cases e; exact h.of_cs (returnCrystal_cs s)
  case crystalEdgesResume => cases e; exact h.of_cs (startStable_cs s)
  case rtcSecond => cases e; exact h
  case inputRawChange => cases e; exact rawChange_credit _ _ h
  case conversion => cases e; exact event fun _ hx => conversionAt_credit _ _ _ _ hx
  case fullDetection => cases e; exact event fun _ hx => fullDetection_credit _ _ hx
  case floorCorrection => cases e; exact event fun _ hx => floorCorrection_credit _ _ hx
  case voltageFloorClear => cases e; exact event fun _ hx => floorClear_credit _ _ _ hx
  case battTempConversion => cases e; exact event fun _ hx => battTemp_credit _ hx
  case review => cases e; exact event fun _ hx => review_credit hx
  case grantEndReached => cases e; exact event fun _ hx => expireGrant_credit _ _ hx
  case grantStartReached => cases e; exact event fun _ hx => startGrant_credit _ _ hx
  case inrushWindowEnd => cases e; exact framed (inrushEnd_cs _)
  case channelShort => cases e; exact event fun _ hx => channelShort_credit _ _ hx
  case channelOvercurrent => cases e; exact event fun _ hx => channelOvercurrent_credit _ _ hx
  case retryTimerExpiry => cases e; exact framed (retryExpiry_cs _)
  case openLoadDetected => cases e; exact framed (openLoad_cs _ _)
  case wiringStepEnd => cases e; exact event fun _ hx => wiringStepEnd_credit _ _ hx
  case cabinTempConversion => cases e; exact event fun _ hx => cabinTemp_credit _ hx
  case flameTempConversion => cases e; exact event fun _ hx => flameTemp_credit _ hx
  case preheatTimerExpiry =>
    cases e; exact event fun _ hx => phaseExpiry_credit (fun x hx => hx.of_cs (enterIgnite_cs x)) hx
  case ignitionTimerExpiry => cases e; exact event fun _ hx => phaseExpiry_credit (fun _ hx => ignitionFails_credit hx) hx
  case regulationTimerExpiry =>
    cases e; exact event fun _ hx => phaseExpiry_credit (fun x hx => hx.of_cs (regulate_cs x)) hx
  case flameProvenTimeout => cases e; exact event fun _ hx => phaseExpiry_credit (fun _ hx => hx) hx
  case satisfiedTimeout =>
    cases e; exact event fun _ hx => phaseExpiry_credit (fun x hx => hx.of_cs (purgeAndMerge_cs _ _ x)) hx
  case flameOut => cases e; exact event fun _ hx => phaseExpiry_credit (fun _ hx => flameGone_credit hx) hx
  case purgeGlowOff => cases e; exact framed glowOff_cs
  case purgeComplete => cases e; exact framed purgeExpiry_cs
  case cabinetTempConversion => cases e; exact event fun _ hx => cabinetTemp_credit _ hx
  case slotDue => cases e; exact event fun _ hx => slotDue_credit hx
  case runStart => cases e; exact event fun _ hx => runStart_credit hx
  case runComplete => cases e; exact event fun _ hx => runExpiry_credit hx
  case minOffExpiry => cases e; exact event fun _ hx => minOffExpiry_credit hx
  case accountTimer => cases e; exact framed accountExpiry_cs
  case quietHoursEnd => cases e; exact framed (quietEnds_cs _)
  case wakeTimeout => cases e; exact framed (timeoutRest_cs _)
  case wakeLeadReached => cases e; exact framed (wakeLead_cs _)
  case plannedEndReached => cases e; exact framed (plannedEndPassed_cs _)
  case escalation => cases e; exact framed (escalation_cs _ _)
  case flashPhaseChange => cases e; exact framed (flashPhase_cs _)
  case sunriseStep => cases e; exact framed (sunriseStep_cs _)
  case chimePatternStart => cases e; exact framed chimeStart_cs
  case chimePatternEnd => cases e; exact framed chimeEnd_cs
  case dozeTimerExpiry => cases e; exact framed enterDoze_cs
  case dozeExitComplete => cases e; exact framed leaveDoze_cs
  case handsetFrame => cases e; exact framed (handsetFrame_cs _ _ _)
  case handsetRepeat => cases e; exact framed (handsetRepeat_cs _)
  case repeatWindowTimeout => cases e; exact framed repeatTimeout_cs
  case pairingWindowClose => cases e; exact framed closeWindow_cs
  case debounceExpiry => cases e; exact event fun _ hx => debounceExpiry_credit _ hx
  case infraredMarkEdge => cases e; exact event fun _ hx => hx
  case timingError => cases e; exact event fun _ hx => hx
  case checkError => cases e; exact framed (checkError_cs _)
  case fade => cases e; exact framed (fade_cs _ _)
  case fuelPumpPulse => cases e; exact framed (fuelPumpPulse_cs _)
  all_goals cases hk

/-- A step that answers a state is the front command's, run on the rest of the queue, or leaves the state. -/
theorem step_keeps {P : State → Prop} (hx : ∀ {c : Instr} {s t : State}, P s → exec c s = .next t → P t)
    (hq : ∀ (s : State) (q : List Instr), P s → P { s with pending := q }) (h : P s) (e : step s = .next t) : P t := by
  unfold step at e
  split at e
  · cases e; exact h
  · exact hx (hq s _ h) e

/-- Settles O55, command by command: the charge range and the credit range are each kept by every command. -/
theorem chargeAndCreditStayInRange : Obligations.ChargeAndCreditStayInRange :=
  ⟨fun _ _ h e => step_keeps exec_charge (fun _ _ h => h) h e,
    fun _ _ h e => step_keeps exec_credit (fun _ _ h => h) h e⟩

end
end Sys2Proof.Machine

namespace Sys2Proof.Machine

/-! ## O13: a sample charge and the integrator (R4, R5) -/

theorem sampleCharge_of_nonpos {i : Int} (h : i ≤ 0) (w eta : Nat) : sampleCharge i w eta = i * w := if_pos h

theorem sampleCharge_of_pos {i : Int} (h : 0 < i) (w eta : Nat) : sampleCharge i w eta = i * w * eta / 256 :=
  if_neg (Int.not_le.2 h)

/-- The weighted charge of a sample in range lies within 10 s of the range's ends (R4). -/
theorem sampleCharge_bounds {i : Int} {w eta : Nat} (hlo : -32768 ≤ i) (hhi : i ≤ 32767) (hw : w ≤ 10)
    (he : eta ≤ 256) : -327680 ≤ sampleCharge i w eta ∧ sampleCharge i w eta ≤ 327670 := by
  have hw' : (w : Int) ≤ 10 := by exact_mod_cast hw
  have he' : (eta : Int) ≤ 256 := by exact_mod_cast he
  rcases le_or_gt i 0 with hi | hi
  · rw [sampleCharge_of_nonpos hi]
    constructor <;> nlinarith
  · rw [sampleCharge_of_pos hi]
    have hiw : 0 ≤ i * w := by positivity
    have hiw' : i * w ≤ 327670 := by nlinarith
    have hup : i * w * eta ≤ 327670 * 256 := by nlinarith
    have hlow : 0 ≤ i * w * eta := by positivity
    omega

/-- A charge in the range of one sample moves the count by at most 92 mAh (R5). -/
theorem integrate_moves_little {cnom q r : Nat} {x : Int} (hq : q ≤ cnom) (hr : r < 3600) (hlo : -327680 ≤ x)
    (hhi : x ≤ 327670) : ((integrate cnom q r x).1 : Int) ≤ q + 92 ∧ (q : Int) ≤ (integrate cnom q r x).1 + 92 := by
  unfold integrate; dsimp only; (repeat' split) <;> constructor <;> dsimp only <;> omega

/-- Between the ends of the count the integrator keeps every mC (R5). -/
theorem integrate_keeps_total {cnom q r : Nat} {x : Int} (hlo : 0 ≤ 3600 * (q : Int) + r + x)
    (hhi : 3600 * (q : Int) + r + x < 3600 * ((cnom : Int) + 1)) :
    3600 * ((integrate cnom q r x).1 : Int) + (integrate cnom q r x).2 = 3600 * (q : Int) + r + x := by
  unfold integrate; dsimp only; (repeat' split) <;> dsimp only <;> omega

theorem integrate_above {cnom q r : Nat} {x : Int} (h : 3600 * ((cnom : Int) + 1) ≤ 3600 * (q : Int) + r + x) :
    integrate cnom q r x = (cnom, 0) := by
  unfold integrate; exact if_pos (by omega)

theorem integrate_below {cnom q r : Nat} {x : Int} (h : 3600 * (q : Int) + r + x < 0) :
    integrate cnom q r x = (0, 0) := by
  unfold integrate; dsimp only; rw [if_neg (by omega), if_pos (by omega)]

/-- Settles O13. -/
theorem integrationKeepsCharge : Obligations.IntegrationKeepsCharge := by
  intro cnom q r i w eta hq hr
  obtain ⟨hcount, hres⟩ := integrate_inRange cnom q r (sampleCharge i w eta)
  refine ⟨fun hi => sampleCharge_of_nonpos hi w eta, fun hi => ?_, hcount, hres, integrate_keeps_total, integrate_above,
    integrate_below, fun hlo hhi hw he => ?_⟩
  · rw [sampleCharge_of_pos hi]
    omega
  · obtain ⟨hmin, hmax⟩ := sampleCharge_bounds hlo hhi hw he
    exact integrate_moves_little hq hr hmin hmax

/-! ## O14: the derating factor and the floor count (R6, R7, R15) -/

theorem deratingFactor_of_warm {t : Int} (h : 25 ≤ t) (slope : Nat) : deratingFactor slope t = 256 := if_pos h

theorem deratingFactor_of_cold {t : Int} (h : t < 25) (slope : Nat) :
    (deratingFactor slope t : Int) = max 96 (256 - (slope : Int) * (25 - t)) := by
  unfold deratingFactor
  rw [if_neg (by omega), Int.toNat_of_nonneg (by omega)]

theorem deratingFactor_bounds (slope : Nat) (t : Int) : 96 ≤ deratingFactor slope t ∧ deratingFactor slope t ≤ 256 := by
  rcases lt_or_ge t 25 with h | h
  · have e := deratingFactor_of_cold h slope
    have hs : 0 ≤ (slope : Int) * (25 - t) := Int.mul_nonneg (Int.natCast_nonneg _) (by omega)
    omega
  · rw [deratingFactor_of_warm h]
    decide

/-- A count covers the reserve exactly from the floor count up (R7, R15). -/
theorem freeCharge_nonneg_iff (s : State) (q : Nat) : 0 ≤ freeCharge { s with cm.q := q } ↔ floorCount s ≤ q := by
  have hf : 0 < factor s := Nat.lt_of_lt_of_le (by decide) (deratingFactor_bounds s.policy.p03 (tbInUse s)).1
  unfold floorCount
  rw [ceilDiv_le_iff _ _ _ hf]
  show 0 ≤ ((q * factor s / 256 : Nat) : Int) - (s.policy.p02 : Int) ↔ _
  omega

/-- Settles O14. -/
theorem floorCountIsSmallestCover : Obligations.FloorCountIsSmallestCover := by
  intro s
  obtain ⟨hlow, hhigh⟩ := deratingFactor_bounds s.policy.p03 (tbInUse s)
  exact ⟨fun h => if_pos h, fun h => if_neg (by simp [h]), fun h => deratingFactor_of_warm h _,
    fun h => deratingFactor_of_cold h _, hlow, hhigh, rfl, rfl, freeCharge_nonneg_iff s⟩

/-! ## O3, O4: the reset state -/

theorem chan_reset (n : Fin 12) : chan n State.reset = { state := .off } := by
  fin_cases n <;> rfl

theorem record_reset (i : Fin 4) : record i State.reset = none := by
  fin_cases i <;> rfl

theorem input_reset (n : Fin 8) : input n State.reset =
    { config := ⟨.activeHigh, .edge, true, true, true, false⟩, pin := false, active := false, debounceDue := none
      lastEvent := none } := by
  fin_cases n <;> rfl

theorem port_reset (l : Link) : (port l State.reset).slot = none ∧ (port l State.reset).notices = noticeMask .reset ∧
    (port l State.reset).enables = allNotices ∧ (port l State.reset).released = false := by
  cases l <;> decide

theorem bunk_reset (b : Bunk) : ((State.reset.wu.flash.get b).cycle, (State.reset.wu.flash.get b).givenUp,
    (State.reset.wu.sunrise.get b).state) = (none, false, .none) := by
  cases b <;> rfl

/-- Settles O3, unit by unit: a unit's own fields hold their values by its definition, and what the state holds for each
channel, record, bunk, input and port by the lemmas above. -/
theorem resetStateHoldsTableValues : Obligations.ResetStateHoldsTableValues := by
  refine ⟨?cm, ?au, ⟨chan_reset, rfl, rfl⟩, ?hs, ?cs, ⟨record_reset, ?rm⟩, ⟨rfl, rfl, bunk_reset⟩, ?fu, ?tu, ?hr,
    input_reset, rfl, port_reset, rfl, rfl⟩
  case cm | au | hs | cs | rm | fu | tu | hr => repeat' constructor

/-- Settles O4: most of the invariants speak of what the reset state has none of. -/
theorem invariantsHoldAtReset : Obligations.InvariantsHoldAtReset := by
  have hrec : RecordsDistinct State.reset :=
    ⟨fun i _ _ _ h => absurd ((record_reset i).symm.trans h) nofun, nofun⟩
  have hnone : ∀ g, g ∉ State.reset.au.table := fun _ => List.not_mem_nil
  have htable : TableSound State.reset :=
    ⟨List.Pairwise.nil, fun _ h => absurd h (hnone _), List.nodup_nil, Nat.zero_le 12, fun _ h => absurd h (hnone _)⟩
  have hshed : ShedListed State.reset := 
    ⟨List.nodup_nil, fun _ => ⟨fun h => absurd h List.not_mem_nil, fun ⟨_, h, _⟩ => absurd h (hnone _)⟩⟩
  have hcharge : ChargeInRange State.reset := by unfold ChargeInRange; decide
  have hcredit : CreditInRange State.reset := by unfold CreditInRange; decide
  refine ⟨hcharge, hcredit, fun _ _ => rfl, fun _ _ => ?_, fun n _ => ?_, fun i _ h => ?_, hrec, .inl rfl, ?_,
    List.nodup_nil, List.nodup_nil, htable, hshed⟩
  · rw [chan_reset]; exact ⟨rfl, nofun, nofun⟩
  · rw [chan_reset]
  · exact absurd ((record_reset i).symm.trans h) nofun
  · intro l; cases l <;> decide

end Sys2Proof.Machine

namespace Sys2Proof.Machine

/-! ## O12: the reads -/

theorem answered_clearReleased (l : Link) (kind : Byte) (st : Status) (payload : List Byte) (s : State) :
    answered l kind st payload (clearReleased l s) = answered l kind st payload s := by
  cases l <;> rfl

/-- A permitted request whose owner leaves the ports as they are answers with the owner's status and payload. -/
theorem serve_answered {l : Link} {kind : Byte} {perform : State → Reply} {s t : State} {st : Status}
    {payload : List Byte} (h : Serving l s) (hp : permitted l kind = true)
    (e : perform (clearReleased l s) = ⟨clearReleased l t, st, payload⟩) :
    serve l kind perform s = answered l kind st payload t := by
  have hr : (port l (clearReleased l t)).released = false := by cases l <;> rfl
  rw [serve_serving h hp, e, answer_eq l kind _ hr, answered_clearReleased]

section
variable {l : Link} {s : State}

theorem exec_statusRead_ok {n : Byte} {body : List Byte} (h : Serving l s)
    (e : statusSection n.toNat (clearReleased l s) = some body) :
    exec (.statusRead l n) s = .next (answered l 0x05#8 .ok (statusHeader s ++ body)
      (if n = 0#8 then { s with cm.overRange := false } else s)) := by
  have hp : permitted l 0x05#8 = true := by cases l <;> decide
  refine congrArg Host.Outcome.next (serve_answered h hp ?_)
  have hn : n.toNat = 0 ↔ n = 0#8 := by bv_omega
  have hs : statusHeader (clearReleased l s) = statusHeader s := by cases l <;> rfl
  simp only [readStatus, e, hn, hs]
  split <;> cases l <;> rfl

/-- The catalogue defines seven sections. -/
theorem statusSection_isSome {n : Nat} (hn : n < 7) (s : State) : ∃ body, statusSection n s = some body := by
  interval_cases n <;> exact ⟨_, rfl⟩

theorem statusSection_none (s : State) : ∀ {n : Nat}, 7 ≤ n → statusSection n s = none
  | _ + 7, _ => rfl

theorem exec_statusRead_notFound {n : Byte} (h : Serving l s) (hn : 7 ≤ n.toNat) :
    exec (.statusRead l n) s = .next (answered l 0x05#8 .notFound [] s) := by
  have hp : permitted l 0x05#8 = true := by cases l <;> decide
  refine congrArg Host.Outcome.next (serve_answered h hp ?_)
  simp only [readStatus, statusSection_none _ hn]
  rfl

theorem exec_budgetRead (h : Serving l s) :
    exec (.budgetRead l) s = .next (answered l 0x06#8 .ok (chargeFigures s ++ tableFigures s) s) :=
  congrArg Host.Outcome.next (serve_answered h (by cases l <;> decide) (by cases l <;> rfl))

theorem exec_warningList (h : Serving l s) :
    exec (.warningList l) s = .next (answered l 0x19#8 .ok (warningFigures s) s) :=
  congrArg Host.Outcome.next (serve_answered h (by cases l <;> decide) (by cases l <;> rfl))

theorem exec_faultRead (h : Serving l s) :
    exec (.faultRead l) s = .next (answered l 0x1D#8 .ok (faultFigures s) s) :=
  congrArg Host.Outcome.next (serve_answered h (by cases l <;> decide) (by cases l <;> rfl))

theorem findGrant_clearReleased (load : Load) (p : Purpose) :
    findGrant load p (clearReleased l s) = findGrant load p s := by cases l <;> rfl

theorem exec_grantProbe_some {load : Load} {p : Purpose} {g : Grant} (h : Serving l s) (e : findGrant load p s = some g) :
    exec (.grantProbe l load p) s = .next (answered l 0x11#8 .ok (encGrant s g) s) := by
  refine congrArg Host.Outcome.next (serve_answered h (by cases l <;> decide) ?_)
  simp only [probeGrant, findGrant_clearReleased, e]
  cases l <;> rfl

theorem exec_grantProbe_none {load : Load} {p : Purpose} (h : Serving l s) (e : findGrant load p s = none) :
    exec (.grantProbe l load p) s = .next (answered l 0x11#8 .notFound [] s) := by
  refine congrArg Host.Outcome.next (serve_answered h (by cases l <;> decide) ?_)
  simp only [probeGrant, findGrant_clearReleased, e]
  rfl

theorem exec_checkRead_testing {s : State} (h : Serving .v s) (hc : s.ca.check.isSome = true) :
    exec (.checkRead .v) s = .next (answered .v 0x55#8 .testing [] s) :=
  congrArg Host.Outcome.next (serve_answered h (by decide) (if_pos hc))

theorem exec_checkRead_some {s : State} {r : WiringReport} (h : Serving .v s)
    (hc : ¬ s.ca.check.isSome = true) (e : s.ca.results = some r) :
    exec (.checkRead .v) s = .next (answered .v 0x55#8 .ok (encWiring r) s) := by
  have e' : (clearReleased .v s).ca.results = some r := e
  refine congrArg Host.Outcome.next (serve_answered h (by decide) ((if_neg hc).trans ?_))
  rw [e']

theorem exec_checkRead_none {s : State} (h : Serving .v s) (hc : ¬ s.ca.check.isSome = true)
    (e : s.ca.results = none) : exec (.checkRead .v) s = .next (answered .v 0x55#8 .notFound [] s) := by
  have e' : (clearReleased .v s).ca.results = none := e
  refine congrArg Host.Outcome.next (serve_answered h (by decide) ((if_neg hc).trans ?_))
  rw [e']
  rfl

theorem exec_policyGet_some {s : State} {item : Byte} {v : Nat} (h : Serving .v s)
    (e : policyItem? s.policy item.toNat = some v) :
    exec (.policyGet .v item) s = .next (answered .v 0x31#8 .ok
      (encNat32 v ++ encNat32 (itemRange s.policy item.toNat).1 ++ encNat32 (itemRange s.policy item.toNat).2 ++
        encFlag s.policyLock) s) := by
  have e' : policyItem? (clearReleased .v s).policy item.toNat = some v := e
  refine congrArg Host.Outcome.next (serve_answered h (by decide) ?_)
  simp only [getPolicy, e']
  rfl

theorem exec_policyGet_none {s : State} {item : Byte} (h : Serving .v s)
    (e : policyItem? s.policy item.toNat = none) :
    exec (.policyGet .v item) s = .next (answered .v 0x31#8 .notFound [] s) := by
  have e' : policyItem? (clearReleased .v s).policy item.toNat = none := e
  refine congrArg Host.Outcome.next (serve_answered h (by decide) ?_)
  simp only [getPolicy, e']
  rfl

end

/-- Settles O12, read by read. -/
theorem readsReportAndChangeNothing : Obligations.ReadsReportAndChangeNothing := by
  intro l s h
  refine ⟨fun n hn => ?_, fun _ hn => exec_statusRead_notFound h hn, exec_budgetRead h, fun load p => ?_,
    exec_warningList h, exec_faultRead h, ?_, ?_⟩
  · obtain ⟨body, e⟩ := statusSection_isSome hn (clearReleased l s)
    exact ⟨body, e, exec_statusRead_ok h e⟩
  · split
    · next e => exact exec_grantProbe_some h e
    · next e => exact exec_grantProbe_none h e
  · rintro rfl
    split
    · next hc => exact exec_checkRead_testing h hc
    · next hc =>
      split
      · next e => exact exec_checkRead_some h hc e
      · next e => exact exec_checkRead_none h hc e
  · rintro rfl item
    split
    · next e => exact exec_policyGet_some h e
    · next e => exact exec_policyGet_none h e

end Sys2Proof.Machine

namespace Sys2Proof.Machine

/-! ## What the grant table's work leaves standing

The heater's part of a merge may notify a new phase, and nothing else of the ports is written by it; of AU it writes the
table, the shed list and the pointer alone, and it leaves the warnings and CS's review flags. -/

/-- The notices of both ports but HEATER_PHASE. -/
def otherNotices (s : State) : BitVec 32 × BitVec 32 :=
  (s.portV.notices &&& ~~~noticeMask .heaterPhase, s.portB.notices &&& ~~~noticeMask .heaterPhase)

/-- AU beside its table, the warnings, and the flags that a review hands CS (R39, R41, R138). -/
def reviewFrame (s : State) : AdmissionUnit × List Warning × Bool × Bool :=
  ({ s.au with table := [], shedList := [], pointer := 0 }, s.wu.list, s.cs.deficit, s.cs.surplus)

def tableFrame (s : State) : (BitVec 32 × BitVec 32) × AdmissionUnit × List Warning × Bool × Bool :=
  (otherNotices s, reviewFrame s)

theorem setNotice_heaterPhase_masked (p : Port) :
    (setNotice .heaterPhase p).notices &&& ~~~noticeMask .heaterPhase = p.notices &&& ~~~noticeMask .heaterPhase := by
  unfold setNotice; dsimp only
  ext i; simp; grind

@[simp] theorem notifyBoth_heaterPhase_tableFrame (s : State) : tableFrame (notifyBoth .heaterPhase s) = tableFrame s :=
  Prod.ext (Prod.ext (setNotice_heaterPhase_masked _) (setNotice_heaterPhase_masked _)) rfl

@[simp] theorem setTarget_tableFrame (n : Fin 12) (k : Nat) (s : State) : tableFrame (setTarget n k s) = tableFrame s := rfl
@[simp] theorem setChan_tableFrame (n : Fin 12) (c : Channel) (s : State) : tableFrame (setChan n c s) = tableFrame s := rfl
@[simp] theorem heaterTargets_tableFrame (g : Bool) (f p : Nat) (s : State) : tableFrame (heaterTargets g f p s) = tableFrame s := rfl
@[simp] theorem withHs_tableFrame (s : State) (x : Heater) : tableFrame { s with hs := x } = tableFrame s := rfl
@[simp] theorem withFu_tableFrame (s : State) (x : FaultUnit) : tableFrame { s with fu := x } = tableFrame s := rfl
@[simp] theorem wake_tableFrame (c : WakeCause) (s : State) : tableFrame (wake c s) = tableFrame s := by
  unfold wake; split <;> rfl

@[simp] theorem testChannels_tableFrame (n : Fin 12) (s : State) : tableFrame (testChannels n s) = tableFrame s := rfl
@[simp] theorem endTest_tableFrame (s : State) : tableFrame (endTest s) = tableFrame s := rfl
@[simp] theorem startAllFromTargets_tableFrame (s : State) :
    tableFrame (startAllFromTargets s) = tableFrame s := rfl

@[simp] theorem updateGrant_tableFrame (l : Load) (p : Purpose) (f : Grant → Grant) (s : State) :
    tableFrame (updateGrant l p f s) = tableFrame s := rfl

@[simp] theorem unlist_tableFrame (n : Nat) (s : State) : tableFrame (unlist n s) = tableFrame s := rfl
@[simp] theorem dropGrant_tableFrame (l : Load) (p : Purpose) (s : State) :
    tableFrame (dropGrant l p s) = tableFrame s := by
  unfold dropGrant; split <;> rfl

@[simp] theorem shedGrant_tableFrame (t : RtcTime) (g : Grant) (s : State) :
    tableFrame (shedGrant t g s) = tableFrame s := rfl

@[simp] theorem restoreGrant_tableFrame (g : Grant) (s : State) : tableFrame (restoreGrant g s) = tableFrame s := by
  unfold restoreGrant; dsimp only; split <;> rfl

@[simp] theorem internalRequest_tableFrame (l : Load) (p : Purpose) (o : Origin) (e : Option RtcTime) (s : State) :
    tableFrame (internalRequest l p o e s) = tableFrame s := by
  unfold internalRequest; split <;> rfl

@[simp] theorem placeGrant_tableFrame (g : Grant) (s : State) : tableFrame (placeGrant g s) = tableFrame s := rfl
@[simp] theorem toPhase_tableFrame (p : HeaterPhase) (s : State) : tableFrame (toPhase p s) = tableFrame s := by
  simp [toPhase]

@[simp] theorem enterHeaterOff_tableFrame (s : State) : tableFrame (enterHeaterOff s) = tableFrame s :=
  toPhase_tableFrame .off s

@[simp] theorem enterPreheat_tableFrame (s : State) : tableFrame (enterPreheat s) = tableFrame s :=
  toPhase_tableFrame .preheat s

@[simp] theorem enterIgnite_tableFrame (s : State) : tableFrame (enterIgnite s) = tableFrame s :=
  toPhase_tableFrame .ignite s

@[simp] theorem setStage_tableFrame (k : Nat) (s : State) : tableFrame (setStage k s) = tableFrame s := by
  simp [setStage]

@[simp] theorem chooseStage_tableFrame (s : State) : tableFrame (chooseStage s) = tableFrame s := by
  simp [chooseStage]

@[simp] theorem lowerStage_tableFrame (s : State) : tableFrame (lowerStage s) = tableFrame s := by
  unfold lowerStage; split
  · split <;> simp
  · rfl

@[simp] theorem enterRun_tableFrame (s : State) : tableFrame (enterRun s) = tableFrame s :=
  (chooseStage_tableFrame _).trans (toPhase_tableFrame .run s)

@[simp] theorem enterPurge_tableFrame (f : FollowOn) (b : Bool) (c : Option LockCause) (s : State) :
    tableFrame (enterPurge f b c s) = tableFrame s :=
  (internalRequest_tableFrame _ _ _ _ _).trans (toPhase_tableFrame .purge s)

@[simp] theorem enterLockout_tableFrame (c : LockCause) (s : State) :
    tableFrame (enterLockout c s) = tableFrame s :=
  toPhase_tableFrame .lockout s

@[simp] theorem setPending_tableFrame (c : LockCause) (s : State) : tableFrame (setPending c s) = tableFrame s := by
  unfold setPending; split <;> rfl

@[simp] theorem setFollowOn_tableFrame (f : FollowOn) (s : State) : tableFrame (setFollowOn f s) = tableFrame s := by
  unfold setFollowOn; split <;> rfl

@[simp] theorem enterStandby_tableFrame (s : State) : tableFrame (enterStandby s) = tableFrame s := by
  unfold enterStandby; dsimp only; split
  · exact (enterPreheat_tableFrame _).trans (toPhase_tableFrame .standby s)
  · exact toPhase_tableFrame .standby s

@[simp] theorem standbyRestart_tableFrame (s : State) : tableFrame (standbyRestart s) = tableFrame s := by
  unfold standbyRestart; split
  · split <;> simp
  · rfl

@[simp] theorem heatAppears_tableFrame (s : State) : tableFrame (heatAppears s) = tableFrame s := by
  unfold heatAppears; split <;> first | rfl | (split <;> simp) | simp

@[simp] theorem heatVanishes_tableFrame (s : State) : tableFrame (heatVanishes s) = tableFrame s := by
  unfold heatVanishes; split <;> first | rfl | (simp; done) | (simp; split <;> rfl)

@[simp] theorem heatChanges_tableFrame (old : MergedHeat) (s : State) :
    tableFrame (heatChanges old s) = tableFrame s := by
  unfold heatChanges; split <;> (try split) <;> simp

@[simp] theorem handHeat_tableFrame (s : State) : tableFrame (handHeat s) = tableFrame s := by
  unfold handHeat; dsimp only; split
  · rfl
  · split <;> simp

@[simp] theorem mergeHeater_tableFrame (s : State) : tableFrame (mergeHeater s) = tableFrame s := by
  simp [mergeHeater]

@[simp] theorem heaterHoldEntry_tableFrame (h : Bool) (s : State) :
    tableFrame (heaterHoldEntry h s) = tableFrame s := by
  unfold heaterHoldEntry; split <;> first | rfl | (split <;> simp)

@[simp] theorem formRamp_tableFrame (b : Bunk) (s : State) : tableFrame (formRamp b s) = tableFrame s := by
  unfold formRamp; (repeat' split) <;> rfl

@[simp] theorem syncFlash_tableFrame (b : Bunk) (s : State) : tableFrame (syncFlash b s) = tableFrame s := rfl
@[simp] theorem cutPending_tableFrame (s : State) : tableFrame (cutPending s) = tableFrame s := by
  unfold cutPending; split <;> rfl

@[simp] theorem mergeLoad_tableFrame (l : Load) (s : State) : tableFrame (mergeLoad l s) = tableFrame s := by
  cases l <;> simp [mergeLoad, zoneBunk, mergeChannel]

@[simp] theorem mergeAll_tableFrame (s : State) : tableFrame (mergeAll s) = tableFrame s :=
  foldl_keeps tableFrame _ (fun s l => mergeLoad_tableFrame l s) _ s

@[simp] theorem withdraw_tableFrame (l : Load) (p : Purpose) (s : State) : tableFrame (withdraw l p s) = tableFrame s := by
  unfold withdraw; split <;> simp

@[simp] theorem accept_tableFrame (g : Grant) (st : Status) (s : State) : tableFrame (accept g st s).state = tableFrame s := by
  simp [accept]

@[simp] theorem judgeAsk_tableFrame (r : GrantAsk) (s : State) : tableFrame (judgeAsk r s).state = tableFrame s := by
  unfold judgeAsk; dsimp only; (repeat' split) <;> simp

@[simp] theorem setSunrise_tableFrame (b : Bunk) (x : SunriseState) (p : Option RtcTime) (s : State) :
    tableFrame (setSunrise b x p s) = tableFrame s := rfl

@[simp] theorem reconcileSunrise_tableFrame (b : Bunk) (s : State) : tableFrame (reconcileSunrise b s) = tableFrame s := by
  unfold reconcileSunrise reconcileSunrise.clear reconcileSunrise.place; dsimp only; (repeat' split) <;> simp

/-- A notice but HEATER_PHASE stands in a port's set exactly where it stands in the set beside HEATER_PHASE. -/
theorem hasNotice_iff_masked {n : Notice} (hn : n ≠ .heaterPhase) (p : Port) :
    hasNotice n p = (p.notices &&& ~~~noticeMask .heaterPhase).getLsbD (noticeBit n) := by
  cases n <;> simp [hasNotice, noticeMask, noticeBit] at hn ⊢

/-- A notice but HEATER_PHASE stands on where no other notice changes (R200). -/
theorem Noticed.of_tableFrame {n : Notice} {s t : State} (h : Noticed n s) (hn : n ≠ .heaterPhase)
    (e : tableFrame t = tableFrame s) : Noticed n t := by
  obtain ⟨hv, hb⟩ := Prod.mk.inj (Prod.mk.inj e).1
  intro l
  rw [hasNotice_iff_masked hn]
  cases l
  · exact (congrArg (fun x : BitVec 32 => x.getLsbD (noticeBit n)) hv).trans ((hasNotice_iff_masked hn _).symm.trans (h .v))
  · exact (congrArg (fun x : BitVec 32 => x.getLsbD (noticeBit n)) hb).trans ((hasNotice_iff_masked hn _).symm.trans (h .b))

theorem hasNotice_setNotice_self (n : Notice) (p : Port) : hasNotice n (setNotice n p) = true := by
  cases n <;> simp [hasNotice, setNotice, noticeMask, noticeBit]

theorem hasNotice_setNotice {n : Notice} {p : Port} (m : Notice) (h : hasNotice n p = true) :
    hasNotice n (setNotice m p) = true := by
  unfold hasNotice at h
  simp [hasNotice, setNotice, h]

theorem noticed_notifyBoth (n : Notice) (s : State) : Noticed n (notifyBoth n s) := by
  intro l; cases l <;> exact hasNotice_setNotice_self n _

theorem Noticed.notify {n : Notice} {s : State} (h : Noticed n s) (l : Link) (m : Notice) : Noticed n (notify l m s) := by
  intro k
  cases l <;> cases k
  · exact hasNotice_setNotice m (h .v)
  · exact h .b
  · exact h .v
  · exact hasNotice_setNotice m (h .b)

theorem Noticed.notifyBoth {n : Notice} {s : State} (h : Noticed n s) (m : Notice) : Noticed n (notifyBoth m s) :=
  (h.notify .v m).notify .b m

/-- The table's shedding leaves the ports as they are (R40, R50). -/
theorem shedWhile_tableFrame (c : State → Bool) (p : Grant → Bool) (t : RtcTime) :
    ∀ (k : Nat) (a : State × Nat), tableFrame (shedWhile c p t k a).1 = tableFrame a.1
  | 0, _ => rfl
  | k + 1, (s, n) => by
    unfold shedWhile
    split
    · split
      · rw [shedWhile_tableFrame c p t k]; rfl
      · rfl
    · rfl

theorem Noticed.holdShed {n : Notice} {s : State} (h : Noticed n s) (hn : n ≠ .heaterPhase) (t : RtcTime) : Noticed n (holdShed t s) := by
  have hs := h.of_tableFrame hn (shedWhile_tableFrame (fun _ => true)
    (fun g => isExternal g.purpose && (g.state == .active || g.state == .waiting)) t 16 (s, 0))
  unfold Machine.holdShed; dsimp only
  refine Noticed.of_tableFrame ?_ hn (mergeAll_tableFrame _)
  split
  · exact hs
  · exact hs.notifyBoth _

theorem Noticed.enterHold {n : Notice} {s : State} (h : Noticed n s) (hn : n ≠ .heaterPhase) (x : Bool) : Noticed n (enterHold x s) := by
  have ht : Noticed n { s with fu.entryTime := some (now s) } := h
  unfold Machine.enterHold; dsimp only
  refine Noticed.holdShed (Noticed.of_tableFrame (ht.notifyBoth .hold) hn ?_) hn _
  simp

theorem Noticed.addCause {n : Notice} {s : State} (h : Noticed n s) (hn : n ≠ .heaterPhase) (c : HoldCause) (x : Bool) :
    Noticed n (addCause c x s) := by
  have hr : Noticed n (recordCause c s) := h.of_tableFrame hn (by cases c <;> rfl)
  unfold Machine.addCause; (repeat' split)
  · exact h
  · exact hr.notifyBoth _
  · exact hr.enterHold hn _

theorem reviewFrame_of_tableFrame {s t : State} (h : tableFrame t = tableFrame s) : reviewFrame t = reviewFrame s :=
  (Prod.mk.inj h).2

theorem holdShed_reviewFrame (t : RtcTime) (s : State) : reviewFrame (holdShed t s) = reviewFrame s := by
  have hs := reviewFrame_of_tableFrame (shedWhile_tableFrame (fun _ => true)
    (fun g => isExternal g.purpose && (g.state == .active || g.state == .waiting)) t 16 (s, 0))
  unfold holdShed; dsimp only
  rw [reviewFrame_of_tableFrame (mergeAll_tableFrame _)]
  split
  · exact hs
  · exact hs

theorem addCause_reviewFrame (c : HoldCause) (x : Bool) (s : State) : reviewFrame (addCause c x s) = reviewFrame s := by
  unfold addCause enterHold; (repeat' split)
  · rfl
  · cases c <;> rfl
  · rw [holdShed_reviewFrame, reviewFrame_of_tableFrame (mergeHeater_tableFrame _),
      reviewFrame_of_tableFrame (heaterHoldEntry_tableFrame _ _), reviewFrame_of_tableFrame (wake_tableFrame _ _)]
    cases c <;> rfl

end Sys2Proof.Machine

namespace Sys2Proof.Machine

/-! ## O15, O16: the conversion -/

theorem unlessReset_running {s : State} (h : Running s) (f : State → State) : unlessReset f s = f s :=
  if_neg (by simp [inReset, h])

section
variable {shunt volt : Int} {s : State}

theorem shuntSample_ne (shunt : Int) :
    (shunt != shuntSample shunt) = decide (shunt < -32768 ∨ 32767 < shunt) := by
  have h : shunt ≠ max (-32768) (min 32767 shunt) ↔ shunt < -32768 ∨ 32767 < shunt := by omega
  rw [bne, beq_eq_decide, ← decide_not]
  exact decide_eq_decide.2 h

/-- A conversion takes its sample, then its check is judged, then the clearing of VOLTAGE_FLOOR (R1 to R20). -/
theorem conversionAt_eq (t : Nat) (shunt volt : Int) (pass : Bool) (s : State) :
    conversionAt t shunt volt pass s = clearDetector (voltageOf volt)
      (if pass then passedCheck (currentOf shunt) (voltageOf volt) (sampled (max s.tu.clock t) shunt volt s)
        else failedCheck (sampled (max s.tu.clock t) shunt volt s)) := by
  have e : { reach t s with
      cm.convDue := (reach t s).tu.clock + conversionInterval (reach t s).tu.mode
      cm.overRange := (reach t s).cm.overRange || shunt != shuntSample shunt
      cm.latestI := shuntSample shunt
      cm.latestV := voltSample volt } = sampled (max s.tu.clock t) shunt volt s := by
    rw [shuntSample_ne]; rfl
  unfold conversionAt; dsimp only
  rw [e]; rfl

theorem exec_conversion (h : Running s) (shunt volt : Int) (pass : Bool) :
    exec (.conversion shunt volt pass) s = .next (conversionAt s.cm.convDue shunt volt pass s) :=
  congrArg Host.Outcome.next (unlessReset_running h _)

theorem clearDetector_off (v : Nat) (h : s.cm.voltageFloor = false) : clearDetector v s = s :=
  if_neg (by simp [h])

/-! ### The detectors (R12 to R16) -/

theorem fullMet_iff {p : Policy} {i : Int} {v : Nat} : fullMet p i v = true ↔ p.p05 ≤ v ∧ 0 ≤ i ∧ i ≤ p.p06 := by
  simp [fullMet, and_assoc]

theorem floorMet_iff {p : Policy} {i : Int} {v : Nat} : floorMet p i v = true ↔ v < p.p07 ∧ i < 0 := by
  simp [floorMet]

/-- A detector that is not running starts where its condition is met (R12). -/
theorem detect_idle (meets : Bool) (duration t : Nat) :
    detect none meets duration t = (if meets then some t else none, false) := by
  cases meets <;> rfl

/-- A detector whose condition fails stops (R12). -/
theorem detect_unmet (start : Option Nat) (duration t : Nat) : detect start false duration t = (none, false) := rfl

theorem fullDetector_idle {i : Int} {v : Nat} (hl : s.cm.fullLatched = false) (hs : s.cm.fullStart = none) :
    fullDetector i v s =
      { s with cm.fullStart := if s.policy.p05 ≤ v ∧ 0 ≤ i ∧ i ≤ s.policy.p06 then some s.tu.clock else none } := by
  unfold fullDetector; dsimp only
  rw [if_neg (by simp [hl]), hs, detect_idle]
  simp only [fullMet_iff]
  rfl

theorem floorDetector_idle {i : Int} {v : Nat} (hv : s.cm.voltageFloor = false) (hs : s.cm.floorStart = none) :
    floorDetector i v s = { s with
      cm.floorStart := if v < s.policy.p07 ∧ i < 0 ∧ (input 0 s).active = false then some s.tu.clock else none } := by
  unfold floorDetector; dsimp only
  by_cases he : (input 0 s).active = true
  · rw [if_pos (by simp [engineRuns, he]), if_neg (by simp [he])]
  · rw [if_neg (by simp [engineRuns, he, hv]), hs, detect_idle]
    simp only [floorMet_iff, he]
    simp

/-! ### A conversion's outcome (R17 to R19) -/

/-- A good sample with no detector running: integrated, and each detector started where its condition is met. -/
theorem goodSample_idle {i : Int} {v : Nat} (hl : s.cm.fullLatched = false) (hf : s.cm.fullStart = none)
    (hv : s.cm.voltageFloor = false) (hs : s.cm.floorStart = none) :
    goodSample i v s = { s with cm := { s.cm with
      q := (integrate s.policy.p01 s.cm.q s.cm.r (sampleCharge i (sampleWeight s.tu.mode) s.policy.p04)).1
      r := (integrate s.policy.p01 s.cm.q s.cm.r (sampleCharge i (sampleWeight s.tu.mode) s.policy.p04)).2
      winSum := s.cm.winSum + i, winCount := s.cm.winCount + 1
      fullStart := if s.policy.p05 ≤ v ∧ 0 ≤ i ∧ i ≤ s.policy.p06 then some s.tu.clock else none
      floorStart := if v < s.policy.p07 ∧ i < 0 ∧ (input 0 s).active = false then some s.tu.clock else none } } := by
  have hf' : (integrateSample i s).cm.fullStart = none := hf
  have hl' : (integrateSample i s).cm.fullLatched = false := hl
  unfold goodSample
  rw [fullDetector_idle hl' hf']
  exact floorDetector_idle hv hs

theorem passedCheck_lost {i : Int} {v : Nat} (hl : s.cm.pathLost = true) (hn : s.cm.passCount < 9) :
    passedCheck i v s = { s with cm := { s.cm with
      failCount := 0, passCount := s.cm.passCount + 1, fullStart := none, floorStart := none } } := by
  unfold passedCheck; dsimp only
  rw [if_pos hl, if_pos (by omega)]

/-- The charge path after a PASS that is taken: GOOD, with Q_STALE where it was LOST (R18, R19). -/
def pathGood (s : State) : State :=
  { s with cm := { s.cm with
    failCount := 0, passCount := s.cm.passCount + 1, pathLost := false, qStale := s.cm.qStale || s.cm.pathLost } }

theorem passedCheck_taken {i : Int} {v : Nat} (h : s.cm.pathLost = false ∨ 9 ≤ s.cm.passCount) :
    passedCheck i v s = goodSample i v (pathGood s) := by
  unfold passedCheck pathGood; dsimp only
  by_cases hl : s.cm.pathLost = true
  · have hn : 9 ≤ s.cm.passCount := h.resolve_left (by simp [hl])
    rw [if_pos hl, if_neg (by omega)]
    simp [hl]
  · rw [if_neg hl]
    simp only [Bool.not_eq_true] at hl
    simp only [hl, Bool.or_false]

/-- The charge path at its third FAIL in GOOD: LOST, the sample discarded (R17, R18). -/
def pathGone (s : State) : State :=
  { s with cm := { s.cm with
    failCount := s.cm.failCount + 1, passCount := 0, pathLost := true, fullStart := none, floorStart := none } }

theorem failedCheck_discarded (h : s.cm.pathLost = true ∨ s.cm.failCount < 2) :
    failedCheck s = { s with cm := { s.cm with
      failCount := s.cm.failCount + 1, passCount := 0, fullStart := none, floorStart := none } } := by
  unfold failedCheck; dsimp only
  exact if_neg (by rcases h with h | h <;> simp [h])

/-- The third FAIL in GOOD loses the path (R17). -/
theorem failedCheck_lost (h : s.cm.pathLost = false) (hn : 2 ≤ s.cm.failCount) :
    failedCheck s = takeFault chargePathReport (pathGone s) := by
  unfold failedCheck pathGone; dsimp only
  exact if_pos (by simp [h]; omega)

/-! ### SAFE HOLD entry (R163) -/

theorem enterHold_fu (x : Bool) (s : State) : (enterHold x s).fu = { s.fu with entryTime := some (now s) } := by
  simp [enterHold, besideGrants_fu (holdShed_besideGrants _ _), besideGrants_fu (mergeHeater_besideGrants _),
    besideGrants_fu (heaterHoldEntry_besideGrants _ _)]

theorem addCause_record (c : HoldCause) (x : Bool) (s : State) : (addCause c x s).fu.record = s.fu.record := by
  unfold addCause; (repeat' split)
  · rfl
  · cases c <;> rfl
  · rw [enterHold_fu]; cases c <;> rfl

theorem holdCause_addCause (c : HoldCause) (x : Bool) (s : State) :
    holdCause c (addCause c x s) = some ((holdCause c s).getD (now s)) := by
  unfold addCause
  split
  · next e => rw [e]; rfl
  · next e =>
    rw [e]
    split
    · cases c <;> rfl
    · cases c <;> simp [holdCause, enterHold_fu, recordCause, now]

theorem inHold_of_holdCause {c : HoldCause} {s : State} (h : (holdCause c s).isSome = true) : inHold s = true := by
  cases c <;> simp [inHold] <;> simp_all [holdCause]

/-- The capture of a lost charge path enters SAFE HOLD with cause 2 (R17, R158, R163). -/
theorem takeFault_chargePath {s : State} (h : s.fu.record = none) :
    takeFault chargePathReport s = addCause .chargePathLost false
      (wake .capture (notifyBoth .fault { s with fu.record := some ⟨chargePathReport, now s⟩ })) := by
  unfold takeFault; rw [h]; rfl

/-- What the capture of a lost charge path does beside the hold's work (R17, R158, R163). -/
theorem chargePath_captured {s : State} (h : s.fu.record = none) :
    let u := takeFault chargePathReport s
    u.fu.record = some ⟨chargePathReport, now s⟩ ∧ inHold u = true ∧
    u.fu.cause2 = some (s.fu.cause2.getD (now s)) ∧ Noticed .fault u ∧ besideFaults u = besideFaults s := by
  have hn : now (wake .capture (notifyBoth .fault { s with fu.record := some ⟨chargePathReport, now s⟩ })) = now s := by
    unfold now wake; split <;> rfl
  have hcause : (takeFault chargePathReport s).fu.cause2 = some (s.fu.cause2.getD (now s)) := by
    rw [takeFault_chargePath h]
    refine (holdCause_addCause .chargePathLost false _).trans ?_
    rw [hn]
    simp [holdCause]
  refine ⟨?_, inHold_of_holdCause (c := .chargePathLost) (congrArg Option.isSome hcause), hcause, ?_, by simp⟩
  · rw [takeFault_chargePath h, addCause_record]
    simp
  · rw [takeFault_chargePath h]
    have hne : Notice.fault ≠ .heaterPhase := by decide
    exact ((noticed_notifyBoth .fault _).of_tableFrame hne (wake_tableFrame .capture _)).addCause hne _ _

end

/-- Settles O15, clause by clause. -/
theorem conversionIntegratesOrDiscards : Obligations.ConversionIntegratesOrDiscards := by
  intro shunt volt s hr hv t
  have run (pass : Bool) := (exec_conversion hr shunt volt pass).trans
    (congrArg Host.Outcome.next (conversionAt_eq s.cm.convDue shunt volt pass s))
  have unclear (x : State) (hx : x.cm.voltageFloor = false) : clearDetector (voltageOf volt) x = x :=
    clearDetector_off _ hx
  refine ⟨fun hl hf hs hp => ?_, fun hp hn => ?_, fun hp => ?_, fun hp hn hrec => ?_⟩
  · have taken := passedCheck_taken (i := currentOf shunt) (v := voltageOf volt) (s := sampled t shunt volt s) hp
    rw [run, if_pos rfl, taken, goodSample_idle (s := pathGood (sampled t shunt volt s)) hl hf hv hs]
    exact congrArg Host.Outcome.next (unclear _ hv)
  · have lost := passedCheck_lost (i := currentOf shunt) (v := voltageOf volt) (s := sampled t shunt volt s) hp hn
    rw [run, if_pos rfl, lost]
    exact congrArg Host.Outcome.next (unclear _ hv)
  · have discarded := failedCheck_discarded (s := sampled t shunt volt s) hp
    rw [run, if_neg nofun, discarded]
    exact congrArg Host.Outcome.next (unclear _ hv)
  · have lost := failedCheck_lost (s := sampled t shunt volt s) hp hn
    have hf := chargePath_captured (s := pathGone (sampled t shunt volt s)) hrec
    obtain ⟨hrecord, hhold, hcause, hnotice, hframe⟩ := hf
    have hcm := besideFaults_cm hframe
    refine ⟨_, by rw [run, if_neg nofun, lost, unclear _ (by rw [hcm]; exact hv)], ?_⟩
    exact ⟨by rw [hcm]; rfl, by rw [hcm]; rfl, by rw [hcm]; rfl, by rw [hcm]; rfl, by rw [hcm]; rfl, hrecord, hhold,
      hcause, hnotice, hframe⟩

end Sys2Proof.Machine

namespace Sys2Proof.Machine

section
variable {shunt volt : Int} {s : State}

/-! ### The detectors at the end of their durations (R12 to R16) -/

/-- A running detector whose condition is met at the end of its duration fires (R12). -/
theorem detect_due {st duration t : Nat} (h : st + duration ≤ t) :
    detect (some st) true duration t = (none, true) := by
  simp [detect, h]

/-- The sample of a PASS in GOOD, integrated, before its detectors run (R4, R17). -/
def takenSample (i : Int) (s : State) : State :=
  integrateSample i { s with cm.failCount := 0, cm.passCount := s.cm.passCount + 1 }

theorem passedCheck_good {i : Int} {v : Nat} (h : s.cm.pathLost = false) :
    passedCheck i v s = floorDetector i v (fullDetector i v (takenSample i s)) := by
  unfold passedCheck; dsimp only
  exact if_neg (by simp [h])

theorem fullDetector_due {i : Int} {v st : Nat} (hl : s.cm.fullLatched = false) (hs : s.cm.fullStart = some st)
    (hm : fullMet s.policy i v = true) (ht : st + secs 600 ≤ s.tu.clock) : fullDetector i v s = fullFires s := by
  unfold fullDetector; dsimp only
  rw [if_neg (by simp [hl]), hs, hm, detect_due ht, if_pos rfl]

/-- The full detector stops and unlatches where its condition fails (R13). -/
theorem fullDetector_unmet {i : Int} {v : Nat} (hm : fullMet s.policy i v = false) :
    fullDetector i v s = { s with cm.fullLatched := false, cm.fullStart := none } := by
  unfold fullDetector; dsimp only
  rw [hm, detect_unmet]
  by_cases hl : s.cm.fullLatched = true
  · rw [if_pos hl]; rfl
  · rw [if_neg hl]
    simp only [Bool.not_eq_true] at hl
    simp [hl]

theorem floorDetector_unmet {i : Int} {v : Nat} (hm : floorMet s.policy i v = false) :
    floorDetector i v s = { s with cm.floorStart := none } := by
  unfold floorDetector; dsimp only
  rw [hm, detect_unmet]
  split <;> rfl

theorem floorDetector_due {i : Int} {v st : Nat} (hv : s.cm.voltageFloor = false) (he : (input 0 s).active = false)
    (hs : s.cm.floorStart = some st) (hm : floorMet s.policy i v = true) (ht : st + secs 30 ≤ s.tu.clock) :
    floorDetector i v s = floorFires s := by
  unfold floorDetector; dsimp only
  rw [if_neg (by simp [hv, engineRuns, he]), hs, hm, detect_due ht, if_pos rfl]

theorem clearDetector_due {v st : Nat} (hv : s.cm.voltageFloor = true) (hs : s.cm.clearStart = some st)
    (hm : clearMet s.policy v = true) (ht : st + secs 60 ≤ s.tu.clock) :
    clearDetector v s = { s with cm.voltageFloor := false, cm.clearStart := none } := by
  unfold clearDetector; dsimp only
  rw [if_pos hv, hs, hm, detect_due ht, if_pos rfl]

theorem clearDetector_unmet {v : Nat} (hv : s.cm.voltageFloor = true) (hm : clearMet s.policy v = false) :
    clearDetector v s = { s with cm.clearStart := none } := by
  unfold clearDetector; dsimp only
  rw [if_pos hv, hm, detect_unmet]
  rfl

theorem clearMet_iff {p : Policy} {v : Nat} : clearMet p v = true ↔ p.p07 + 500 ≤ v := by
  simp [clearMet]

/-! ### What the clearing of VOLTAGE_FLOOR reads -/

/-- What the floor-clear detector reads (R16). -/
def clearView (s : State) : Bool × Option Nat × Nat × Policy :=
  (s.cm.voltageFloor, s.cm.clearStart, s.tu.clock, s.policy)

theorem clearView_of_besideFaults {s t : State} (h : besideFaults t = besideFaults s) : clearView t = clearView s :=
  besideFaults_field clearView h fun _ => rfl

theorem fullDetector_clearView (i : Int) (v : Nat) (s : State) : clearView (fullDetector i v s) = clearView s := by
  unfold fullDetector; dsimp only; (repeat' split) <;> rfl

theorem goodSample_clearView {i : Int} {v : Nat} (h : s.cm.voltageFloor = true) :
    clearView (goodSample i v s) = clearView s := by
  have hf := fullDetector_clearView i v (integrateSample i s)
  have hv : (fullDetector i v (integrateSample i s)).cm.voltageFloor = true :=
    (congrArg Prod.fst hf).trans h
  unfold goodSample floorDetector; dsimp only
  rw [if_pos (by simp [hv])]
  exact hf

/-- While VOLTAGE_FLOOR is set a conversion's check leaves what clears it (R14, R16). -/
theorem passedCheck_clearView {i : Int} {v : Nat} (h : s.cm.voltageFloor = true) :
    clearView (passedCheck i v s) = clearView s := by
  unfold passedCheck; dsimp only; (repeat' split)
  · rfl
  · exact goodSample_clearView h
  · exact goodSample_clearView h

theorem failedCheck_clearView (s : State) : clearView (failedCheck s) = clearView s := by
  unfold failedCheck; dsimp only; split
  · exact (clearView_of_besideFaults (takeFault_besideFaults chargePathReport _)).trans rfl
  · rfl

theorem conversionAt_clears {t st : Nat} (pass : Bool) (hv : s.cm.voltageFloor = true) (hs : s.cm.clearStart = some st)
    (hm : s.policy.p07 + 500 ≤ voltageOf volt) (ht : st + secs 60 ≤ max s.tu.clock t) :
    (conversionAt t shunt volt pass s).cm.voltageFloor = false ∧
    (conversionAt t shunt volt pass s).cm.clearStart = none ∧
    (conversionAt t shunt volt pass s).tu.clock = max s.tu.clock t := by
  have view : ∀ x, clearView x = clearView (sampled (max s.tu.clock t) shunt volt s) →
      (clearDetector (voltageOf volt) x).cm.voltageFloor = false ∧
      (clearDetector (voltageOf volt) x).cm.clearStart = none ∧
      (clearDetector (voltageOf volt) x).tu.clock = max s.tu.clock t := by
    intro x hx
    simp only [clearView, Prod.mk.injEq] at hx
    obtain ⟨hfloor, hstart, hclock, hpolicy⟩ := hx
    have hclock' : x.tu.clock = max s.tu.clock t := hclock
    rw [clearDetector_due (hfloor.trans hv) (hstart.trans hs) (by rw [hpolicy]; exact clearMet_iff.2 hm)
      (by rw [hclock']; exact ht)]
    exact ⟨rfl, rfl, hclock'⟩
  rw [conversionAt_eq]
  cases pass
  · exact view _ (failedCheck_clearView _)
  · exact view _ (passedCheck_clearView hv)

/-! ### The events that carry a conversion -/

theorem exec_fullDetection {st : Nat} (hr : Running s) (hs : s.cm.fullStart = some st) (hp : s.cm.pathLost = false)
    (hl : s.cm.fullLatched = false) (hm : fullMet s.policy (currentOf shunt) (voltageOf volt) = true) :
    exec (.fullDetection shunt volt) s =
      .next (conversionAt (max s.cm.convDue (st + secs 600)) shunt volt true s) := by
  refine congrArg Host.Outcome.next ((unlessReset_running hr _).trans ?_)
  unfold fullDetection
  rw [hs]
  exact if_pos (by rw [hp, hl]; exact hm)

theorem exec_floorCorrection {st : Nat} (hr : Running s) (hs : s.cm.floorStart = some st) (hp : s.cm.pathLost = false)
    (hv : s.cm.voltageFloor = false) (he : (input 0 s).active = false)
    (hm : floorMet s.policy (currentOf shunt) (voltageOf volt) = true) :
    exec (.floorCorrection shunt volt) s =
      .next (conversionAt (max s.cm.convDue (st + secs 30)) shunt volt true s) := by
  refine congrArg Host.Outcome.next ((unlessReset_running hr _).trans ?_)
  unfold floorCorrection engineRuns
  rw [hs]
  exact if_pos (by rw [hp, hv, he]; exact hm)

theorem exec_voltageFloorClear {st : Nat} (hr : Running s) (pass : Bool) (hs : s.cm.clearStart = some st)
    (hv : s.cm.voltageFloor = true) (hm : clearMet s.policy (voltageOf volt) = true) :
    exec (.voltageFloorClear shunt volt pass) s =
      .next (conversionAt (max s.cm.convDue (st + secs 60)) shunt volt pass s) := by
  refine congrArg Host.Outcome.next ((unlessReset_running hr _).trans ?_)
  unfold floorClear
  rw [hs]
  exact if_pos (by rw [hv]; exact hm)

/-! ### The floor correction (R15) -/

/-- The count and the residue after the floor correction, with VOLTAGE_FLOOR set (R15). -/
def floored (s : State) : State :=
  { s with cm := { s.cm with
    q := min s.cm.q (floorCount s), r := if floorCount s < s.cm.q then 0 else s.cm.r, voltageFloor := true
    floorStart := none, clearStart := none } }

theorem floorFires_besideGrants (s : State) : besideGrants (floorFires s) = besideGrants (floored s) := by
  unfold floorFires floored; dsimp only
  by_cases h : floorCount s < s.cm.q
  · rw [if_pos (by simpa using h), revalidate_besideGrants, if_pos h, Nat.min_eq_right (Nat.le_of_lt h)]
  · rw [if_neg (by simpa using h), if_neg h, Nat.min_eq_left (Nat.le_of_not_lt h)]

theorem floorFires_of_le (h : ¬ floorCount s < s.cm.q) :
    floorFires s = { s with cm.voltageFloor := true, cm.floorStart := none, cm.clearStart := none } :=
  if_neg (by simpa using h)

/-- What a reading of free charge rests on (R7). -/
theorem freeCharge_of_cm_policy {s t : State} (hc : t.cm = s.cm) (hp : t.policy = s.policy) :
    freeCharge t = freeCharge s := by
  unfold freeCharge usable factor tbInUse; rw [hc, hp]

/-- The corrected count covers the reserve (R15). -/
theorem freeCharge_floored (h : floorCount s < s.cm.q) : 0 ≤ freeCharge (floored s) := by
  have hq : (floored s).cm.q = floorCount s := Nat.min_eq_right (Nat.le_of_lt h)
  exact (freeCharge_nonneg_iff (floored s) _).2 (Nat.le_of_eq hq.symm)

/-- After the floor correction the clearing detector is idle: the voltage is below its threshold (R16). -/
theorem clearDetector_floorFires {v : Nat} (h : v < s.policy.p07) :
    clearDetector v (floorFires s) = { floorFires s with cm.clearStart := none } := by
  have hframe := floorFires_besideGrants s
  have hv : (floorFires s).cm.voltageFloor = true := by rw [besideGrants_cm hframe]; rfl
  have hm : clearMet (floorFires s).policy v = false := by
    rw [besideGrants_policy hframe, Bool.eq_false_iff, ne_eq, clearMet_iff]
    show ¬ s.policy.p07 + 500 ≤ v
    omega
  exact clearDetector_unmet hv hm

/-- What the floor correction leaves, with the clearing detector idle (R15, R16). -/
theorem floorCorrected {v : Nat} (h : v < s.policy.p07) :
    let u := clearDetector v (floorFires s)
    besideGrants u = besideGrants (floored s) ∧ (floorCount s < s.cm.q → 0 ≤ freeCharge u) ∧
    (¬ floorCount s < s.cm.q → u.au = s.au ∧ u.ca = s.ca ∧ u.hs = s.hs) := by
  have hframe : besideGrants (clearDetector v (floorFires s)) = besideGrants (floored s) := by
    rw [clearDetector_floorFires h]
    exact congrArg (fun x : State => { x with cm.clearStart := none }) (floorFires_besideGrants s)
  refine ⟨hframe, fun hl => ?_, fun hl => ?_⟩
  · rw [freeCharge_of_cm_policy (besideGrants_cm hframe) (besideGrants_policy hframe)]
    exact freeCharge_floored hl
  · rw [clearDetector_floorFires h, floorFires_of_le hl]
    exact ⟨rfl, rfl, rfl⟩

/-- The full detector fires on a good sample; the floor detector's condition cannot hold with it (R13, R14). -/
theorem passedCheck_full {i : Int} {v st : Nat} (hp : s.cm.pathLost = false) (hl : s.cm.fullLatched = false)
    (hs : s.cm.fullStart = some st) (hm : fullMet s.policy i v = true) (ht : st + secs 600 ≤ s.tu.clock) :
    passedCheck i v s = { fullFires (takenSample i s) with cm.floorStart := none } := by
  have hfloor : floorMet s.policy i v = false := by
    have := fullMet_iff.1 hm
    rw [Bool.eq_false_iff, ne_eq, floorMet_iff]; omega
  rw [passedCheck_good hp, fullDetector_due (s := takenSample i s) hl hs hm ht]
  exact floorDetector_unmet hfloor

/-- The floor detector fires on a good sample; the full detector's condition cannot hold with it (R13, R15). -/
theorem passedCheck_floor {i : Int} {v st : Nat} (hp : s.cm.pathLost = false) (hv : s.cm.voltageFloor = false)
    (he : (input 0 s).active = false) (hs : s.cm.floorStart = some st) (hm : floorMet s.policy i v = true)
    (ht : st + secs 30 ≤ s.tu.clock) :
    passedCheck i v s = floorFires { takenSample i s with cm.fullLatched := false, cm.fullStart := none } := by
  have hfull : fullMet s.policy i v = false := by
    have := floorMet_iff.1 hm
    rw [Bool.eq_false_iff, ne_eq, fullMet_iff]; omega
  rw [passedCheck_good hp, fullDetector_unmet (s := takenSample i s) hfull]
  exact floorDetector_due hv he hs hm ht

end

/-- Settles O16, detector by detector. -/
theorem detectorsFire : Obligations.DetectorsFire := by
  intro shunt volt s hr
  refine ⟨fun st hs hp hl hv hv5 hi hi6 => ?_, fun st hs hp hv he hv7 hi => ?_, fun st hs hv hv7 => ⟨fun hp => ?_, ?_⟩⟩
  · have hm : fullMet s.policy (currentOf shunt) (voltageOf volt) = true := fullMet_iff.2 ⟨hv5, hi, hi6⟩
    have fires := passedCheck_full (s := sampled (max s.tu.clock (max s.cm.convDue (st + secs 600))) shunt volt s)
      hp hl hs hm (le_max_of_le_right (le_max_right _ _))
    rw [exec_fullDetection hr hs hp hl hm, conversionAt_eq, if_pos rfl, fires]
    exact congrArg Host.Outcome.next (clearDetector_off _ hv)
  · have hm : floorMet s.policy (currentOf shunt) (voltageOf volt) = true := floorMet_iff.2 ⟨hv7, hi⟩
    have fires := passedCheck_floor (s := sampled (max s.tu.clock (max s.cm.convDue (st + secs 30))) shunt volt s)
      hp hv he hs hm (le_max_of_le_right (le_max_right _ _))
    refine ⟨_, by rw [exec_floorCorrection hr hs hp hv he hm, conversionAt_eq, if_pos rfl, fires], ?_⟩
    exact floorCorrected hv7
  · have hm := clearMet_iff.2 hv7
    have discarded := failedCheck_discarded
      (s := sampled (max s.tu.clock (max s.cm.convDue (st + secs 60))) shunt volt s) (.inl hp)
    rw [exec_voltageFloorClear hr false hs hv hm, conversionAt_eq, if_neg nofun, discarded]
    exact congrArg Host.Outcome.next (clearDetector_due hv hs hm (le_max_of_le_right (le_max_right _ _)))
  · intro pass
    exact ⟨_, exec_voltageFloorClear hr pass hs hv (clearMet_iff.2 hv7),
      conversionAt_clears pass hv hs hv7 (le_max_of_le_right (le_max_right _ _))⟩

end Sys2Proof.Machine

namespace Sys2Proof.Machine

/-! ## O17: the battery and the cabinet sensor (R3, R100, R108) -/

section
variable {s : State}

/-- A capture of a source without a load, of any fault but a lost charge path, does no more than record it (R158). -/
theorem takeFault_loadless {r : FaultReport} (hr : s.fu.record = none) (hl : sourceLoad r.source = none)
    (hc : r.code ≠ .chargePath) :
    takeFault r s = wake .capture (notifyBoth .fault { s with fu.record := some ⟨r, now s⟩ }) := by
  unfold takeFault capture suspendFor chargePathHold
  rw [hr, hl]
  exact if_neg (by simpa using hc)

theorem takeFault_loadless_noticed {r : FaultReport} (hr : s.fu.record = none) (hl : sourceLoad r.source = none)
    (hc : r.code ≠ .chargePath) : Noticed .fault (takeFault r s) := by
  rw [takeFault_loadless hr hl hc]
  exact (noticed_notifyBoth .fault _).of_tableFrame (by decide) (wake_tableFrame .capture _)

theorem takeFault_loadless_fu {r : FaultReport} (hr : s.fu.record = none) (hl : sourceLoad r.source = none)
    (hc : r.code ≠ .chargePath) : (takeFault r s).fu = { s.fu with record := some ⟨r, now s⟩ } := by
  rw [takeFault_loadless hr hl hc, wake_fu]
  rfl

theorem takeFault_loadless_cs {r : FaultReport} (hr : s.fu.record = none) (hl : sourceLoad r.source = none)
    (hc : r.code ≠ .chargePath) : (takeFault r s).cs = s.cs := by
  rw [takeFault_loadless hr hl hc, wake_cs]
  rfl

theorem takeFault_loadless_wu {r : FaultReport} (hr : s.fu.record = none) (hl : sourceLoad r.source = none)
    (hc : r.code ≠ .chargePath) : (takeFault r s).wu = s.wu := by
  rw [takeFault_loadless hr hl hc, wake_wu]
  rfl

/-- A bad result's code is never that of a lost charge path. -/
theorem badCode_ne {r : TempResult} {code : FaultCode}
    (h : r = .openCircuit ∧ code = .sensorOpen ∨ r = .shortCircuit ∧ code = .sensorShort) : code ≠ .chargePath := by
  rcases h with ⟨-, rfl⟩ | ⟨-, rfl⟩ <;> decide

/-- A temperature result puts a sensor in use unless it has failed and this is not its third good one (R3). -/
theorem sensorStep_inUse (x : Sensor) (c : Int) (h : x.failed = false ∨ 2 ≤ x.goodCount) :
    sensorStep (-40) 85 x (.celsius c) = (⟨false, 0, x.goodCount + 1⟩, .value (max (-40) (min 85 c))) := by
  rw [sensorStep_celsius]
  exact if_neg (by rintro ⟨hf, hg⟩; rcases h with h | h <;> [exact absurd hf (by simp [h]); omega])

theorem sensorStep_waits (x : Sensor) (c : Int) (hf : x.failed = true) (hg : x.goodCount < 2) :
    sensorStep (-40) 85 x (.celsius c) = (⟨true, 0, x.goodCount + 1⟩, .keep) := by
  rw [sensorStep_celsius]
  exact if_pos ⟨hf, hg⟩

/-! ### The CABINET_WARM warning's removal -/

theorem removeWarning_cab_list (k : WarnKind) (s : State) :
    (removeWarning k .cab s).wu.list = s.wu.list.filter (fun w => !isWarning k .cab w) := by
  unfold removeWarning
  split
  · next e =>
    have e' : s.wu.list.find? (isWarning k .cab) = none := e
    rw [List.find?_eq_none] at e'
    exact (List.filter_eq_self.2 fun w hw => by simpa using e' w hw).symm
  · have hc : ∀ y : State, (cutChime k .cab y).wu.list = y.wu.list := by
      intro y; unfold cutChime; (repeat' split) <;> rfl
    exact hc _

theorem findWarning_removeWarning_cab (k : WarnKind) (s : State) : findWarning k .cab (removeWarning k .cab s) = none := by
  unfold findWarning
  rw [removeWarning_cab_list, List.find?_eq_none]
  intro w hw
  simpa using (List.mem_filter.1 hw).2

theorem removeWarning_cab_besideGrants (k : WarnKind) (s : State) :
    besideGrants (removeWarning k .cab s) = besideGrants s := by
  have hc : ∀ y : State, besideGrants (cutChime k .cab y) = besideGrants y := by
    intro y; unfold cutChime; (repeat' split) <;> rfl
  unfold removeWarning
  split
  · rfl
  · exact (hc _).trans rfl

/-! ### A result, by what it does to its sensor -/

/-- `s` with a battery result taken and the sensor as it leaves it (R3). -/
def battTaken (x : Sensor) (s : State) : State :=
  { s with
    tu.clock := max s.tu.clock s.cm.tempDue
    cm.tempDue := max s.tu.clock s.cm.tempDue + 1000000
    cm.sensor := x }

theorem battTemp_keep {r : TempResult} {x : Sensor} (h : sensorStep (-40) 85 s.cm.sensor r = (x, .keep)) :
    battTemp r s = battTaken x s := by
  unfold battTemp; dsimp only [reach_cm]; rw [h]; rfl

theorem battTemp_value {r : TempResult} {x : Sensor} {c : Int}
    (h : sensorStep (-40) 85 s.cm.sensor r = (x, .value c)) : battTemp r s = { battTaken x s with cm.tb := c } := by
  unfold battTemp; dsimp only [reach_cm]; rw [h]; rfl

theorem battTemp_failed {r : TempResult} {x : Sensor} {code : FaultCode}
    (h : sensorStep (-40) 85 s.cm.sensor r = (x, .failed code)) :
    battTemp r s = takeFault (sensorReport .battTemp code (.chargePath s.cm.pathLost) true) (battTaken x s) := by
  unfold battTemp; dsimp only [reach_cm]; rw [h]; rfl

/-- `s` with a cabinet result taken and the sensor as it leaves it (R100). -/
def cabinetTaken (x : Sensor) (s : State) : State :=
  { s with
    tu.clock := max s.tu.clock s.cs.tempDue
    cs.tempDue := max s.tu.clock s.cs.tempDue + 1000000
    cs.sensor := x }

theorem cabinetTemp_value {r : TempResult} {x : Sensor} {c : Int}
    (h : sensorStep (-40) 85 s.cs.sensor r = (x, .value c)) : cabinetTemp r s = cabinetValue c (cabinetTaken x s) := by
  unfold cabinetTemp; dsimp only [reach_cs]; rw [h]; rfl

theorem cabinetTemp_failed {r : TempResult} {x : Sensor} {code : FaultCode}
    (h : sensorStep (-40) 85 s.cs.sensor r = (x, .failed code)) :
    cabinetTemp r s = cabinetFailed code (cabinetTaken x s) := by
  unfold cabinetTemp; dsimp only [reach_cs]; rw [h]; rfl

theorem clearWarm_warm (s : State) : (clearWarm s).cs = { s.cs with warm := false } := removeWarning_cs _ _ _

theorem exec_battTemp (hr : Running s) (r : TempResult) : exec (.battTempConversion r) s = .next (battTemp r s) :=
  congrArg Host.Outcome.next (unlessReset_running hr _)

theorem exec_cabinetTemp (hr : Running s) (r : TempResult) : exec (.cabinetTempConversion r) s = .next (cabinetTemp r s) :=
  congrArg Host.Outcome.next (unlessReset_running hr _)

/-! ### The cases of the statement -/

theorem battTemp_celsius (c : Int) (s : State) :
    let t := max s.tu.clock s.cm.tempDue
    let inUse : Bool := !s.cm.sensor.failed || decide (2 ≤ s.cm.sensor.goodCount)
    battTemp (.celsius c) s = { s with
      tu.clock := t
      cm.tempDue := t + 1000000
      cm.sensor := { failed := !inUse, badCount := 0, goodCount := s.cm.sensor.goodCount + 1 }
      cm.tb := if inUse = true then max (-40) (min 85 c) else s.cm.tb } := by
  intro t inUse
  cases hu : inUse
  · obtain ⟨hf, hg⟩ : s.cm.sensor.failed = true ∧ s.cm.sensor.goodCount < 2 := by simpa [inUse] using hu
    exact battTemp_keep (sensorStep_waits _ c hf hg)
  · have h : s.cm.sensor.failed = false ∨ 2 ≤ s.cm.sensor.goodCount := by simpa [inUse] using hu
    exact battTemp_value (sensorStep_inUse _ c h)

theorem cabinetTemp_bad {r : TempResult} {code : FaultCode}
    (hcode : r = .openCircuit ∧ code = .sensorOpen ∨ r = .shortCircuit ∧ code = .sensorShort)
    (hf : s.cs.sensor.failed = false) (hb : 2 ≤ s.cs.sensor.badCount) :
    cabinetTemp r s = cabinetFailed code (cabinetTaken ⟨true, s.cs.sensor.badCount + 1, 0⟩ s) :=
  cabinetTemp_failed ((sensorStep_bad _ _ _ _ _ hcode).trans (if_pos ⟨hf, hb⟩))

end

/-- Settles O17, result by result. -/
theorem temperatureResultsJudged : Obligations.TemperatureResultsJudged := by
  refine ⟨fun c s hr => ?_, fun r code s hcode hr => ⟨fun h => ?_, fun hf hb hrec => ?_⟩,
    fun c s hr hu => ⟨fun hw => ?_, fun hw ht => ?_⟩, fun r code s hcode hr hf hb hrec => ?_⟩
  · exact (exec_battTemp hr _).trans (congrArg Host.Outcome.next (battTemp_celsius c s))
  · have hstep := (sensorStep_bad (-40) 85 s.cm.sensor r code hcode).trans
      (if_neg (by rintro ⟨hf, hb⟩; rcases h with h | h <;> [exact absurd h (by simp [hf]); omega]))
    exact (exec_battTemp hr _).trans (congrArg Host.Outcome.next (battTemp_keep hstep))
  · have hstep := (sensorStep_bad (-40) 85 s.cm.sensor r code hcode).trans (if_pos ⟨hf, hb⟩)
    have hne : (sensorReport .battTemp code (.chargePath s.cm.pathLost) true).code ≠ .chargePath := badCode_ne hcode
    refine ⟨_, (exec_battTemp hr _).trans (congrArg Host.Outcome.next (battTemp_failed hstep)), ?_,
      takeFault_loadless_fu hrec rfl hne, takeFault_loadless_noticed hrec rfl hne, takeFault_besideFaults _ _⟩
    unfold tbInUse
    rw [besideFaults_cm (takeFault_besideFaults _ _)]
    rfl
  · refine (exec_cabinetTemp hr _).trans (congrArg Host.Outcome.next ?_)
    rw [cabinetTemp_value (sensorStep_inUse _ c hu)]
    refine if_neg fun ⟨hw', ht⟩ => ?_
    rcases hw with h | h
    · exact absurd (hw'.symm.trans h) nofun
    · exact absurd ht (Int.not_le.2 h)
  · refine ⟨_, (exec_cabinetTemp hr _).trans (congrArg Host.Outcome.next
      ((cabinetTemp_value (sensorStep_inUse _ c hu)).trans (if_pos ⟨hw, ht⟩))), ?_⟩
    rw [clearWarm_warm]
    refine ⟨rfl, rfl, ?_, findWarning_removeWarning_cab _ _, removeWarning_cab_besideGrants _ _⟩
    exact decide_eq_false (by show ¬ (s.policy.p45 : Int) ≤ _; omega)
  · have hne : (sensorReport .cabinetTemp code (.fridge s.cs.run) true).code ≠ .chargePath := badCode_ne hcode
    let y : State := { cabinetTaken ⟨true, s.cs.sensor.badCount + 1, 0⟩ s with cs.tk := none, cs.hot := false }
    have hfu : (clearWarm y).fu = s.fu :=
      besideGrants_fu (s := y) (removeWarning_cab_besideGrants .cabinetWarm { y with cs.warm := false })
    have hrec' : (clearWarm y).fu.record = none := by rw [hfu]; exact hrec
    have htime : now (clearWarm y) = now s :=
      congrArg (·.rtc) (besideGrants_tu (removeWarning_cab_besideGrants .cabinetWarm { y with cs.warm := false }))
    have hcs := (takeFault_loadless_cs hrec' rfl hne).trans (clearWarm_warm y)
    refine ⟨_, (exec_cabinetTemp hr _).trans (congrArg Host.Outcome.next (cabinetTemp_bad hcode hf hb)),
      (congrArg (·.tk) hcs), (congrArg (·.warm) hcs), (congrArg (·.sensor.failed) hcs), (congrArg (·.hot) hcs), ?_, ?_, ?_⟩
    · have hwu := takeFault_loadless_wu hrec' rfl hne
      exact (congrArg (fun w : WarningUnit => w.list.find? (isWarning .cabinetWarm .cab)) hwu).trans
        (findWarning_removeWarning_cab _ _)
    · have h := takeFault_loadless_fu hrec' rfl hne
      rw [hfu, htime] at h
      exact h
    · exact (takeFault_besideFaults _ _).trans (removeWarning_besideFaults _ _ _)

end Sys2Proof.Machine

namespace Sys2Proof.Machine

/-! ## O25: a review (R20, R38 to R42, R142, R150, R163, R176, R181) -/

section
variable (s : State)

theorem setSunrise_besideGrants (b : Bunk) (x : SunriseState) (p : Option RtcTime) (s : State) :
    besideGrants (setSunrise b x p s) = besideGrants s := rfl

theorem reconcileSunrise_besideGrants (b : Bunk) (s : State) : besideGrants (reconcileSunrise b s) = besideGrants s := by
  unfold reconcileSunrise reconcileSunrise.clear reconcileSunrise.place; dsimp only
  (repeat' split) <;> simp [setSunrise_besideGrants]

/-! ### The stages of a review -/

/-- The window mean is taken, the next review is due in 60 s, and the surplus flag is set by the mean (R20, R38, R39). -/
def reviewStarted : State :=
  { s with
    tu.clock := max s.tu.clock s.au.reviewDue, au.reviewDue := max s.tu.clock s.au.reviewDue + 60000000
    au.surplus := decide ((s.policy.p12 : Int) ≤ windowMean s)
    cm.winMean := windowMean s, cm.winSum := 0, cm.winCount := 0 }

/-- The table work of the review, with the counts shed and restored (R39 to R42). -/
def reviewWork : State × Nat × Nat := reviewTable (horizon s) (freeCharge s) (reviewStarted s)

/-- The projected demand after the table work (R31). -/
def reviewDemand : Nat := demandOf (reviewWork s).1 (horizon s) (reviewWork s).1.au.table

def reviewBreach : Bool :=
  !decide ((s.policy.p12 : Int) ≤ windowMean s) && decide (freeCharge s < (reviewDemand s : Int))

def reviewSince : Option RtcTime :=
  if reviewBreach s then (if s.au.breach then s.au.breachTime else some (now s)) else none

def reviewLow : Bool :=
  reviewBreach s || decide (freeCharge s - (reviewDemand s : Int) < (s.policy.p64 : Int))

/-- BREACH is settled and the review's figures are recorded (R41, R47). -/
def reviewFigured : State :=
  { (reviewWork s).1 with
    au.breach := reviewBreach s, au.breachTime := reviewSince s, au.reserveLow := reviewLow s
    au.last :=
      { time := now s, mean := windowMean s, free := freeCharge s, horizon := horizon s, demand := reviewDemand s
        headroom := freeCharge s - (reviewDemand s : Int), surplus := decide ((s.policy.p12 : Int) ≤ windowMean s)
        deficit := (reviewWork s).1.au.deficit, breach := reviewBreach s, nShed := (reviewWork s).2.1
        nRestored := (reviewWork s).2.2 } }

def reviewNoticed : State :=
  let x := if (reviewWork s).2.1 = 0 then reviewFigured s else notifyBoth .grantShed (reviewFigured s)
  if (reviewWork s).2.2 = 0 then x else notifyBoth .grantRestored x

/-- CS has the flags and WU the reserve-low condition (R39, R142). -/
def reviewFlagged (deficit surplus : Bool) (x : State) : State := { x with cs.deficit := deficit, cs.surplus := surplus }

def reserveTold (low : Bool) (x : State) : State :=
  if low then raiseWarning .reserveLow .cab .notice x else removeWarning .reserveLow .cab x

def reviewTold : State :=
  reserveTold (reviewLow s) (reviewFlagged (reviewWork s).1.au.deficit (decide ((s.policy.p12 : Int) ≤ windowMean s))
    (mergeAll (reviewNoticed s)))

def reviewCollapsed : Bool :=
  reviewBreach s && s.cm.voltageFloor &&
    (match reviewSince s with | some x => decide (300 ≤ timeDiff (now s) x) | none => false)

def reviewHeld : State := if reviewCollapsed s then addCause .voltageCollapse false (reviewTold s) else reviewTold s

/-- The sunrises are reconciled last (R150). -/
def reviewReconciled : State := reconcileSunrise .upper (reconcileSunrise .lower (reviewHeld s))

end

/-! ### The table work leaves AU's other figures but the deficit -/

/-- AU beside its table and its deficit. -/
def besideDeficit (s : State) : AdmissionUnit := { (reviewFrame s).1 with deficit := false }

theorem restoreAll_reviewFrame (s : State) : reviewFrame (restoreAll s).1 = reviewFrame s :=
  reviewFrame_of_tableFrame
    (foldl_keeps (fun a : State × Nat => tableFrame a.1) _ (fun a g => by split <;> simp) _ (s, 0))

theorem restoreOne_reviewFrame (h : Nat) (f : Int) (s : State) : reviewFrame (restoreOne h f s).1 = reviewFrame s := by
  refine reviewFrame_of_tableFrame ?_
  obtain e | ⟨g, -, e, -⟩ := restoreOne_cases h f s <;> simp [e]

theorem reviewTable_besideDeficit (h : Nat) (f : Int) (s : State) :
    besideDeficit (reviewTable h f s).1 = besideDeficit s := by
  unfold reviewTable; dsimp only
  split
  · exact congrArg (fun x => { x.1 with deficit := false }) (restoreAll_reviewFrame _)
  · have hw := fun x : State => reviewFrame_of_tableFrame
      (shedWhile_tableFrame (fun x => decide (f < (demandOf x h x.au.table : Int))) (fun g => g.state == .active) (now x) 16 (x, 0))
    split
    · exact congrArg (fun x => { x.1 with deficit := false }) ((restoreOne_reviewFrame _ _ _).trans (hw _))
    · exact congrArg (fun x => { x.1 with deficit := false }) (hw _)

/-- In surplus the table work sheds nothing and finds no deficit (R39). -/
theorem reviewTable_surplus {h : Nat} {f : Int} {s : State} (hs : s.au.surplus = true) :
    (reviewTable h f s).1.au.deficit = false ∧ (reviewTable h f s).2.1 = 0 := by
  unfold reviewTable
  rw [if_pos hs]
  exact ⟨congrArg (fun x => x.1.deficit) (restoreAll_reviewFrame _), rfl⟩

end Sys2Proof.Machine

namespace Sys2Proof.Machine

section
variable (s : State)

theorem reviewWork_besideGrants : besideGrants (reviewWork s).1 = besideGrants (reviewStarted s) :=
  reviewTable_besideGrants _ _ _

theorem reviewWork_au : besideDeficit (reviewWork s).1 = besideDeficit (reviewStarted s) :=
  reviewTable_besideDeficit _ _ _

theorem reviewWork_surplus : (reviewWork s).1.au.surplus = decide ((s.policy.p12 : Int) ≤ windowMean s) :=
  congrArg (·.surplus) (reviewWork_au s)

theorem reviewWork_breach : (reviewWork s).1.au.breach = s.au.breach := congrArg (·.breach) (reviewWork_au s)
theorem reviewWork_breachTime : (reviewWork s).1.au.breachTime = s.au.breachTime :=
  congrArg (·.breachTime) (reviewWork_au s)

theorem reviewWork_reviewDue : (reviewWork s).1.au.reviewDue = max s.tu.clock s.au.reviewDue + 60000000 :=
  congrArg (·.reviewDue) (reviewWork_au s)

theorem reviewWork_policy : (reviewWork s).1.policy = s.policy :=
  (besideGrants_policy (reviewWork_besideGrants s)).trans rfl

theorem reviewWork_now : now (reviewWork s).1 = now s := congrArg (·.rtc) (besideGrants_tu (reviewWork_besideGrants s))

/-- BREACH and the reserve-low condition are settled on the figures after the table work (R39, R41). -/
theorem settleBreach_reviewWork : settleBreach (horizon s) (freeCharge s) (reviewWork s).1 =
    { (reviewWork s).1 with
      au.breach := reviewBreach s, au.breachTime := reviewSince s, au.reserveLow := reviewLow s } := by
  unfold settleBreach; dsimp only
  rw [reviewWork_surplus, reviewWork_breach, reviewWork_breachTime, reviewWork_policy, reviewWork_now]
  rfl

/-- The figures of the review, recorded on a state in which BREACH is settled (R47). -/
def reviewRecorded (z : State) : State :=
  { z with au.last :=
    { time := now z, mean := windowMean s, free := freeCharge s, horizon := horizon s
      demand := demandOf z (horizon s) z.au.table
      headroom := freeCharge s - (demandOf z (horizon s) z.au.table : Int), surplus := z.au.surplus
      deficit := z.au.deficit, breach := z.au.breach, nShed := (reviewWork s).2.1, nRestored := (reviewWork s).2.2 } }

theorem reviewRecorded_settled :
    reviewRecorded s (settleBreach (horizon s) (freeCharge s) (reviewWork s).1) = reviewFigured s := by
  rw [settleBreach_reviewWork]
  unfold reviewRecorded reviewFigured; dsimp only
  rw [reviewWork_surplus]
  simp only [show ∀ x : AdmissionUnit, now { (reviewWork s).1 with au := x } = now s from fun _ => reviewWork_now s]
  rfl

theorem reviewAdmission_start : reviewAdmission (windowMean s) (takeWindow { reach s.au.reviewDue s with
      au.reviewDue := (reach s.au.reviewDue s).tu.clock + secs 60 }) = mergeAll (reviewNoticed s) := by
  unfold reviewNoticed
  rw [← reviewRecorded_settled]
  rfl

theorem reviewNoticed_reviewFrame : reviewFrame (reviewNoticed s) = reviewFrame (reviewFigured s) := by
  unfold reviewNoticed; dsimp only; (repeat' split) <;> rfl

theorem reviewMerged_reviewFrame : reviewFrame (mergeAll (reviewNoticed s)) = reviewFrame (reviewFigured s) :=
  (reviewFrame_of_tableFrame (mergeAll_tableFrame _)).trans (reviewNoticed_reviewFrame s)

theorem handReview_of {x : State} {d p l : Bool} (hd : x.au.deficit = d) (hs : x.au.surplus = p)
    (hl : x.au.reserveLow = l) : handReview x = reserveTold l (reviewFlagged d p x) := by
  subst hd hs hl; rfl

theorem handReview_merged : handReview (mergeAll (reviewNoticed s)) = reviewTold s := by
  have hau := congrArg Prod.fst (reviewMerged_reviewFrame s)
  have hd : (mergeAll (reviewNoticed s)).au.deficit = (reviewWork s).1.au.deficit := congrArg (·.deficit) hau
  have hs : (mergeAll (reviewNoticed s)).au.surplus = decide ((s.policy.p12 : Int) ≤ windowMean s) :=
    (congrArg (·.surplus) hau).trans (reviewWork_surplus s)
  have hl : (mergeAll (reviewNoticed s)).au.reserveLow = reviewLow s := congrArg (·.reserveLow) hau
  exact handReview_of hd hs hl

/-! ### The warnings of the cab leave AU, CS and FU alone -/

theorem raiseWarning_cab_au (k : WarnKind) (v : WarnLevel) (s : State) : (raiseWarning k .cab v s).au = s.au := by
  unfold raiseWarning; split
  · rfl
  · exact wake_au _ _

theorem raiseWarning_cab_fu (k : WarnKind) (v : WarnLevel) (s : State) : (raiseWarning k .cab v s).fu = s.fu := by
  unfold raiseWarning; split
  · rfl
  · exact wake_fu _ _

theorem removeWarning_cab_au (k : WarnKind) (s : State) : (removeWarning k .cab s).au = s.au := by
  have hc : ∀ y : State, (cutChime k .cab y).au = y.au := by
    intro y; unfold cutChime; (repeat' split) <;> rfl
  unfold removeWarning; split
  · rfl
  · exact (hc _).trans rfl

theorem insertWarning_mem (w : Warning) : ∀ xs : List Warning, w ∈ insertWarning w xs
  | [] => List.mem_singleton.2 rfl
  | x :: xs => by
    unfold insertWarning; split
    · exact List.mem_cons_self
    · exact List.mem_cons_of_mem _ (insertWarning_mem w xs)

theorem findWarning_raiseWarning_cab (k : WarnKind) (v : WarnLevel) (s : State) :
    (findWarning k .cab (raiseWarning k .cab v s)).isSome = true := by
  unfold raiseWarning; split
  · next e => rw [e]; rfl
  · rw [findWarning, List.find?_isSome]
    exact ⟨_, (congrArg (fun x : WarningUnit => _ ∈ x.list) (wake_wu .warning _)).mpr (insertWarning_mem _ _), by simp [isWarning]⟩

theorem raiseWarning_cab_noticed {n : Notice} {s : State} (h : Noticed n s) (k : WarnKind) (v : WarnLevel) :
    Noticed n (raiseWarning k .cab v s) := by
  unfold raiseWarning; split
  · exact h
  · have hw : Noticed n { s with wu.list := _ } := h
    intro l
    cases l
    · exact (congrArg (hasNotice n) (wake_portV .warning _)).trans ((hw.notify .v .warning).notify .b .warning .v)
    · exact (congrArg (hasNotice n) (wake_portB .warning _)).trans ((hw.notify .v .warning).notify .b .warning .b)

theorem removeWarning_cab_noticed {n : Notice} {s : State} (h : Noticed n s) (k : WarnKind) :
    Noticed n (removeWarning k .cab s) := by
  have hc : ∀ y : State, (cutChime k .cab y).portV = y.portV ∧ (cutChime k .cab y).portB = y.portB := by
    intro y; unfold cutChime; (repeat' split) <;> exact ⟨rfl, rfl⟩
  unfold removeWarning; split
  · exact h
  · have hw : Noticed n { s with wu.list := _ } := h
    intro l
    cases l
    · exact (congrArg (hasNotice n) (hc _).1).trans ((hw.notify .v .warning).notify .b .warning .v)
    · exact (congrArg (hasNotice n) (hc _).2).trans ((hw.notify .v .warning).notify .b .warning .b)

theorem reviewMerged_besideGrants : besideGrants (mergeAll (reviewNoticed s)) = besideGrants (reviewStarted s) := by
  rw [mergeAll_besideGrants]
  refine Eq.trans ?_ (reviewWork_besideGrants s)
  unfold reviewNoticed reviewFigured; dsimp only; (repeat' split) <;> rfl

section
variable (low d p : Bool) (x : State)

theorem reserveTold_au : (reserveTold low (reviewFlagged d p x)).au = x.au := by
  unfold reserveTold; split
  · exact raiseWarning_cab_au _ _ _
  · exact removeWarning_cab_au _ _

theorem reserveTold_fu : (reserveTold low (reviewFlagged d p x)).fu = x.fu := by
  unfold reserveTold; split
  · exact raiseWarning_cab_fu _ _ _
  · exact besideGrants_fu (s := x) (removeWarning_cab_besideGrants .reserveLow (reviewFlagged d p x))

theorem reserveTold_cs : (reserveTold low (reviewFlagged d p x)).cs = { x.cs with deficit := d, surplus := p } := by
  unfold reserveTold; split
  · exact raiseWarning_cs _ _ _ _
  · exact removeWarning_cs _ _ _

theorem reserveTold_besideFaults : besideFaults (reserveTold low (reviewFlagged d p x)) = besideFaults x := by
  unfold reserveTold; split
  · exact (raiseWarning_besideFaults _ _ _ _).trans rfl
  · exact (removeWarning_besideFaults _ _ _).trans rfl

theorem reserveTold_noticed {n : Notice} {x : State} (h : Noticed n x) :
    Noticed n (reserveTold low (reviewFlagged d p x)) := by
  have h' : Noticed n (reviewFlagged d p x) := h
  unfold reserveTold; split
  · exact raiseWarning_cab_noticed h' _ _
  · exact removeWarning_cab_noticed h' _

theorem reserveTold_warning : (findWarning .reserveLow .cab (reserveTold low x)).isSome = low := by
  cases low
  · exact congrArg Option.isSome (findWarning_removeWarning_cab _ _)
  · exact findWarning_raiseWarning_cab _ _ _

end

theorem reviewTold_au : (reviewTold s).au = (mergeAll (reviewNoticed s)).au := reserveTold_au _ _ _ _

theorem reviewTold_fu : (reviewTold s).fu = s.fu :=
  (reserveTold_fu _ _ _ _).trans
    (besideGrants_fu (t := mergeAll (reviewNoticed s)) (s := reviewStarted s) (reviewMerged_besideGrants s))

theorem reviewTold_besideFaults : besideFaults (reviewTold s) = besideFaults (reviewStarted s) :=
  (reserveTold_besideFaults _ _ _ _).trans (besideFaults_of_grants (reviewMerged_besideGrants s))

theorem reviewTold_now : now (reviewTold s) = now s :=
  (besideFaults_field (t := reviewTold s) (s := reviewStarted s) now (reviewTold_besideFaults s) fun _ => rfl).trans rfl

theorem reviewTold_breach : (reviewTold s).au.breach = reviewBreach s := by
  rw [reviewTold_au]; exact congrArg (·.1.breach) (reviewMerged_reviewFrame s)

theorem reviewTold_breachTime : (reviewTold s).au.breachTime = reviewSince s := by
  rw [reviewTold_au]; exact congrArg (·.1.breachTime) (reviewMerged_reviewFrame s)

theorem voltageCollapsed_told : voltageCollapsed (reviewTold s) = reviewCollapsed s := by
  have hv : (reviewTold s).cm.voltageFloor = s.cm.voltageFloor :=
    congrArg (·.voltageFloor) (besideFaults_cm (reviewTold_besideFaults s))
  unfold voltageCollapsed
  rw [reviewTold_breach, reviewTold_breachTime, hv, reviewTold_now]
  rfl

theorem review_eq : review s = markReviewed (reviewReconciled s) := by
  unfold review; dsimp only
  rw [show (takeWindow { reach s.au.reviewDue s with
      au.reviewDue := (reach s.au.reviewDue s).tu.clock + secs 60 }).cm.winMean = windowMean s from rfl,
    reviewAdmission_start, handReview_merged, voltageCollapsed_told]
  rfl

/-! ### What the hold and the sunrises leave of it -/

theorem reviewReconciled_reviewFrame : reviewFrame (reviewReconciled s) = reviewFrame (reviewTold s) := by
  unfold reviewReconciled reviewHeld
  rw [reviewFrame_of_tableFrame (reconcileSunrise_tableFrame _ _), reviewFrame_of_tableFrame (reconcileSunrise_tableFrame _ _)]
  split
  · exact addCause_reviewFrame _ _ _
  · rfl

theorem reviewReconciled_besideFaults : besideFaults (reviewReconciled s) = besideFaults (reviewStarted s) := by
  rw [← reviewTold_besideFaults]
  unfold reviewReconciled reviewHeld
  rw [besideFaults_of_grants (reconcileSunrise_besideGrants _ _), besideFaults_of_grants (reconcileSunrise_besideGrants _ _)]
  split
  · exact addCause_besideFaults _ _ _
  · rfl

theorem reviewReconciled_noticed {n : Notice} (hn : n ≠ .heaterPhase) (h : Noticed n (reviewNoticed s)) :
    Noticed n (reviewReconciled s) := by
  have ht : Noticed n (reviewTold s) := reserveTold_noticed _ _ _ (h.of_tableFrame hn (mergeAll_tableFrame _))
  have hh : Noticed n (reviewHeld s) := by
    unfold reviewHeld; split
    · exact ht.addCause hn _ _
    · exact ht
  exact (hh.of_tableFrame hn (reconcileSunrise_tableFrame _ _)).of_tableFrame hn (reconcileSunrise_tableFrame _ _)

theorem reviewReconciled_cause4 (h : s.fu.cause4 = none) :
    (reviewReconciled s).fu.cause4.isSome = reviewCollapsed s := by
  have hf : (reviewReconciled s).fu = (reviewHeld s).fu :=
    (besideGrants_fu (reconcileSunrise_besideGrants _ _)).trans (besideGrants_fu (reconcileSunrise_besideGrants _ _))
  have hheld : (reviewHeld s).fu.cause4.isSome = reviewCollapsed s := by
    unfold reviewHeld; split
    · next hc => exact (congrArg Option.isSome (holdCause_addCause .voltageCollapse false _)).trans hc.symm
    · next hc => rw [reviewTold_fu, h]; simpa using hc
  rw [hf]; exact hheld

theorem reviewShed_noticed (h : (reviewWork s).2.1 ≠ 0) : Noticed .grantShed (reviewNoticed s) := by
  unfold reviewNoticed; dsimp only
  rw [if_neg h]
  split
  · exact noticed_notifyBoth _ _
  · exact (noticed_notifyBoth _ _).notifyBoth _

theorem reviewRestored_noticed (h : (reviewWork s).2.2 ≠ 0) : Noticed .grantRestored (reviewNoticed s) := by
  unfold reviewNoticed; dsimp only
  rw [if_neg h]
  exact noticed_notifyBoth _ _

/-! ### The doze timer after a review -/

theorem dozeReady_iff (s : State) : dozeReady s = true ↔
    s.tu.mode = .awake ∧ s.tu.exitDue = none ∧ s.tu.postExit = true ∧ s.ca.check = none ∧ s.portV.released = true ∧
    s.portB.released = true ∧ quietLink s.portV = true ∧ quietLink s.portB = true := by
  simp only [dozeReady, Bool.and_eq_true, beq_iff_eq, Option.isNone_iff_eq_none]
  tauto

theorem dozeTimer_eq (old : Option Nat) (s : State) :
    dozeTimer old s = if dozeReady s then some (old.getD (s.tu.clock + secs 2)) else none :=
  (if_congr (dozeReady_iff s) rfl rfl).symm

theorem syncDoze_eq (s : State) : syncDoze s = { s with tu.dozeDue := dozeTimer s.tu.dozeDue s } := by
  rw [dozeTimer_eq]
  unfold syncDoze; split <;> rfl

/-- The timer's conditions do not read the timer (R176). -/
theorem dozeTimer_syncDoze (old : Option Nat) (s : State) : dozeTimer old (syncDoze s) = dozeTimer old s := by
  rw [syncDoze_eq]; rfl

theorem markReviewed_eq (u : State) :
    markReviewed u = { u with tu.postExit := true, tu.dozeDue := (markReviewed u).tu.dozeDue } := by
  unfold markReviewed
  rw [syncDoze_eq]

theorem markReviewed_dozeDue (u : State) : (markReviewed u).tu.dozeDue = dozeTimer u.tu.dozeDue (markReviewed u) := by
  unfold markReviewed
  rw [dozeTimer_syncDoze, syncDoze_eq]

theorem markReviewed_besideFaults (u : State) : besideFaults (markReviewed u) = besideFaults u := by
  rw [markReviewed_eq]; rfl

theorem markReviewed_noticed {n : Notice} {u : State} (h : Noticed n u) : Noticed n (markReviewed u) := by
  rw [markReviewed_eq]; exact h

end

theorem markReviewed_reviewFrame (u : State) : reviewFrame (markReviewed u) = reviewFrame u := by
  rw [markReviewed_eq]; rfl

theorem findWarning_of_reviewFrame {s t : State} (h : reviewFrame t = reviewFrame s) (k : WarnKind) (x : WarnTarget) :
    findWarning k x t = findWarning k x s :=
  congrArg (fun f : AdmissionUnit × List Warning × Bool × Bool => f.2.1.find? (isWarning k x)) h

/-- The state after a review. -/
def reviewed (s : State) : State := markReviewed (reviewReconciled s)

section
variable (s : State)

theorem reviewed_reviewFrame : reviewFrame (reviewed s) = reviewFrame (reviewTold s) :=
  (markReviewed_reviewFrame _).trans (reviewReconciled_reviewFrame s)

theorem reviewed_besideFaults : besideFaults (reviewed s) = besideFaults (reviewStarted s) :=
  (markReviewed_besideFaults _).trans (reviewReconciled_besideFaults s)

theorem reviewed_noticed {n : Notice} (hn : n ≠ .heaterPhase) (h : Noticed n (reviewNoticed s)) : Noticed n (reviewed s) :=
  markReviewed_noticed (reviewReconciled_noticed s hn h)

theorem reviewed_clock : (reviewed s).tu.clock = max s.tu.clock s.au.reviewDue :=
  (besideFaults_field (t := reviewed s) (s := reviewStarted s) (·.tu.clock) (reviewed_besideFaults s) fun _ => rfl).trans rfl

theorem reviewed_cm : (reviewed s).cm = { s.cm with winMean := windowMean s, winSum := 0, winCount := 0 } :=
  (besideFaults_cm (t := reviewed s) (s := reviewStarted s) (reviewed_besideFaults s)).trans rfl

theorem reviewed_postExit : (reviewed s).tu.postExit = true := by unfold reviewed; rw [markReviewed_eq]

theorem reviewed_au : (reviewFrame (reviewed s)).1 = (reviewFrame (reviewFigured s)).1 := by
  rw [reviewed_reviewFrame]
  refine Eq.trans ?_ (congrArg Prod.fst (reviewMerged_reviewFrame s))
  exact congrArg (fun a : AdmissionUnit => { a with table := [], shedList := [], pointer := 0 }) (reviewTold_au s)

theorem reviewed_last : (reviewed s).au.last = (reviewFigured s).au.last := congrArg (·.last) (reviewed_au s)
theorem reviewed_surplus : (reviewed s).au.surplus = decide ((s.policy.p12 : Int) ≤ windowMean s) :=
  (congrArg (·.surplus) (reviewed_au s)).trans (reviewWork_surplus s)

theorem reviewed_deficit : (reviewed s).au.deficit = (reviewWork s).1.au.deficit := congrArg (·.deficit) (reviewed_au s)
theorem reviewed_breach : (reviewed s).au.breach = reviewBreach s := congrArg (·.breach) (reviewed_au s)
theorem reviewed_breachTime : (reviewed s).au.breachTime = reviewSince s := congrArg (·.breachTime) (reviewed_au s)
theorem reviewed_reserveLow : (reviewed s).au.reserveLow = reviewLow s := congrArg (·.reserveLow) (reviewed_au s)
theorem reviewed_reviewDue : (reviewed s).au.reviewDue = max s.tu.clock s.au.reviewDue + 60000000 :=
  (congrArg (·.reviewDue) (reviewed_au s)).trans (reviewWork_reviewDue s)

theorem reviewed_flags : ((reviewed s).cs.deficit, (reviewed s).cs.surplus) =
    ((reviewWork s).1.au.deficit, decide ((s.policy.p12 : Int) ≤ windowMean s)) := by
  refine (congrArg (fun f : AdmissionUnit × List Warning × Bool × Bool => (f.2.2.1, f.2.2.2)) (reviewed_reviewFrame s)).trans ?_
  exact congrArg (fun c : ColdStore => (c.deficit, c.surplus)) (reserveTold_cs _ _ _ _)

theorem reviewed_warning : (findWarning .reserveLow .cab (reviewed s)).isSome = reviewLow s :=
  (congrArg Option.isSome (findWarning_of_reviewFrame (reviewed_reviewFrame s) _ _)).trans (reserveTold_warning _ _)

theorem reviewed_cause4 (h : s.fu.cause4 = none) : (reviewed s).fu.cause4.isSome = reviewCollapsed s := by
  have hf : (reviewed s).fu = (reviewReconciled s).fu := by unfold reviewed; rw [markReviewed_eq]
  rw [hf]
  exact reviewReconciled_cause4 s h

theorem reviewed_dozeDue : (reviewed s).tu.dozeDue = dozeTimer (reviewReconciled s).tu.dozeDue (reviewed s) :=
  markReviewed_dozeDue _

theorem reviewed_eq :
    reviewed s = { reviewReconciled s with tu.postExit := true, tu.dozeDue := (reviewed s).tu.dozeDue } :=
  markReviewed_eq _

/-- In surplus nothing is shed, and neither a deficit nor BREACH stands (R39, R41). -/
theorem reviewed_insurplus (h : (reviewed s).au.surplus = true) :
    (reviewed s).au.deficit = false ∧ (reviewed s).au.breach = false ∧ (reviewed s).au.last.nShed = 0 := by
  rw [reviewed_surplus] at h
  have hs : (reviewStarted s).au.surplus = true := h
  obtain ⟨hd, hn⟩ := reviewTable_surplus (h := horizon s) (f := freeCharge s) hs
  refine ⟨(reviewed_deficit s).trans hd, ?_, (congrArg (·.nShed) (reviewed_last s)).trans hn⟩
  rw [reviewed_breach, reviewBreach, h]
  rfl

end

end Sys2Proof.Machine

namespace Sys2Proof.Machine

/-- Settles O25: the review is its stages, and each figure is read off the stage that writes it. -/
theorem reviewRecordsAndHands : Obligations.ReviewRecordsAndHands := by
  intro s hr
  have hexec : exec .review s = .next (reviewed s) :=
    congrArg Host.Outcome.next ((unlessReset_running hr _).trans (review_eq s))
  have hlast := reviewed_last s
  refine ⟨reviewed s, hexec, reviewed_clock s, ?due, reviewed_postExit s, reviewed_cm s, reviewed_surplus s,
    congrArg (·.time) hlast, congrArg (·.mean) hlast, congrArg (·.free) hlast, congrArg (·.horizon) hlast, ?headroom,
    ?flags, ?cs, reviewed_insurplus s, ?low, ?warned, fun h => ?shed, fun h => ?restored, fun h => ?cause4, ?frame, ?stages⟩
  case due => rw [reviewed_reviewDue, reviewed_clock]
  case headroom => rw [hlast]; rfl
  case flags => rw [hlast, reviewed_surplus, reviewed_deficit, reviewed_breach]; rfl
  case cs => rw [reviewed_flags, reviewed_deficit, reviewed_surplus]
  case low => rw [reviewed_reserveLow, reviewed_breach, hlast]; rfl
  case warned => rw [reviewed_warning, reviewed_reserveLow]
  case shed => exact reviewed_noticed s (by decide) (reviewShed_noticed s (by rw [hlast] at h; exact h))
  case restored => exact reviewed_noticed s (by decide) (reviewRestored_noticed s (by rw [hlast] at h; exact h))
  case cause4 => rw [reviewed_cause4 s h, reviewed_breach, reviewed_breachTime]; rfl
  case frame => exact congrArg (fun x : State => { x with cm := s.cm }) (reviewed_besideFaults s)
  case stages =>
    intro free t0 mean surplus r
    have hwork : r = reviewWork s := rfl
    clear_value r
    subst hwork
    intro p
    have hp : p = reviewDemand s := rfl
    clear_value p
    subst hp
    intro breach since low figured
    have hfigured : figured = reviewFigured s := rfl
    clear_value figured
    subst hfigured
    intro noticed merged
    have hmerged : merged = mergeAll (reviewNoticed s) := rfl
    clear_value merged
    intro flagged told
    have htold : told = reserveTold (reviewLow s) (reviewFlagged (reviewWork s).1.au.deficit surplus merged) := rfl
    rw [hmerged] at htold
    clear_value told
    intro collapsed held
    have hheld : held = reviewHeld s := by
      show (if collapsed then addCause .voltageCollapse false told else told) = _
      rw [htold]; rfl
    clear_value held
    subst hheld
    intro u
    have hu : u = reviewReconciled s := rfl
    clear_value u
    subst hu
    refine ⟨?_, reviewed_deficit s, ?_, reviewed_dozeDue s, reviewed_eq s⟩
    · rw [hlast]; rfl
    · rw [reviewed_breach, reviewed_breachTime]; rfl

end Sys2Proof.Machine

namespace Sys2Proof.Machine

/-! ## The grant table's work does not read the released flag (R195, R201)

A request clears Link V's released flag before its owner acts; the work of AU, CS and HS on the table commutes with that. -/

section
variable (s : State)

theorem setFollowOn_clearReleased (f : FollowOn) :
    setFollowOn f (clearReleased .v s) = clearReleased .v (setFollowOn f s) := by
  have e : (clearReleased .v s).hs = s.hs := rfl
  unfold setFollowOn; rw [e]; split <;> rfl

theorem lowerStage_clearReleased : lowerStage (clearReleased .v s) = clearReleased .v (lowerStage s) := by
  have e : (clearReleased .v s).hs = s.hs := rfl
  unfold lowerStage; rw [e]; split
  · rw [apply_ite (clearReleased .v)]; rfl
  · rfl

theorem standbyRestart_clearReleased : standbyRestart (clearReleased .v s) = clearReleased .v (standbyRestart s) := by
  have e : (clearReleased .v s).hs = s.hs := rfl
  unfold standbyRestart; rw [e]; split
  · rw [apply_ite (clearReleased .v)]; rfl
  · rfl

theorem internalRequest_clearReleased (l : Load) (p : Purpose) (o : Origin) (x : Option RtcTime) :
    internalRequest l p o x (clearReleased .v s) = clearReleased .v (internalRequest l p o x s) := by
  have e : findGrant l p (clearReleased .v s) = findGrant l p s := rfl
  unfold internalRequest; rw [e]; split <;> rfl

theorem enterPurge_clearReleased (f : FollowOn) (b : Bool) (c : Option LockCause) :
    enterPurge f b c (clearReleased .v s) = clearReleased .v (enterPurge f b c s) := by
  unfold enterPurge; dsimp only
  rw [← internalRequest_clearReleased]
  rfl

theorem heatAppears_clearReleased : heatAppears (clearReleased .v s) = clearReleased .v (heatAppears s) := by
  have e : (clearReleased .v s).hs = s.hs := rfl
  unfold heatAppears; rw [e]; split
  · rw [apply_ite (clearReleased .v)]; rfl
  · rw [apply_ite (clearReleased .v)]; rfl
  · exact setFollowOn_clearReleased s _
  all_goals rfl

theorem heatVanishes_clearReleased : heatVanishes (clearReleased .v s) = clearReleased .v (heatVanishes s) := by
  have e : (clearReleased .v s).hs = s.hs := rfl
  have hp := enterPurge_clearReleased { s with hs.activation := false } .off false none
  unfold heatVanishes; rw [e]; split
  · exact hp
  · exact hp
  · exact hp
  · rw [← setFollowOn_clearReleased, apply_ite (clearReleased .v)]; rfl
  all_goals rfl

theorem heatChanges_clearReleased (old : MergedHeat) :
    heatChanges old (clearReleased .v s) = clearReleased .v (heatChanges old s) := by
  have e : (clearReleased .v s).hs = s.hs := rfl
  unfold heatChanges; rw [e]; split
  · exact lowerStage_clearReleased s
  · rw [apply_ite (clearReleased .v), standbyRestart_clearReleased]
  all_goals rfl

theorem handHeat_clearReleased : handHeat (clearReleased .v s) = clearReleased .v (handHeat s) := by
  have e : (clearReleased .v s).hs = s.hs := rfl
  have em : mergedHeat (clearReleased .v s) = mergedHeat s := rfl
  unfold handHeat; dsimp only; rw [e, em]; split
  · rfl
  · split
    · exact heatAppears_clearReleased { s with hs.merged := mergedHeat s }
    · exact heatVanishes_clearReleased { s with hs.merged := mergedHeat s }
    · exact heatChanges_clearReleased { s with hs.merged := mergedHeat s } _
    · rfl

theorem mergeHeater_clearReleased : mergeHeater (clearReleased .v s) = clearReleased .v (mergeHeater s) := by
  unfold mergeHeater; rw [handHeat_clearReleased, handHeat_clearReleased]

theorem cutPending_clearReleased : cutPending (clearReleased .v s) = clearReleased .v (cutPending s) := by
  unfold cutPending; rw [apply_ite (clearReleased .v)]; rfl

theorem formRamp_clearReleased (b : Bunk) : formRamp b (clearReleased .v s) = clearReleased .v (formRamp b s) := by
  have e : findGrant (bunkZone b) .schedule (clearReleased .v s) = findGrant (bunkZone b) .schedule s := rfl
  unfold formRamp; rw [e]; (repeat' split) <;> rfl

theorem mergeZone_clearReleased (b : Bunk) (l : Load) (n : Fin 12) :
    setTarget n (mergedLevel l (formRamp b (syncFlash b (clearReleased .v s)))) (formRamp b (syncFlash b (clearReleased .v s))) =
      clearReleased .v (setTarget n (mergedLevel l (formRamp b (syncFlash b s))) (formRamp b (syncFlash b s))) := by
  have e : formRamp b (syncFlash b (clearReleased .v s)) = clearReleased .v (formRamp b (syncFlash b s)) :=
    formRamp_clearReleased (syncFlash b s) b
  rw [e]; rfl

theorem mergeLoad_clearReleased (l : Load) : mergeLoad l (clearReleased .v s) = clearReleased .v (mergeLoad l s) := by
  cases l
  case heater => exact mergeHeater_clearReleased s
  case fridge => exact cutPending_clearReleased s
  case zoneLower => exact mergeZone_clearReleased s .lower _ _
  case zoneUpper => exact mergeZone_clearReleased s .upper _ _
  all_goals rfl

theorem mergeAll_clearReleased : mergeAll (clearReleased .v s) = clearReleased .v (mergeAll s) := by
  have h : ∀ (ls : List Load) (x : State),
      ls.foldl (fun s l => mergeLoad l s) (clearReleased .v x) = clearReleased .v (ls.foldl (fun s l => mergeLoad l s) x) := by
    intro ls
    induction ls with
    | nil => exact fun _ => rfl
    | cons l ls ih => intro x; rw [List.foldl_cons, mergeLoad_clearReleased, ih]; rfl
  exact h allLoads s

end
end Sys2Proof.Machine

namespace Sys2Proof.Machine

section
variable (s : State)

theorem readmit_clearReleased (h : Nat) (f : Int) (p : Nat) (b : Bool) (g : Grant) :
    readmit h f (clearReleased .v s, p, b) g =
      (clearReleased .v (readmit h f (s, p, b) g).1, (readmit h f (s, p, b) g).2) := by
  have e : ∀ x : Grant, reduced (clearReleased .v s) h p f x = reduced s h p f x := fun _ => rfl
  by_cases hc : shedClass g.load g.purpose = 0
  · simp only [readmit, if_pos hc]; rfl
  · by_cases hf : (s.au.surplus || fitsAt s h p f { g with eff := cappedRequest s g } (cappedRequest s g)) = true
    · have hf' : ((clearReleased .v s).au.surplus ||
          fitsAt (clearReleased .v s) h p f { g with eff := cappedRequest s g } (cappedRequest s g)) = true := hf
      have ec : cappedRequest (clearReleased .v s) g = cappedRequest s g := rfl
      simp only [readmit, if_neg hc, ec, hf, hf', if_true]; rfl
    · have hf' : ¬ ((clearReleased .v s).au.surplus ||
          fitsAt (clearReleased .v s) h p f { g with eff := cappedRequest s g } (cappedRequest s g)) = true := hf
      have ec : cappedRequest (clearReleased .v s) g = cappedRequest s g := rfl
      simp only [readmit, if_neg hc, ec, if_neg hf, if_neg hf', e]
      split <;> rfl

theorem readmits_clearReleased (h : Nat) (f : Int) (gs : List Grant) (a : State × Nat × Bool) :
    gs.foldl (readmit h f) (clearReleased .v a.1, a.2) =
      (clearReleased .v (gs.foldl (readmit h f) a).1, (gs.foldl (readmit h f) a).2) := by
  induction gs generalizing a with
  | nil => rfl
  | cons g gs ih =>
    obtain ⟨x, p, b⟩ := a
    rw [List.foldl_cons, readmit_clearReleased, ih]; rfl

theorem revalidate_clearReleased : revalidate (clearReleased .v s) = clearReleased .v (revalidate s) := by
  have h := readmits_clearReleased (horizon s) (freeCharge s)
    (inClassOrder (fun g => g.state == .active || g.state == .waiting) s)
    ({ s with au.pointer := 0 }, purgeCharge s + startCharge s s.au.table, false)
  have hl : revalidate (clearReleased .v s) =
      let r := (inClassOrder (fun g => g.state == .active || g.state == .waiting) s).foldl
        (readmit (horizon s) (freeCharge s))
        (clearReleased .v { s with au.pointer := 0 }, purgeCharge s + startCharge s s.au.table, false)
      mergeAll (if r.2.2 then notifyBoth .grantShed r.1 else r.1) := rfl
  rw [hl, h]
  unfold revalidate; dsimp only
  rw [← mergeAll_clearReleased, apply_ite (clearReleased .v)]
  rfl

end

/-! ## O18: SEED_CHARGE and the revalidation (R10, R45, R46) -/

/-- SEED_CHARGE's state before the revalidation (R10). -/
def seeded (q : Nat) (s : State) : State :=
  { s with cm.q := min q s.policy.p01, cm.r := 0, cm.seeded := true, cm.qStale := false }

theorem exec_seedCharge {q : BitVec 32} {s : State} (h : Serving .v s) :
    exec (.seedCharge .v q) s = .next (answered .v 0x38#8 .ok [] (revalidate (seeded q.toNat s))) := by
  refine congrArg Host.Outcome.next (serve_answered h (by decide) ?_)
  have e : seed q.toNat (clearReleased .v s) = clearReleased .v (revalidate (seeded q.toNat s)) :=
    revalidate_clearReleased (seeded q.toNat s)
  rw [e]; rfl

theorem answered_Answered (l : Link) (k : Byte) (st : Status) (p : List Byte) (s : State) :
    Answered l k st p (answered l k st p s) := by
  cases l <;> exact ⟨rfl, rfl⟩

theorem answered_besideGrants (l : Link) (k : Byte) (st : Status) (p : List Byte) (s : State) :
    besideGrants (answered l k st p s) = { besideGrants s with tu.dozeDue := none } := by
  cases l <;> rfl

theorem answered_besideAnswer (l : Link) (k : Byte) (st : Status) (p : List Byte) (s : State) :
    besideAnswer l (answered l k st p s) = besideAnswer l s := by
  cases l <;> rfl

theorem seedCharge_answers (q : BitVec 32) (s : State) (h : Serving .v s) :
    ∃ t, exec (.seedCharge .v q) s = .next t ∧ Answered .v 0x38#8 .ok [] t ∧
      besideGrants t = besideGrants { seeded q.toNat s with tu.dozeDue := none } ∧
      besideAnswer .v t = besideAnswer .v (revalidate (seeded q.toNat s)) :=
  ⟨_, exec_seedCharge h, answered_Answered _ _ _ _ _,
    (answered_besideGrants _ _ _ _ _).trans
      (congrArg (fun x : State => { x with tu.dozeDue := none }) (revalidate_besideGrants (seeded q.toNat s))),
    answered_besideAnswer _ _ _ _ _⟩

end Sys2Proof.Machine

namespace Sys2Proof.Machine

/-! ### The search for less (R35) -/

section
variable {s : State} {h p : Nat} {free : Int} {g : Grant}

theorem fitsAt_iff {v : Level} :
    fitsAt s h p free g v = true ↔ ((p + projection s h { g with eff := v } : Nat) : Int) ≤ free := by
  simp [fitsAt]

/-- The highest number that passes the test is found (R35). -/
theorem findDown_eq_some {test : Nat → Bool} {lo hi k : Nat} (hlo : lo ≤ k) (hk : 1 ≤ k) (hhi : k ≤ hi)
    (ht : test k = true) (hmax : ∀ j, k < j → j ≤ hi → test j = false) : findDown test lo hi = some k := by
  cases e : findDown test lo hi with
  | none => exact absurd ht (by simp [findDown_none _ e k hlo hk hhi])
  | some n =>
    obtain ⟨-, -, hn, htn, hbest⟩ := findDown_some _ e
    have h1 : ¬ k < n := fun hlt => absurd htn (by simp [hmax n hlt hn])
    have h2 : ¬ n < k := fun hlt => absurd ht (by simp [hbest k hlt hhi])
    exact congrArg some (by omega)

theorem findDown_eq_none {test : Nat → Bool} {lo hi : Nat} (h : ∀ k, lo ≤ k → 1 ≤ k → k ≤ hi → test k = false) :
    findDown test lo hi = none := by
  cases e : findDown test lo hi with
  | none => rfl
  | some n =>
    obtain ⟨hlo, h1, hn, ht, -⟩ := findDown_some _ e
    exact absurd ht (by simp [h n hlo h1 hn])

theorem lesser_levelled {l : Load} {v : Level} (hl : isLevelled l = true) {k : Nat} (h26 : 26 ≤ k) (hk : k < v.level) :
    lesser l v k = some { v with level := k } := by
  simp [lesser, hl, h26, hk]

theorem lesser_heater {v : Level} {k : Nat} (h1 : 1 ≤ k) (hk : k < v.maxStage) :
    lesser .heater v k = some { v with maxStage := k } := by
  simp [lesser, isLevelled, h1, hk]

/-- The reduction finds the highest lesser level that fits (R35, R46). -/
theorem reduced_eq_some {k : Nat} {v : Level} (hv : lesser g.load g.eff k = some v) (hf : fitsAt s h p free g v = true)
    (hmax : ∀ j, k < j → ∀ w, lesser g.load g.eff j = some w → fitsAt s h p free g w = false) :
    reduced s h p free g = some v := by
  unfold reduced
  unfold lesser at hv
  split
  · next hl =>
    rw [if_pos hl] at hv
    split at hv
    · next hk =>
      cases hv
      rw [findDown_eq_some hk.1 (by omega) (by omega) hf
        (fun j hj hhi => hmax j hj _ (lesser_levelled hl (by omega) (by omega)))]
      rfl
    · cases hv
  · next hl =>
    rw [if_neg hl] at hv
    split at hv
    · next hh =>
      split at hv
      · next hk =>
        cases hv
        rw [if_pos (by simpa using hh), findDown_eq_some hk.1 hk.1 (by omega) hf
          (fun j hj hhi => hmax j hj _ (by rw [hh]; exact lesser_heater (by omega) (by omega)))]
        rfl
      · cases hv
    · cases hv

theorem reduced_eq_none (h0 : ∀ j w, lesser g.load g.eff j = some w → fitsAt s h p free g w = false) :
    reduced s h p free g = none := by
  unfold reduced
  split
  · next hl =>
    rw [findDown_eq_none (fun k hk h1 hhi => h0 k _ (lesser_levelled hl hk (by omega)))]
    rfl
  · split
    · next hh =>
      have hh' : g.load = .heater := by simpa using hh
      rw [findDown_eq_none (fun k hk h1 hhi => h0 k _ (by rw [hh']; exact lesser_heater h1 (by omega)))]
      rfl
    · rfl

/-- What the reduction finds fits (R35). -/
theorem reduced_fits {v : Level} (hv : reduced s h p free g = some v) :
    ((p + projection s h { g with eff := v } : Nat) : Int) ≤ free := by
  refine fitsAt_iff.1 ?_
  unfold reduced at hv
  split at hv
  · obtain ⟨k, hk, rfl⟩ := Option.map_eq_some_iff.1 hv
    obtain ⟨-, -, -, ht, -⟩ := findDown_some _ hk
    exact ht
  · split at hv
    · obtain ⟨k, hk, rfl⟩ := Option.map_eq_some_iff.1 hv
      obtain ⟨-, -, -, ht, -⟩ := findDown_some _ hk
      exact ht
    · cases hv

/-! ### One grant re-admitted (R46) -/

theorem readmit_class0 {b : Bool} (hc : shedClass g.load g.purpose = 0) :
    readmit h free (s, p, b) g = (s, p + projection s h g, b) := if_pos hc

/-- The grant re-admitted at this effective level (R46). -/
def placedAt (s : State) (h p : Nat) (b : Bool) (g : Grant) (v : Level) : State × Nat × Bool :=
  (updateGrant g.load g.purpose (fun x => { x with eff := v }) s, p + projection s h { g with eff := v }, b)

theorem readmit_fits {b : Bool} (hc : shedClass g.load g.purpose ≠ 0)
    (hf : s.au.surplus = true ∨ fitsAt s h p free g (cappedRequest s g) = true) :
    readmit h free (s, p, b) g = placedAt s h p b g (cappedRequest s g) :=
  (if_neg hc).trans (if_pos (by rw [Bool.or_eq_true]; exact hf))

theorem readmit_reduced {b : Bool} {v : Level} (hc : shedClass g.load g.purpose ≠ 0)
    (hf : ¬ (s.au.surplus = true ∨ fitsAt s h p free g (cappedRequest s g) = true))
    (hv : reduced s h p free { g with eff := cappedRequest s g } = some v) :
    readmit h free (s, p, b) g = placedAt s h p b g v := by
  refine (if_neg hc).trans ((if_neg (by rw [Bool.or_eq_true]; exact hf)).trans ?_)
  rw [hv]; rfl

theorem readmit_shed {b : Bool} (hc : shedClass g.load g.purpose ≠ 0)
    (hf : ¬ (s.au.surplus = true ∨ fitsAt s h p free g (cappedRequest s g) = true))
    (hv : reduced s h p free { g with eff := cappedRequest s g } = none) :
    readmit h free (s, p, b) g = (shedGrant (now s) g s, p, true) := by
  refine (if_neg hc).trans ((if_neg (by rw [Bool.or_eq_true]; exact hf)).trans ?_)
  rw [hv]; rfl

/-- Every re-admission leaves class 0 as it stands, places the grant, or sheds it; outside surplus what it places fits. -/
theorem readmit_cases (s : State) (h p : Nat) (free : Int) (b : Bool) (g : Grant) :
    (shedClass g.load g.purpose = 0 ∧ readmit h free (s, p, b) g = (s, p + projection s h g, b)) ∨
    (shedClass g.load g.purpose ≠ 0 ∧ ∃ v, readmit h free (s, p, b) g = placedAt s h p b g v ∧
      (s.au.surplus = false → ((p + projection s h { g with eff := v } : Nat) : Int) ≤ free)) ∨
    (shedClass g.load g.purpose ≠ 0 ∧ readmit h free (s, p, b) g = (shedGrant (now s) g s, p, true)) := by
  by_cases hc : shedClass g.load g.purpose = 0
  · exact .inl ⟨hc, readmit_class0 hc⟩
  · by_cases hf : s.au.surplus = true ∨ fitsAt s h p free g (cappedRequest s g) = true
    · refine .inr (.inl ⟨hc, _, readmit_fits hc hf, fun hs => fitsAt_iff.1 (hf.resolve_left (by simp [hs]))⟩)
    · cases e : reduced s h p free { g with eff := cappedRequest s g } with
      | none => exact .inr (.inr ⟨hc, readmit_shed hc hf e⟩)
      | some v => exact .inr (.inl ⟨hc, v, readmit_reduced hc hf e, fun _ => reduced_fits (g := { g with eff := cappedRequest s g }) e⟩)

/-- The re-admission of a grant, written out (R46). -/
theorem readmit_written (h : Nat) (free : Int) (s : State) (p : Nat) (b : Bool) (g : Grant) :
    let want := capLevel (quietLimit s g.load g.purpose g.origin) g.req
    let fits (v : Level) : Prop := s.au.surplus = true ∨ ((p + projection s h { g with eff := v } : Nat) : Int) ≤ free
    (shedClass g.load g.purpose = 0 → readmit h free (s, p, b) g = (s, p + projection s h g, b)) ∧
    (shedClass g.load g.purpose ≠ 0 →
      (fits want → readmit h free (s, p, b) g = placedAt s h p b g want) ∧
      (¬fits want →
        (∀ k : Nat, ∀ v, lesser g.load want k = some v → fits v →
          (∀ j : Nat, k < j → ∀ w, lesser g.load want j = some w → ¬fits w) →
          readmit h free (s, p, b) g = placedAt s h p b g v) ∧
        ((∀ j : Nat, ∀ w, lesser g.load want j = some w → ¬fits w) →
          readmit h free (s, p, b) g = (shedGrant (now s) g s, p, true)))) := by
  intro want fits
  have hfits (v : Level) : fits v ↔ s.au.surplus = true ∨ fitsAt s h p free g v = true := or_congr_right fitsAt_iff.symm
  have hun {w : Level} (hw : ¬ fits w) : fitsAt s h p free { g with eff := want } w = false := by
    rw [hfits] at hw
    exact Bool.eq_false_iff.2 fun hf => hw (.inr hf)
  refine ⟨fun hc => readmit_class0 hc, fun hc => ⟨fun hf => readmit_fits hc ((hfits _).1 hf), fun hf => ⟨?_, ?_⟩⟩⟩
  · intro k v hv hfv hmax
    have hs : ¬ s.au.surplus = true := fun hs => hf (.inl hs)
    refine readmit_reduced hc (fun hx => hf ((hfits _).2 hx))
      (reduced_eq_some (g := { g with eff := want }) hv (((hfits v).1 hfv).resolve_left hs) fun j hj w hw => hun (hmax j hj w hw))
  · intro h0
    exact readmit_shed hc (fun hx => hf ((hfits _).2 hx))
      (reduced_eq_none (g := { g with eff := want }) fun j w hw => hun (h0 j w hw))

end
end Sys2Proof.Machine

namespace Sys2Proof.Machine

/-! ### The table under one re-admission (R46) -/

section
variable {T : List Grant} {g x : Grant} {f : Grant → Grant}

/-- The load and the purpose of a grant: the pair that names it (R24). -/
def pairOf (g : Grant) : Load × Purpose := (g.load, g.purpose)

theorem isPair_iff {l : Load} {p : Purpose} : isPair l p x = true ↔ pairOf x = (l, p) := by
  simp [isPair, pairOf, Prod.ext_iff]

/-- The entry is ACTIVE or WAITING. -/
def liveEntry (g : Grant) : Bool := g.state == .active || g.state == .waiting

theorem mem_mapPair_of_ne (hx : x ∈ T) (hne : pairOf x ≠ pairOf g) : x ∈ mapPair g.load g.purpose f T :=
  List.mem_map.2 ⟨x, hx, if_neg (by rw [isPair_iff]; exact hne)⟩

/-- An entry of the changed table is the changed one or one of another pair. -/
theorem mem_mapPair_cases (h : x ∈ mapPair g.load g.purpose f T) :
    (∃ y ∈ T, pairOf y = pairOf g ∧ x = f y) ∨ (x ∈ T ∧ pairOf x ≠ pairOf g) := by
  obtain ⟨y, hy, e⟩ := List.mem_map.1 h
  split at e
  · next hp => exact .inl ⟨y, hy, isPair_iff.1 hp, e.symm⟩
  · next hp =>
    subst e
    exact .inr ⟨hy, fun h => hp (isPair_iff.2 h)⟩

theorem mapPair_keeps {γ : Type} (view : Grant → γ) (hf : ∀ y, view (f y) = view y) :
    (mapPair g.load g.purpose f T).map view = T.map view := by
  unfold mapPair
  rw [List.map_map]
  refine List.map_congr_left fun y _ => ?_
  show view (if _ then f y else y) = view y
  split
  · exact hf y
  · rfl

/-- Two entries of one pair are one entry (R24). -/
theorem eq_of_pairOf_eq (hn : (T.map pairOf).Nodup) {y : Grant} (hx : x ∈ T) (hy : y ∈ T) (h : pairOf x = pairOf y) :
    x = y := List.inj_on_of_nodup_map hn hx hy h

/-- The sum over the table changes by that of the one entry that changes. -/
theorem sum_mapPair (w : Grant → Nat) (hn : (T.map pairOf).Nodup) (hg : g ∈ T) :
    ((mapPair g.load g.purpose f T).map w).sum + w g = (T.map w).sum + w (f g) := by
  induction T with
  | nil => cases hg
  | cons y T ih =>
    rw [List.map_cons, List.nodup_cons] at hn
    obtain ⟨hy, hn⟩ := hn
    by_cases hp : pairOf y = pairOf g
    · have hyg : y = g := by
        rcases List.mem_cons.1 hg with rfl | hg
        · rfl
        · exact absurd (List.mem_map.2 ⟨g, hg, hp.symm⟩) hy
      subst hyg
      have hrest : mapPair y.load y.purpose f T = T := by
        refine (List.map_congr_left fun z hz => if_neg ?_).trans (List.map_id T)
        rw [isPair_iff]
        exact fun h => hy (List.mem_map.2 ⟨z, hz, h⟩)
      have hhead : mapPair y.load y.purpose f (y :: T) = f y :: mapPair y.load y.purpose f T := by
        show (if _ then f y else y) :: _ = _
        rw [if_pos (isPair_iff.2 rfl)]; rfl
      rw [hhead, hrest]
      simp only [List.map_cons, List.sum_cons]
      omega
    · have hgT : g ∈ T := (List.mem_cons.1 hg).resolve_left fun h => hp (by rw [h])
      have hhead : mapPair g.load g.purpose f (y :: T) = y :: mapPair g.load g.purpose f T := by
        show (if _ then f y else y) :: _ = _
        rw [if_neg (by rw [isPair_iff]; exact hp)]; rfl
      have := ih hn hgT
      rw [hhead]
      simp only [List.map_cons, List.sum_cons]
      omega

end

/-! ### The grants in order of class (R46) -/

theorem shedClass_lt (l : Load) (p : Purpose) : shedClass l p < 4 := by
  cases l <;> cases p <;> decide

/-- The entries of a class that pass a test. -/
def ofClass (keep : Grant → Bool) (k : Nat) (T : List Grant) : List Grant :=
  T.filter (fun g => keep g && shedClass g.load g.purpose == k)

theorem mem_ofClass {keep : Grant → Bool} {k : Nat} {T : List Grant} {g : Grant} :
    g ∈ ofClass keep k T ↔ g ∈ T ∧ keep g = true ∧ shedClass g.load g.purpose = k := by
  simp [ofClass, List.mem_filter]

theorem inClassOrder_eq (keep : Grant → Bool) (s : State) : inClassOrder keep s =
    ofClass keep 0 s.au.table ++ (ofClass keep 1 s.au.table ++ ofClass keep 2 s.au.table ++ ofClass keep 3 s.au.table) := by
  simp [inClassOrder, ofClass]

theorem sum_filter_cons (w : Grant → Nat) (q : Grant → Bool) (g : Grant) (T : List Grant) :
    (((g :: T).filter q).map w).sum = (if q g then w g else 0) + ((T.filter q).map w).sum := by
  rw [List.filter_cons]; split <;> simp

/-- A sum over the grants that pass a test is its sum over them in order of class. -/
theorem sum_inClassOrder (w : Grant → Nat) (keep : Grant → Bool) (T : List Grant) :
    ((ofClass keep 0 T ++ (ofClass keep 1 T ++ ofClass keep 2 T ++ ofClass keep 3 T)).map w).sum =
      ((T.filter keep).map w).sum := by
  induction T with
  | nil => rfl
  | cons g T ih =>
    have hk := shedClass_lt g.load g.purpose
    simp only [List.map_append, List.sum_append] at ih ⊢
    simp only [ofClass, sum_filter_cons] at ih ⊢
    have hsplit : (if (keep g && shedClass g.load g.purpose == 0) = true then w g else 0) +
        (if (keep g && shedClass g.load g.purpose == 1) = true then w g else 0) +
        (if (keep g && shedClass g.load g.purpose == 2) = true then w g else 0) +
        (if (keep g && shedClass g.load g.purpose == 3) = true then w g else 0) =
        if keep g = true then w g else 0 := by
      cases keep g
      · simp
      · interval_cases shedClass g.load g.purpose <;> simp
    omega

end Sys2Proof.Machine

namespace Sys2Proof.Machine

/-! ### The re-admissions, one after another (R46) -/

/-- What a re-admission leaves of an entry. -/
def keyOf (g : Grant) : Nat × Load × Purpose × Level := (g.pos, g.load, g.purpose, g.req)

/-- What re-admission may do to an entry: give it another effective level, or shed it; its key stays. -/
structure Readmission (s : State) (h p : Nat) (free : Int) (g : Grant) (f : Grant → Grant) : Prop where
  key : ∀ y, keyOf (f y) = keyOf y
  outcome : (∀ y, (f y).state = y.state) ∧
      (s.au.surplus = false → ((p + projection s h (f g) : Nat) : Int) ≤ free) ∨
    (∀ y, (f y).state = .shed)

/-- The re-admission of a sheddable grant changes its entry, the shed list and the running demand, and no more. -/
theorem readmit_sheddable (s : State) (a : AdmissionUnit) (hs : a.surplus = s.au.surplus) (h p : Nat) (free : Int) (b : Bool)
    {g : Grant} (hc : shedClass g.load g.purpose ≠ 0) :
    ∃ f l c, readmit h free ({ s with au := a }, p, b) g =
        ({ s with au := { a with table := mapPair g.load g.purpose f a.table, shedList := l } },
          p + projection s h (f g), c) ∧ Readmission s h p free g f := by
  obtain ⟨h0, -⟩ | ⟨-, v, e, hfit⟩ | ⟨-, e⟩ := readmit_cases { s with au := a } h p free b g
  · exact absurd h0 hc
  · exact ⟨fun x => { x with eff := v }, a.shedList, b, e, fun _ => rfl, .inl ⟨fun _ => rfl, fun hx => hfit (hs.trans hx)⟩⟩
  · exact ⟨fun x => { x with state := .shed, shedTime := some (now s) }, _, true, e, fun _ => rfl, .inr fun _ => rfl⟩

theorem readmits_class0 (s : State) (h p : Nat) (free : Int) (b : Bool) {gs : List Grant}
    (hc : ∀ g ∈ gs, shedClass g.load g.purpose = 0) :
    gs.foldl (readmit h free) (s, p, b) = (s, p + (gs.map (projection s h)).sum, b) := by
  induction gs generalizing p with
  | nil => rfl
  | cons g gs ih =>
    rw [List.forall_mem_cons] at hc
    rw [List.foldl_cons, readmit_class0 hc.1, ih _ hc.2, List.map_cons, List.sum_cons, Nat.add_assoc]

/-- How the table `T` and the running demand `p` stand while the grants `all` are re-admitted, with `rest` still to come:
`T₀` is the table before, `p₀` the demand with no grant in it. -/
structure Readmitting (s : State) (h : Nat) (free : Int) (T₀ : List Grant) (p₀ : Nat) (all rest T : List Grant) (p : Nat) :
    Prop where
  keys : T.map keyOf = T₀.map keyOf
  charge : (T.map (projection s h)).sum + p₀ = p + (rest.map (projection s h)).sum
  sub : ∀ g ∈ rest, g ∈ all
  mem : ∀ g ∈ rest, g ∈ T
  distinct : rest.Pairwise (fun x y => pairOf x ≠ pairOf y)
  origin : ∀ x ∈ T, ∃ y ∈ T₀, pairOf x = pairOf y ∧ (x.state = y.state ∨ x.state = .shed)
  kept : ∀ x ∈ T₀, (∀ g ∈ all, pairOf x ≠ pairOf g) → x ∈ T
  bounded : s.au.surplus = false →
    (p : Int) ≤ free ∨ ∀ x ∈ T, liveEntry x = true → shedClass x.load x.purpose ≠ 0 → x ∈ rest

section
variable {s : State} {h p p₀ : Nat} {free : Int} {T₀ T all rest : List Grant} {g : Grant} {f : Grant → Grant}

theorem pairOf_of_keyOf {x y : Grant} (e : keyOf x = keyOf y) : pairOf x = pairOf y :=
  congrArg (fun k : Nat × Load × Purpose × Level => (k.2.1, k.2.2.1)) e

theorem pairs_of_keys (h : T.map keyOf = T₀.map keyOf) : T.map pairOf = T₀.map pairOf := by
  have := congrArg (List.map fun k : Nat × Load × Purpose × Level => (k.2.1, k.2.2.1)) h
  rw [List.map_map, List.map_map] at this
  exact this

theorem Readmitting.step (hn : (T₀.map pairOf).Nodup) (hi : Readmitting s h free T₀ p₀ all (g :: rest) T p)
    (hf : Readmission s h p free g f) :
    Readmitting s h free T₀ p₀ all rest (mapPair g.load g.purpose f T) (p + projection s h (f g)) := by
  have hnT : (T.map pairOf).Nodup := by rw [pairs_of_keys hi.keys]; exact hn
  have hg : g ∈ T := hi.mem g List.mem_cons_self
  have hdist := List.pairwise_cons.1 hi.distinct
  have hne : ∀ x ∈ rest, pairOf x ≠ pairOf g := fun x hx e => hdist.1 x hx e.symm
  refine ⟨(mapPair_keeps keyOf hf.key).trans hi.keys, ?_, fun x hx => hi.sub x (List.mem_cons_of_mem _ hx),
    fun x hx => mem_mapPair_of_ne (hi.mem x (List.mem_cons_of_mem _ hx)) (hne x hx), hdist.2, ?_, ?_, ?_⟩
  · have hsum := sum_mapPair (f := f) (projection s h) hnT hg
    have hcharge := hi.charge
    rw [List.map_cons, List.sum_cons] at hcharge
    omega
  · intro x hx
    obtain ⟨y, hy, hp, rfl⟩ | ⟨hx, -⟩ := mem_mapPair_cases hx
    · obtain ⟨z, hz, hpz, hst⟩ := hi.origin y hy
      refine ⟨z, hz, (pairOf_of_keyOf (hf.key y)).trans hpz, ?_⟩
      obtain ⟨hsame, -⟩ | hshed := hf.outcome
      · rw [hsame]; exact hst
      · exact .inr (hshed y)
    · exact hi.origin x hx
  · exact fun x hx hall => mem_mapPair_of_ne (hi.kept x hx hall) (hall g (hi.sub g List.mem_cons_self))
  · intro hs
    obtain ⟨-, hfit⟩ | hshed := hf.outcome
    · exact .inl (hfit hs)
    · have hp : projection s h (f g) = 0 := by unfold projection; rw [hshed]
      rw [hp, Nat.add_zero]
      refine (hi.bounded hs).imp_right fun hrest x hx hlive hc => ?_
      obtain ⟨y, hy, -, rfl⟩ | ⟨hx, hpx⟩ := mem_mapPair_cases hx
      · rw [liveEntry, hshed] at hlive
        cases hlive
      · exact (List.mem_cons.1 (hrest x hx hlive hc)).resolve_left fun e => hpx (by rw [e])

/-- All the sheddable grants are re-admitted. -/
theorem Readmitting.run (hn : (T₀.map pairOf).Nodup) {gs : List Grant} {a : AdmissionUnit} {b : Bool}
    (ha : a.surplus = s.au.surplus) (hc : ∀ g ∈ gs, shedClass g.load g.purpose ≠ 0)
    (hi : Readmitting s h free T₀ p₀ all gs a.table p) :
    ∃ T l q c, gs.foldl (readmit h free) ({ s with au := a }, p, b) =
        ({ s with au := { a with table := T, shedList := l } }, q, c) ∧ Readmitting s h free T₀ p₀ all [] T q := by
  induction gs generalizing a p b with
  | nil => exact ⟨_, _, _, _, rfl, hi⟩
  | cons g gs ih =>
    rw [List.forall_mem_cons] at hc
    obtain ⟨f, l, c, e, hf⟩ := readmit_sheddable s a ha h p free b hc.1
    obtain ⟨T, l', q, c', e', hr⟩ := ih (a := { a with table := mapPair g.load g.purpose f a.table, shedList := l })
      (b := c) ha hc.2 (hi.step hn hf)
    exact ⟨T, l', q, c', by rw [List.foldl_cons, e, e'], hr⟩

end
end Sys2Proof.Machine

namespace Sys2Proof.Machine

/-! ### The revalidation, whole (R45, R46) -/

/-- The re-admissions change the table and the shed list, and nothing else of the state (R46). -/
theorem readmits_state (s : State) (h : Nat) (free : Int) (gs : List Grant) (a : AdmissionUnit) (ha : a.surplus = s.au.surplus)
    (p : Nat) (b : Bool) : ∃ T l q c, gs.foldl (readmit h free) ({ s with au := a }, p, b) =
      ({ s with au := { a with table := T, shedList := l } }, q, c) := by
  induction gs generalizing a p b with
  | nil => exact ⟨_, _, _, _, rfl⟩
  | cons g gs ih =>
    by_cases hc : shedClass g.load g.purpose = 0
    · rw [List.foldl_cons, readmit_class0 hc]
      exact ih a ha _ b
    · obtain ⟨f, l, c, e, -⟩ := readmit_sheddable s a ha h p free b hc
      obtain ⟨T, l', q, c', e'⟩ := ih { a with table := mapPair g.load g.purpose f a.table, shedList := l } ha
        (p + projection s h (f g)) c
      exact ⟨T, l', q, c', by rw [List.foldl_cons, e, e']⟩

section
variable (s : State)

/-- The live grants of class 1 and more, in order of class. -/
def sheddable : List Grant :=
  ofClass liveEntry 1 s.au.table ++ ofClass liveEntry 2 s.au.table ++ ofClass liveEntry 3 s.au.table

theorem mem_sheddable {s : State} {g : Grant} :
    g ∈ sheddable s ↔ g ∈ s.au.table ∧ liveEntry g = true ∧ shedClass g.load g.purpose ≠ 0 := by
  have hk := shedClass_lt g.load g.purpose
  simp only [sheddable, List.mem_append, mem_ofClass]
  constructor
  · rintro ((⟨hg, hl, hc⟩ | ⟨hg, hl, hc⟩) | ⟨hg, hl, hc⟩) <;> exact ⟨hg, hl, by omega⟩
  · rintro ⟨hg, hl, hc⟩
    obtain h1 | h2 | h3 : shedClass g.load g.purpose = 1 ∨ shedClass g.load g.purpose = 2 ∨ shedClass g.load g.purpose = 3 := by
      omega
    · exact .inl (.inl ⟨hg, hl, h1⟩)
    · exact .inl (.inr ⟨hg, hl, h2⟩)
    · exact .inr ⟨hg, hl, h3⟩

theorem sheddable_distinct (hn : (s.au.table.map pairOf).Nodup) :
    (sheddable s).Pairwise (fun x y => pairOf x ≠ pairOf y) := by
  have hclass : ∀ k, (ofClass liveEntry k s.au.table).Pairwise (fun x y => pairOf x ≠ pairOf y) := fun k =>
    (List.pairwise_map.1 hn).filter _
  have hcross : ∀ {x y : Grant}, shedClass x.load x.purpose ≠ shedClass y.load y.purpose → pairOf x ≠ pairOf y :=
    fun hne e => hne (congrArg (fun q : Load × Purpose => shedClass q.1 q.2) e)
  refine List.pairwise_append.2 ⟨List.pairwise_append.2 ⟨hclass 1, hclass 2, ?_⟩, hclass 3, ?_⟩
  · intro x hx y hy
    obtain ⟨-, -, h1⟩ := mem_ofClass.1 hx
    obtain ⟨-, -, h2⟩ := mem_ofClass.1 hy
    exact hcross (by omega)
  · intro x hx y hy
    obtain ⟨-, -, h3⟩ := mem_ofClass.1 hy
    rcases List.mem_append.1 hx with hx | hx <;>
    · obtain ⟨-, -, h1⟩ := mem_ofClass.1 hx
      exact hcross (by omega)

/-- Only ACTIVE and WAITING entries have a projected charge (R30). -/
theorem projection_of_not_live {s : State} {h : Nat} {g : Grant} (hg : liveEntry g = false) : projection s h g = 0 := by
  cases hst : g.state <;> simp [liveEntry, hst] at hg <;> simp [projection, hst]

theorem sum_projection_live (h : Nat) (T : List Grant) :
    ((T.filter liveEntry).map (projection s h)).sum = (T.map (projection s h)).sum := by
  induction T with
  | nil => rfl
  | cons g T ih =>
    rw [sum_filter_cons, ih, List.map_cons, List.sum_cons]
    split
    · rfl
    · next hg => rw [projection_of_not_live (Bool.eq_false_iff.2 hg)]

/-- The demand with no grant in it (R31). -/
def bareDemand : Nat := purgeCharge s + startCharge s s.au.table

/-- Class 0 is re-admitted first, as it stands. -/
def class0Demand : Nat := bareDemand s + ((ofClass liveEntry 0 s.au.table).map (projection s (horizon s))).sum

theorem readmitting_start (hn : (s.au.table.map pairOf).Nodup) :
    Readmitting s (horizon s) (freeCharge s) s.au.table (bareDemand s) (sheddable s) (sheddable s) s.au.table
      (class0Demand s) := by
  refine ⟨rfl, ?_, fun _ hg => hg, fun g hg => (mem_sheddable.1 hg).1, sheddable_distinct s hn,
    fun x hx => ⟨x, hx, rfl, .inl rfl⟩, fun _ hx _ => hx, fun _ => .inr fun x hx hl hc => mem_sheddable.2 ⟨hx, hl, hc⟩⟩
  have hsum := sum_inClassOrder (projection s (horizon s)) liveEntry s.au.table
  rw [sum_projection_live, List.map_append, List.sum_append] at hsum
  unfold class0Demand sheddable
  omega

/-- The live grants re-admitted, in order of class and of position (R46). -/
def readmitted : State × Nat × Bool :=
  (inClassOrder liveEntry s).foldl (readmit (horizon s) (freeCharge s)) ({ s with au.pointer := 0 }, bareDemand s, false)

theorem revalidate_eq : revalidate s =
    mergeAll (if (readmitted s).2.2 then notifyBoth .grantShed (readmitted s).1 else (readmitted s).1) := rfl

theorem readmitted_state : ∃ T l q c, readmitted s =
    ({ s with au := { s.au with pointer := 0, table := T, shedList := l } }, q, c) :=
  readmits_state s _ _ _ { s.au with pointer := 0 } rfl _ _

theorem readmitted_run (hn : (s.au.table.map pairOf).Nodup) : ∃ T l q c, readmitted s =
      ({ s with au := { s.au with pointer := 0, table := T, shedList := l } }, q, c) ∧
    Readmitting s (horizon s) (freeCharge s) s.au.table (bareDemand s) (sheddable s) [] T q := by
  have hstart := readmitting_start s hn
  obtain ⟨T, l, q, c, e, hr⟩ := hstart.run hn (a := { s.au with pointer := 0 }) (b := false) rfl
    (fun g hg => (mem_sheddable.1 hg).2.2)
  refine ⟨T, l, q, c, ?_, hr⟩
  unfold readmitted
  rw [inClassOrder_eq, List.foldl_append]
  rw [readmits_class0 _ _ _ _ _ (fun g hg => (mem_ofClass.1 hg).2.2)]
  exact e

/-- A heater grant that is ACTIVE after the re-admissions was so before (R31). -/
theorem startCharge_le {T : List Grant}
    (h : ∀ x ∈ T, ∃ y ∈ s.au.table, pairOf x = pairOf y ∧ (x.state = y.state ∨ x.state = .shed)) :
    startCharge s T ≤ startCharge s s.au.table := by
  have ha : heaterActive T = true → heaterActive s.au.table = true := by
    unfold heaterActive
    rw [List.any_eq_true, List.any_eq_true]
    rintro ⟨x, hx, hq⟩
    obtain ⟨y, hy, hp, hst⟩ := h x hx
    obtain ⟨hl, hpu⟩ := Prod.mk.inj hp
    refine ⟨y, hy, ?_⟩
    rw [← hl, ← hpu]
    rcases hst with hst | hst
    · rw [← hst]; exact hq
    · rw [hst] at hq; simp at hq
  unfold startCharge
  by_cases hT : heaterActive T = true
  · rw [if_pos hT, if_pos (ha hT)]
  · rw [if_neg hT]; exact Nat.zero_le _

end
end Sys2Proof.Machine

namespace Sys2Proof.Machine

section
variable (s : State)

theorem readmitted_noticed (h : (readmitted s).2.2 = true) : Noticed .grantShed (revalidate s) := by
  rw [revalidate_eq, if_pos h]
  exact (noticed_notifyBoth _ _).of_tableFrame (by decide) (mergeAll_tableFrame _)

/-- What stands of a sound table after the re-admissions (R46). -/
theorem readmitted_sound (ht : TableSound s) :
    (readmitted s).1.au.table.map (fun g => (g.pos, g.load, g.purpose, g.req)) =
      s.au.table.map (fun g => (g.pos, g.load, g.purpose, g.req)) ∧
    (∀ g ∈ s.au.table, shedClass g.load g.purpose = 0 ∨ g.state = .shed ∨ g.state = .suspended →
      g ∈ (readmitted s).1.au.table) ∧
    (s.au.surplus = false → (∃ g ∈ (readmitted s).1.au.table, 1 ≤ shedClass g.load g.purpose ∧
        (g.state = .active ∨ g.state = .waiting)) →
      (demandOf s (horizon s) (readmitted s).1.au.table : Int) ≤ freeCharge s) := by
  obtain ⟨-, -, hn, -, -⟩ := ht
  obtain ⟨T, l, q, c, e, hr⟩ := readmitted_run s hn
  rw [e]
  refine ⟨hr.keys, fun g hg hstands => hr.kept g hg fun x hx hp => ?_, fun hs ⟨g, hg, hc, hl⟩ => ?_⟩
  · obtain ⟨hx, hlive, hcx⟩ := mem_sheddable.1 hx
    obtain rfl := eq_of_pairOf_eq hn hg hx hp
    obtain h0 | hst | hst := hstands
    · exact hcx h0
    · simp [liveEntry, hst] at hlive
    · simp [liveEntry, hst] at hlive
  · have hlive : liveEntry g = true := by rcases hl with hl | hl <;> simp [liveEntry, hl]
    have hfit : (q : Int) ≤ freeCharge s :=
      (hr.bounded hs).resolve_right fun hrest => absurd (hrest g hg hlive (by omega)) List.not_mem_nil
    have hcharge : (T.map (projection s (horizon s))).sum + bareDemand s = q := hr.charge
    have hstart := startCharge_le s hr.origin
    unfold bareDemand at hcharge
    show ((T.map (projection s (horizon s))).sum + purgeCharge s + startCharge s T : Nat) ≤ freeCharge s
    omega

end

/-- Settles O18: the answer of SEED_CHARGE, the revalidation as a run of re-admissions, and the re-admission itself. -/
theorem seedChargeSetsCount : Obligations.SeedChargeSetsCount := by
  refine ⟨fun q s h => seedCharge_answers q s h, fun s => ?_, fun h free s p b g => readmit_written h free s p b g⟩
  obtain ⟨T, l, q, c, e⟩ := readmitted_state s
  have hrest : { (readmitted s).1 with au := s.au } = s := by rw [e]
  have hpointer : (readmitted s).1.au.pointer = 0 := by rw [e]
  have hflags : ((readmitted s).1.au.surplus, (readmitted s).1.au.deficit, (readmitted s).1.au.breach) =
      (s.au.surplus, s.au.deficit, s.au.breach) := by rw [e]
  exact ⟨revalidate_eq s, readmitted_noticed s, hrest, hpointer, hflags, readmitted_sound s⟩

end Sys2Proof.Machine

namespace Sys2Proof.Machine

/-! ## O54: the policy items (R204, R205) -/

/-- The items with their stored values, in the order of their ids (R204). -/
def itemValues (p : Policy) : List (Nat × Nat) :=
  [(1, p.p01), (2, p.p02), (3, p.p03), (4, p.p04), (5, p.p05), (6, p.p06), (7, p.p07), (10, p.p10), (11, p.p11),
   (12, p.p12), (13, p.p13), (14, p.p14), (15, p.p15), (16, p.p16), (17, p.p17), (18, p.p18), (19, p.p19), (20,
   p.p20), (21, p.p21), (23, p.p23), (24, p.p24), (30, p.p30), (31, p.p31), (32, p.p32), (33, p.p33), (34, p.p34),
   (35, p.p35), (36, p.p36), (37, p.p37), (40, p.p40), (41, p.p41), (42, p.p42), (43, p.p43), (44, p.p44), (45,
   p.p45), (46, p.p46), (50, p.p50), (51, p.p51), (52, p.p52), (53, p.p53), (54, p.p54), (55, p.p55), (56, p.p56),
   (57, p.p57), (58, p.p58), (59, p.p59), (60, p.p60), (61, p.p61), (62, p.p62), (63, p.p63), (64, p.p64)]

theorem policyItem?_eq (p : Policy) (id : Nat) : policyItem? p id = (itemValues p).lookup id := by
  unfold policyItem?
  split
  case h_52 =>
    rw [eq_comm, List.lookup_eq_none_iff]
    simp_all [itemValues]
  all_goals rfl

theorem itemValues_storeItem (v : Nat) (p : Policy) {id : Nat} (h : (policyItem? p id).isSome = true) :
    itemValues (storeItem id v p) = (itemValues p).map (fun x => if x.1 = id then (x.1, v) else x) := by
  unfold policyItem? at h
  split at h
  case h_52 => cases h
  all_goals rfl

theorem lookup_map_set (id v j : Nat) : ∀ xs : List (Nat × Nat),
    (xs.map (fun x => if x.1 = id then (x.1, v) else x)).lookup j =
      if j = id then (xs.lookup j).map (fun _ => v) else xs.lookup j
  | [] => by simp
  | (k, w) :: xs => by
    have ih := lookup_map_set id v j xs
    by_cases hk : j = k
    · subst hk
      by_cases hi : j = id
      · simp [hi]
      · simp [hi]
    · have hb : (j == k) = false := by simpa using hk
      by_cases hi : k = id
      · simp only [List.map_cons, hi, if_true, List.lookup_cons, ih]
        subst hi
        simp [hb]
      · simp [hi, List.lookup_cons, hb, ih]

/-- A stored item has its new value, and every other keeps its own (R205). -/
theorem policyItem?_storeItem (v : Nat) (p : Policy) {id : Nat} (h : (policyItem? p id).isSome = true) (j : Nat) :
    policyItem? (storeItem id v p) j = if j = id then some v else policyItem? p j := by
  rw [policyItem?_eq, itemValues_storeItem v p h, lookup_map_set, ← policyItem?_eq]
  split
  · next e =>
    subst e
    obtain ⟨w, hw⟩ := Option.isSome_iff_exists.1 h
    rw [hw]; rfl
  · rfl

theorem policyItem?_le {p : Policy} {id : Nat} (h : (policyItem? p id).isSome = true) : id ≤ 64 := by
  unfold policyItem? at h
  split at h
  case h_52 => cases h
  all_goals decide

end Sys2Proof.Machine

namespace Sys2Proof.Machine

/-! ### An answer, whatever its owner leaves of the ports -/

section
variable (l : Link) (k : Byte) (r : Reply)

/-- An answer writes the port and the doze timer, and nothing else (R176, R198). -/
theorem answer_besideAnswer : besideAnswer l (answer l k r) = besideAnswer l r.state := by
  unfold answer endTransfer
  rw [syncDoze_eq]
  cases l <;> rfl

theorem answer_Answered : Answered l k r.status r.payload (answer l k r) := by
  unfold answer endTransfer
  rw [syncDoze_eq]
  cases l <;> exact ⟨rfl, rfl⟩

theorem answer_field {α : Type} (f : State → α) (hf : ∀ x, f (besideAnswer l x) = f x) : f (answer l k r) = f r.state := by
  rw [← hf, answer_besideAnswer, hf]

end

/-! ### The ranges (R205, R206) -/

/-- The policy lock bars every write but a raise of the start reserve (R206). -/
def itemBarred (locked : Bool) (id old new : Nat) : Bool := locked && !(id == 2 && decide (old < new))

section
variable {s : State} {id v old : Nat}

theorem setPolicy_none (h : policyItem? s.policy id = none) : setPolicy id v s = refuse .notFound s := by
  unfold setPolicy; rw [h]

theorem setPolicy_some (h : policyItem? s.policy id = some old) : setPolicy id v s =
    if itemBarred s.policyLock id old (clampItem s.policy id v) then refuse .locked s
    else ⟨if clampItem s.policy id v = old then s else changeItem id old (clampItem s.policy id v) s, .ok,
      encNat32 (clampItem s.policy id v)⟩ := by
  unfold setPolicy; rw [h]; rfl

end

section
variable {s : State} {b : Byte} {value : BitVec 32} {old : Nat}

theorem exec_policySet_none (h : Serving .v s) (hi : policyItem? s.policy b.toNat = none) :
    exec (.policySet .v b value) s = .next (answered .v 0x30#8 .notFound [] s) :=
  congrArg Host.Outcome.next (serve_answered h (by decide) (setPolicy_none (s := clearReleased .v s) hi))

theorem exec_policySet_locked (h : Serving .v s) (hi : policyItem? s.policy b.toNat = some old)
    (hb : itemBarred s.policyLock b.toNat old (clampItem s.policy b.toNat value.toNat) = true) :
    exec (.policySet .v b value) s = .next (answered .v 0x30#8 .locked [] s) :=
  congrArg Host.Outcome.next
    (serve_answered h (by decide) ((setPolicy_some (s := clearReleased .v s) hi).trans (if_pos hb)))

theorem exec_policySet_same (h : Serving .v s) (hi : policyItem? s.policy b.toNat = some old)
    (hb : itemBarred s.policyLock b.toNat old (clampItem s.policy b.toNat value.toNat) = false)
    (he : clampItem s.policy b.toNat value.toNat = old) :
    exec (.policySet .v b value) s =
      .next (answered .v 0x30#8 .ok (encNat32 (clampItem s.policy b.toNat value.toNat)) s) := by
  refine congrArg Host.Outcome.next (serve_answered h (by decide) ((setPolicy_some (s := clearReleased .v s) hi).trans
    ((if_neg (fun hx => absurd (hx.symm.trans hb) nofun)).trans ?_)))
  have he' : clampItem (clearReleased .v s).policy b.toNat value.toNat = old := he
  rw [if_pos he']; rfl

theorem exec_policySet_change (h : Serving .v s) (hi : policyItem? s.policy b.toNat = some old)
    (hb : itemBarred s.policyLock b.toNat old (clampItem s.policy b.toNat value.toNat) = false)
    (he : clampItem s.policy b.toNat value.toNat ≠ old) :
    exec (.policySet .v b value) s = .next (answer .v 0x30#8
      ⟨changeItem b.toNat old (clampItem s.policy b.toNat value.toNat) (clearReleased .v s), .ok,
        encNat32 (clampItem s.policy b.toNat value.toNat)⟩) := by
  refine congrArg Host.Outcome.next ((serve_serving h (by decide)).trans (congrArg (answer .v 0x30#8) ?_))
  have he' : ¬ clampItem (clearReleased .v s).policy b.toNat value.toNat = old := he
  refine (setPolicy_some (s := clearReleased .v s) hi).trans ((if_neg (fun hx => absurd (hx.symm.trans hb) nofun)).trans ?_)
  rw [if_neg he']; rfl

end

/-! ### What a change leaves of the policy and the charge (R8, R136, R205) -/

/-- The policy after a change: the item stored, and the item whose range the change moves lowered to it. -/
def policyAfter (id new : Nat) (p : Policy) : Policy :=
  if id = 1 then storeItem 2 (min p.p02 (new / 2)) (storeItem 1 new p)
  else if id = 51 then storeItem 52 (min p.p52 (new - 5)) (storeItem 51 new p)
  else if id = 54 then storeItem 55 (min p.p55 new) (storeItem 54 new p)
  else storeItem id new p

/-- A change of the capacity, written out (R8). -/
theorem applyCapacity_eq (s : State) : applyCapacity s = { s with
    policy := { s.policy with p02 := min s.policy.p02 (s.policy.p01 / 2) }
    cm := if s.policy.p01 < s.cm.q then { s.cm with q := s.policy.p01, r := 0 } else s.cm } := by
  have hp : ∀ x : State, (if x.policy.p01 < 2 * x.policy.p02 then { x with policy.p02 := x.policy.p01 / 2 } else x) =
      { x with policy := { x.policy with p02 := min x.policy.p02 (x.policy.p01 / 2) } } := by
    intro x
    split
    · rw [Nat.min_eq_right (by omega)]
    · rw [Nat.min_eq_left (by omega)]
  unfold applyCapacity; dsimp only
  rw [hp]
  split <;> rfl

section
variable (id old new : Nat) (s : State)

/-- The state in which an item's owner acts: the item stored, at P59 with every record accumulated before (R136, R205). -/
def storedAt : State :=
  { (if id = 59 then accumulateAll (now s) s else s) with
    policy := storeItem id new (if id = 59 then accumulateAll (now s) s else s).policy }

theorem changeItem_eq : changeItem id old new s = applyItem id old (storedAt id new s) := rfl

theorem storedAt_besideRests : besideRests (storedAt id new s) = besideRests { s with policy := storeItem id new s.policy } := by
  unfold storedAt
  split
  · have h := accumulateAll_besideRests (now s) s
    have hp := besideRests_policy h
    rw [hp]
    exact congrArg (fun x : State => { x with policy := storeItem id new s.policy }) h
  · rfl

theorem changeItem_policy : (changeItem id old new s).policy = policyAfter id new s.policy := by
  have hst := besideRests_policy (storedAt_besideRests id new s)
  rw [changeItem_eq]
  unfold policyAfter
  split
  · next h =>
    subst h
    refine (besideRests_policy (revalidate_besideRests _)).trans ?_
    rw [applyCapacity_eq]
    rfl
  · split
    · next h => subst h; rfl
    · split
      · next h => subst h; rfl
      · next h1 h51 h54 => rw [besideRests_policy (applyItem_besideRests h1 h51 h54 _ _), hst]

/-- A change writes the policy and, at P01, the count; all else of it is the owners' work on the grant table, the warnings
and the rests. -/
theorem changeItem_frame : besideRests { changeItem id old new s with policy := s.policy, cm := s.cm } = besideRests s := by
  have reset : ∀ x y : State, besideRests x = besideRests y →
      besideRests { x with policy := s.policy, cm := s.cm } = besideRests { y with policy := s.policy, cm := s.cm } :=
    fun _ _ h => congrArg (fun z : State => { z with policy := s.policy, cm := s.cm }) h
  have hst := reset _ _ (storedAt_besideRests id new s)
  rw [changeItem_eq]
  by_cases h1 : id = 1
  · subst h1
    refine (reset _ _ (revalidate_besideRests _)).trans ?_
    rw [applyCapacity_eq]
    rfl
  by_cases h51 : id = 51
  · subst h51; rfl
  by_cases h54 : id = 54
  · subst h54; rfl
  · exact (reset _ _ (applyItem_besideRests h1 h51 h54 _ _)).trans hst

theorem changeItem_cm (h1 : id ≠ 1) : (changeItem id old new s).cm = s.cm := by
  have hst := besideRests_cm (storedAt_besideRests id new s)
  rw [changeItem_eq]
  by_cases h51 : id = 51
  · subst h51; rfl
  by_cases h54 : id = 54
  · subst h54; rfl
  · exact (besideRests_cm (applyItem_besideRests h1 h51 h54 old _)).trans hst

theorem changeItem_capacity_cm : (changeItem 1 old new s).cm =
    if new < s.cm.q then { s.cm with q := new, r := 0 } else s.cm := by
  rw [changeItem_eq]
  refine (besideRests_cm (revalidate_besideRests (applyCapacity (storedAt 1 new s)))).trans ?_
  rw [applyCapacity_eq]
  rfl

end

/-! ### The items after a change -/

section
variable {p : Policy} {id new : Nat}

theorem policyItem?_policyAfter_self (h : (policyItem? p id).isSome = true) :
    policyItem? (policyAfter id new p) id = some new := by
  have hs := policyItem?_storeItem new p h id
  rw [if_pos rfl] at hs
  unfold policyAfter
  (repeat' split)
  · next e => subst e; rfl
  · next e => subst e; rfl
  · next e => subst e; rfl
  · exact hs

theorem policyItem?_policyAfter_ne (h : (policyItem? p id).isSome = true) {j : Nat} (hj : j ≠ id)
    (hd : (id, j) ∉ [(1, 2), (51, 52), (54, 55)]) : policyItem? (policyAfter id new p) j = policyItem? p j := by
  have hs := policyItem?_storeItem new p h j
  rw [if_neg hj] at hs
  have second : ∀ {d w : Nat} {q : Policy}, (policyItem? q d).isSome = true → j ≠ d →
      policyItem? (storeItem d w q) j = policyItem? q j := fun hq hne => by
    rw [policyItem?_storeItem _ _ hq, if_neg hne]
  simp only [List.mem_cons, Prod.mk.injEq, List.not_mem_nil, or_false, not_or, not_and] at hd
  obtain ⟨h1, h51, h54⟩ := hd
  unfold policyAfter
  (repeat' split)
  · next e => subst e; exact (second rfl (h1 rfl)).trans hs
  · next e => subst e; exact (second rfl (h51 rfl)).trans hs
  · next e => subst e; exact (second rfl (h54 rfl)).trans hs
  · exact hs

end
end Sys2Proof.Machine

namespace Sys2Proof.Machine

/-! ### The terms of the statement as the owners' work -/

section
variable {s : State}

/-- An event outside a main reset leaves what its work leaves (R174). -/
theorem after_running {c : Instr} {f : State → State} (h : Running s) (e : exec c s = .next (unlessReset f s)) :
    after c s = f s := (after_of_next e).trans (unlessReset_running h f)

theorem dueReformed_eq (h : Running s) : dueReformed s = reformDue s := by
  have hnext : s.cs.nextDue - BitVec.ofNat 32 (60 * s.cs.formed) + BitVec.ofNat 32 (60 * slotInterval s) =
      plusSecs (minusSecs s.cs.nextDue (s.cs.formed * 60)) (slotInterval s * 60) := by
    rw [Nat.mul_comm 60, Nat.mul_comm 60]; rfl
  have hdue : dueReformed s =
      if s.cs.enable then
        if atOrAfter (now s) (s.cs.nextDue - BitVec.ofNat 32 (60 * s.cs.formed) + BitVec.ofNat 32 (60 * slotInterval s))
        then slotNow s
        else { s with
          cs.nextDue := s.cs.nextDue - BitVec.ofNat 32 (60 * s.cs.formed) + BitVec.ofNat 32 (60 * slotInterval s)
          cs.formed := slotInterval s }
      else s := rfl
  rw [hdue, hnext]
  unfold reformDue; dsimp only
  by_cases he : s.cs.enable = true
  · rw [if_pos he, if_pos he, slotNow_eq_slotAtOnce h he]
  · rw [if_neg he, if_neg he]

theorem wakeHolds_of_some {b : Bunk} {p : RtcTime} (hp : plannedEnd b s = some p) :
    (wakeHolds b s).isSome = atOrAfter (now s) (p - BitVec.ofNat 32 (60 * s.policy.p61)) := by
  have hm : minusSecs p (s.policy.p61 * 60) = p - BitVec.ofNat 32 (60 * s.policy.p61) := by rw [Nat.mul_comm]; rfl
  unfold wakeHolds
  rw [hp]; dsimp only
  rw [hm]
  split
  · next h => exact h.symm
  · next h => exact (Bool.eq_false_iff.2 h).symm

theorem wakeTested_of_isSome (b : Bunk) :
    wakeTested b s = if (wakeHolds b s).isSome then after (.wakeLeadReached b) s else removeWarning .wake (.bunk b) s := by
  cases hp : plannedEnd b s with
  | none =>
    have hw : (wakeHolds b s).isSome = false := by unfold wakeHolds; rw [hp]; rfl
    have hb : (s.rm.rests.get b).bind (·.plannedEnd) = none := hp
    unfold wakeTested; dsimp only
    rw [hb, hw]
  | some p =>
    have hb : (s.rm.rests.get b).bind (·.plannedEnd) = some p := hp
    rw [wakeHolds_of_some hp]
    unfold wakeTested; dsimp only
    rw [hb]

/-- The test of WAKE is the event of its lead time where the condition holds, and its end where it does not (R141). -/
theorem wakeTested_eq (b : Bunk) (h : Running s) : wakeTested b s = testWake b s := by
  have hlead : after (.wakeLeadReached b) s = wakeLead b s := after_running h rfl
  rw [wakeTested_of_isSome, hlead]
  cases hw : wakeHolds b s with
  | none => unfold testWake; rw [hw]; rfl
  | some p => unfold wakeLead; rw [hw]; rfl

theorem testWake_running (b : Bunk) (h : Running s) : Running (testWake b s) :=
  (congrArg (·.tu.resetHold) (testWake_besideRests b s) :
    (besideRests (testWake b s)).tu.resetHold = (besideRests s).tu.resetHold).trans h

theorem wakesTested_eq (h : Running s) :
    wakeTested .upper (wakeTested .lower s) = testWake .upper (testWake .lower s) := by
  rw [wakeTested_eq .lower h, wakeTested_eq .upper (testWake_running .lower h)]

/-! ### The rate mode (R101, R102) -/

/-- P40 fixes a mode but at 0 (R101). -/
theorem applyRate_fixed {new : Nat} (hp : s.policy.p40 = new) (hn : new ≤ 3) (h : Running s) :
    applyRate 40 s =
      if (if new = 0 then s.cs.mode else if new = 1 then RateMode.normal else if new = 2 then .warm else .cool) = s.cs.mode
      then s
      else dueReformed { s with cs.mode :=
        if new = 0 then s.cs.mode else if new = 1 then RateMode.normal else if new = 2 then .warm else .cool } := by
  have hset : ∀ m : RateMode, setMode m s = if m = s.cs.mode then s else dueReformed { s with cs.mode := m } := by
    intro m
    have hm : Running { s with cs.mode := m } := h
    rw [dueReformed_eq hm]; rfl
  have hrate : applyRate 40 s = match fixedMode s.policy.p40 with | some m => setMode m s | none => s := rfl
  rw [hrate, hp]
  interval_cases new
  · exact (if_pos rfl).symm
  · exact hset .normal
  · exact hset .warm
  · exact hset .cool

/-- P42, P43 and P44 act at once where they are the interval in force (R102). -/
theorem applyRate_interval {id : Nat} (hid : id ∈ [42, 43, 44]) (h : Running s) :
    applyRate id s =
      if id = (match s.cs.mode with | .normal => 42 | .warm => 43 | .cool => 44) then dueReformed s else s := by
  rw [dueReformed_eq h]
  simp only [List.mem_cons, List.not_mem_nil, or_false] at hid
  unfold applyRate
  rcases hid with rfl | rfl | rfl <;> cases s.cs.mode <;> rfl

end
end Sys2Proof.Machine

namespace Sys2Proof.Machine

/-! ### A change of P60 (R143) -/

section
variable {s : State}

theorem reconsiderTarget_tableFrame (t : WarnTarget) (s : State) : tableFrame (reconsiderTarget t s) = tableFrame s := by
  have hg : ∀ (b : Bunk) (x : Bool) (y : State), tableFrame (setGivenUp b x y) = tableFrame y := fun _ _ _ => rfl
  unfold reconsiderTarget; split
  · unfold reconsiderFlash; (repeat' split) <;> simp [hg]
  · rfl
  · rfl

theorem notifyWarning_reviewFrame (t : WarnTarget) (s : State) : reviewFrame (notifyWarning t s) = reviewFrame s := by
  unfold notifyWarning; dsimp only; (repeat' split) <;> rfl

/-- The entry of an escalated pair: ALERT, due for the chime at once (R143, R146). -/
def escalated (w : Warning) : Warning := { w with level := .alert, lastPlay := none }

/-- An escalation changes its own entry and no other (R143). -/
theorem escalateWarning_list (k : WarnKind) (t : WarnTarget) (s : State) :
    (escalateWarning k t s).wu.list = s.wu.list.map (fun w => if isWarning k t w then escalated w else w) := by
  have h : reviewFrame (escalateWarning k t s) =
      reviewFrame (updateWarning k t escalated s) := by
    unfold escalateWarning
    rw [reviewFrame_of_tableFrame (reconsiderTarget_tableFrame _ _), reviewFrame_of_tableFrame (wake_tableFrame _ _),
      notifyWarning_reviewFrame]
    rfl
  exact congrArg (fun f : AdmissionUnit × List Warning × Bool × Bool => f.2.1) h

/-- What an escalation reads beside the list: the clock, the policy and the main reset (R143, R174). -/
def escalationView (s : State) : Nat × Policy × Option ResetHold := (s.tu.clock, s.policy, s.tu.resetHold)

theorem escalateWarning_view (k : WarnKind) (t : WarnTarget) (s : State) :
    escalationView (escalateWarning k t s) = escalationView s :=
  besideFaults_field escalationView (escalateWarning_besideFaults k t s) fun _ => rfl

theorem isWarning_iff {k : WarnKind} {t : WarnTarget} {w : Warning} : isWarning k t w = true ↔ (w.kind, w.target) = (k, t) := by
  simp [isWarning, Prod.ext_iff]

/-- In a list without two entries of one pair, the search for an entry's pair finds it (R138). -/
theorem find_isWarning {xs : List Warning} (hn : (xs.map (fun w => (w.kind, w.target))).Nodup) {w : Warning} (hw : w ∈ xs) :
    xs.find? (isWarning w.kind w.target) = some w := by
  cases e : xs.find? (isWarning w.kind w.target) with
  | none => exact absurd (isWarning_iff.2 rfl) (List.find?_eq_none.1 e w hw)
  | some y =>
    have hy := List.mem_of_find?_eq_some e
    have hp := isWarning_iff.1 (List.find?_some e)
    exact congrArg some (List.inj_on_of_nodup_map hn hy hw hp)

theorem reach_of_le {t : Nat} (h : t ≤ s.tu.clock) : reach t s = s := by
  unfold reach; rw [Nat.max_eq_left h]

/-- One entry tested at a change of P60, as the event of its time (R143). -/
theorem escalation_step {w : Warning} (hr : Running s) (hw : findWarning w.kind w.target s = some w) :
    (if escalationDue s w then escalateWarning w.kind w.target s else s) =
      if w.raisedAt + 1000000 * s.policy.p60 ≤ s.tu.clock then after (.escalation w.kind w.target) s else s := by
  have hs : 1000000 * s.policy.p60 = secs s.policy.p60 := Nat.mul_comm _ _
  have hafter : after (.escalation w.kind w.target) s = escalation w.kind w.target s := after_running hr rfl
  rw [hafter, hs]
  by_cases ht : w.raisedAt + secs s.policy.p60 ≤ s.tu.clock
  · have hd : escalationDue s w = (!w.acked && w.level == .notice && escalatesByTime w.kind) := by
      unfold escalationDue
      rw [decide_eq_true ht, Bool.and_true]
    rw [if_pos ht, hd]
    unfold escalation
    rw [hw]; dsimp only
    rw [reach_of_le ht]
  · have hd : escalationDue s w = false := by
      unfold escalationDue
      rw [decide_eq_false ht, Bool.and_false]
    rw [if_neg ht, hd]
    exact if_neg nofun

/-- The escalations of a list, one after another: `rest` still stands in the state's own list, under distinct pairs. -/
theorem escalations_eq {new : Nat} {clock : Nat} (rest : List Warning) (y : State) (hr : Running y)
    (hp : y.policy.p60 = new) (hc : y.tu.clock = clock) (hn : (y.wu.list.map (fun w => (w.kind, w.target))).Nodup)
    (hd : rest.Pairwise (fun a b => (a.kind, a.target) ≠ (b.kind, b.target))) (hm : ∀ w ∈ rest, w ∈ y.wu.list) :
    rest.foldl (fun s w => if escalationDue s w then escalateWarning w.kind w.target s else s) y =
      rest.foldl (fun y w => if w.raisedAt + 1000000 * new ≤ clock then after (.escalation w.kind w.target) y else y) y := by
  induction rest generalizing y with
  | nil => rfl
  | cons w rest ih =>
    have hw : findWarning w.kind w.target y = some w := find_isWarning hn (hm w List.mem_cons_self)
    have hstep := escalation_step hr hw
    rw [hp, hc] at hstep
    rw [List.foldl_cons, List.foldl_cons, ← hstep]
    obtain ⟨hdw, hdr⟩ := List.pairwise_cons.1 hd
    split
    · have hview := escalateWarning_view w.kind w.target y
      simp only [escalationView, Prod.mk.injEq] at hview
      obtain ⟨hclock, hpolicy, hreset⟩ := hview
      refine ih _ (hreset.trans hr) (by rw [hpolicy]; exact hp) (hclock.trans hc) ?_ hdr fun x hx => ?_
      · rw [escalateWarning_list, List.map_map]
        refine (congrArg List.Nodup (List.map_congr_left fun x _ => ?_)).mpr hn
        show (_ : WarnKind × WarnTarget) = _
        dsimp only [Function.comp]
        split <;> rfl
      · rw [escalateWarning_list]
        refine List.mem_map.2 ⟨x, hm x (List.mem_cons_of_mem _ hx), if_neg ?_⟩
        rw [isWarning_iff]
        exact fun e => hdw x hx e.symm
    · exact ih _ hr hp hc hn hdr fun x hx => hm x (List.mem_cons_of_mem _ hx)

theorem applyEscalation_eq {new : Nat} (hr : Running s) (hp : s.policy.p60 = new) (hn : WarningsDistinct s) :
    applyEscalation s = s.wu.list.foldl (fun y w =>
      if w.raisedAt + 1000000 * new ≤ s.tu.clock then after (.escalation w.kind w.target) y else y) s :=
  escalations_eq _ s hr hp rfl hn (List.pairwise_map.1 hn) fun _ hw => hw

end
end Sys2Proof.Machine

namespace Sys2Proof.Machine

/-! ### A change of P59: the records (R121, R136) -/

theorem effectiveClass_eq (p59 : Nat) (moving : Bool) (a : Activity) :
    effectiveClass p59 moving a = classOf p59 moving a := by
  unfold classOf
  cases a
  case rest =>
    have h : (moving && !movingRestCounts p59) = true ↔ Activity.rest = .rest ∧ moving = true ∧ p59 % 2 = 0 := by
      rcases Nat.mod_two_eq_zero_or_one p59 with h | h <;> simp [movingRestCounts, h]
    exact if_congr h rfl rfl
  all_goals exact (if_neg (by simp)).symm

theorem feedsBreak_eq (p59 : Nat) (c : Activity) : feedsBreak p59 c = breakFed p59 c := by
  cases c <;> simp [feedsBreak, breakFed, availableCounts]

/-- The break segment after a class change, as the record keeps it (R121, R123). -/
theorem endBreak_eq (p : Policy) (fed feeds : Bool) (r : Identity) :
    (if fed && !feeds then endBreak p r else (r, false)).1 = breakJudged p fed feeds r := by
  unfold breakJudged endBreak
  split
  · have h : (r.firstPart || (!r.breakQualified && !r.firstPart && decide (p.p52 * 60 ≤ r.breakSeg))) =
        (r.firstPart || (!r.breakQualified && decide (p.p52 * 60 ≤ r.breakSeg))) := by
      cases r.firstPart <;> simp
    dsimp only
    rw [h]
  · rfl

/-- The rest segment after a leaving of REST without a report (R125). -/
theorem restEnded_eq (p : Policy) (t : RtcTime) (bound : Bool) (target : ShortTarget) (w : Identity) :
    restEnded t target (judgeRest p false bound w) w = restJudged p t false target w := by
  unfold restJudged judgeRest
  by_cases h1 : w.restRegular = true
  · simp [h1, restEnded]
  · by_cases h2 : p.p55 * 60 ≤ w.restSeg ∧ w.reducedUsed < p.p56
    · simp [h1, h2, restEnded]
    · simp [h1, h2, restEnded]

/-! ### What the hearing of a record leaves of RM -/

theorem handCond_rm (k : WarnKind) (v : WarnLevel) (i : Fin 4) (was is : Bool) (s : State) :
    (handCond k v i was is s).rm = s.rm := by
  unfold handCond; (repeat' split)
  · exact besideFaults_rm (removeWarning_besideFaults _ _ _)
  · exact besideFaults_rm (raiseWarning_besideFaults _ _ _ _)
  · rfl

theorem endShort_rm (i : Fin 4) (c : Option (Bool × ShortTarget)) (s : State) : (endShort i c s).rm = s.rm := by
  unfold endShort; split
  · rfl
  · exact besideFaults_rm (removeWarning_besideFaults _ _ _)

theorem tellNews_rm (i : Fin 4) (r : Identity) (n : RestNews) (s : State) : (tellNews i r n s).rm = s.rm := by
  unfold tellNews; dsimp only; (repeat' split) <;> simp [endShort_rm]

theorem tellVerdict_rm (i : Fin 4) (r : Identity) (t : ShortTarget) (v : RestVerdict) (s : State) :
    (tellVerdict i r t v s).rm = s.rm := by
  unfold tellVerdict; split
  · rfl
  · simp [endShort_rm]
  · rw [besideFaults_rm (raiseWarning_besideFaults _ _ _ _), endShort_rm]

/-- The records, the rests and the moving flag (R114, R122). -/
def restView (s : State) : Vector (Option Identity) 4 × PerBunk (Option BunkRest) × Bool :=
  (s.rm.recs, s.rm.rests, s.rm.moving)

theorem evaluateConds_restView (i : Fin 4) (s : State) : restView (evaluateConds i s) = restView s := by
  unfold restView evaluateConds
  simp [handCond_rm]

/-- What a record's judgement reads beside the record. -/
def judgeEnv (s : State) : PerBunk (Option BunkRest) × Bool × Policy × RtcTime :=
  (s.rm.rests, s.rm.moving, s.policy, now s)

/-- Each record of a list goes through its step, and a step touches its own record alone. -/
theorem foldl_records {step : State → Fin 4 → State} {e : PerBunk (Option BunkRest) × Bool × Policy × RtcTime}
    {g : Fin 4 → Identity → Identity} (henv : ∀ s i, judgeEnv (step s i) = judgeEnv s)
    (hrec : ∀ s i j, judgeEnv s = e → record j (step s i) = if j = i then (record j s).map (g j) else record j s)
    (j : Fin 4) : ∀ {xs : List (Fin 4)}, xs.Nodup → ∀ s, judgeEnv s = e →
      record j (xs.foldl step s) = if j ∈ xs then (record j s).map (g j) else record j s
  | [], _, _, _ => (if_neg List.not_mem_nil).symm
  | i :: xs, hn, s, hs => by
    obtain ⟨hi, hn⟩ := List.nodup_cons.1 hn
    have ih := foldl_records henv hrec j hn (step s i) ((henv s i).trans hs)
    rw [List.foldl_cons, ih, hrec s i j hs]
    by_cases hj : j = i
    · subst hj
      simp [hi]
    · simp [hj]

theorem mem_allRecords (i : Fin 4) : i ∈ allRecords := by fin_cases i <;> decide

/-! ### Accumulation (R119) -/

theorem judgeEnv_of {s t : State} (hb : besideRests t = besideRests s) (hr : t.rm.rests = s.rm.rests)
    (hm : t.rm.moving = s.rm.moving) : judgeEnv t = judgeEnv s := by
  have hp := besideRests_policy hb
  have hn : now t = now s := besideRests_field now hb fun _ => rfl
  unfold judgeEnv
  rw [hr, hm, hp, hn]

theorem accumulate_restView {i : Fin 4} {t : RtcTime} {s : State} {r : Identity} (h : record i s = some r) :
    restView (accumulate i t s) = restView (setRecord i (some (accumulated s.policy s.rm.moving t r).1) s) := by
  unfold accumulate
  rw [h]; dsimp only
  rw [evaluateConds_restView]
  unfold restView
  rw [tellNews_rm]

theorem accumulate_judgeEnv (i : Fin 4) (t : RtcTime) (s : State) : judgeEnv (accumulate i t s) = judgeEnv s := by
  cases h : record i s with
  | none => unfold accumulate; rw [h]
  | some r =>
    have hv := accumulate_restView (t := t) h
    exact judgeEnv_of (accumulate_besideRests i t s) (congrArg (·.2.1) hv) (congrArg (·.2.2) hv)

theorem record_of_restView {s t : State} (h : restView t = restView s) (j : Fin 4) : record j t = record j s :=
  congrArg (fun v : Vector (Option Identity) 4 × PerBunk (Option BunkRest) × Bool => v.1[j]) h

theorem record_setRecord (i j : Fin 4) (r : Option Identity) (s : State) :
    record j (setRecord i r s) = if j = i then r else record j s := by
  split
  · next h => subst h; exact record_setRecord_self _ _ _
  · next h => exact record_setRecord_ne h _ _

theorem accumulate_record (i j : Fin 4) (t : RtcTime) (s : State) : record j (accumulate i t s) =
    if j = i then (record j s).map (fun r => (accumulated s.policy s.rm.moving t r).1) else record j s := by
  cases h : record i s with
  | none =>
    have e : accumulate i t s = s := by unfold accumulate; rw [h]
    rw [e]
    split
    · next hj => subst hj; rw [h]; rfl
    · rfl
  | some r =>
    rw [record_of_restView (accumulate_restView h), record_setRecord]
    split
    · next hj => subst hj; rw [h]; rfl
    · rfl

/-- Every record is accumulated, each on its own (R119). -/
theorem accumulateAll_record (t : RtcTime) (s : State) (j : Fin 4) :
    record j (accumulateAll t s) = (record j s).map (fun r => (accumulated s.policy s.rm.moving t r).1) := by
  have h := foldl_records (step := fun s i => accumulate i t s) (e := judgeEnv s)
    (g := fun _ r => (accumulated s.policy s.rm.moving t r).1) (fun x i => accumulate_judgeEnv i t x)
    (fun x i k hx => by
      simp only [judgeEnv, Prod.mk.injEq] at hx
      obtain ⟨-, hm, hp, -⟩ := hx
      rw [accumulate_record, hp, hm])
    j (xs := allRecords) (by decide) s rfl
  rw [if_pos (mem_allRecords j)] at h
  exact h

theorem accumulateAll_judgeEnv (t : RtcTime) (s : State) : judgeEnv (accumulateAll t s) = judgeEnv s :=
  foldl_keeps judgeEnv _ (fun x i => accumulate_judgeEnv i t x) _ s

end Sys2Proof.Machine

namespace Sys2Proof.Machine

/-! ### The change of the classes at P59 (R121, R125, R136) -/

theorem setRecord_setRecord (i : Fin 4) (a b : Option Identity) (s : State) :
    setRecord i b (setRecord i a s) = setRecord i b s := by
  unfold setRecord
  simp

/-- The end of a rest segment without a report, and its news (R125). -/
theorem tellVerdict_restJudged (i : Fin 4) (w : Identity) (s : State) :
    (tellVerdict i w (shortAim i s) (judgeRest s.policy false (boundBunk i s).isSome w)
      (setRecord i (some (restEnded (now s) (shortAim i s) (judgeRest s.policy false (boundBunk i s).isSome w) w))
        (setRecord i (some w) s))).rm =
      (setRecord i (some (restJudged s.policy (now s) false (shortAim i s) w)) s).rm := by
  rw [tellVerdict_rm, setRecord_setRecord, restEnded_eq]

section
variable {i : Fin 4} {o : Nat} {s : State} {r : Identity}

/-- A change of class writes its record as `reclassed` says, and no other record and no rest (R121). -/
theorem changeClass_restView (h : record i s = some r) :
    restView (changeClass i false o s.policy.p59 (effectiveClass o s.rm.moving r.activity)
      (effectiveClass s.policy.p59 s.rm.moving r.activity) s) =
    restView (setRecord i
      (some (reclassed s.policy o s.rm.moving s.rm.moving (now s) (shortAim i s) r)) s) := by
  rw [effectiveClass_eq, effectiveClass_eq]
  unfold changeClass
  rw [h]; dsimp only
  rw [evaluateConds_restView, feedsBreak_eq, feedsBreak_eq]
  unfold reclassed; dsimp only
  rw [← endBreak_eq]
  generalize (if breakFed o (classOf o s.rm.moving r.activity) &&
    !breakFed s.policy.p59 (classOf s.policy.p59 s.rm.moving r.activity) then endBreak s.policy r else (r, false)) = b
  have hy : (if b.2 = true then notify .v .account s else s) = { s with
      portV := (if b.2 = true then notify .v .account s else s).portV } := by
    split <;> rfl
  generalize (if b.2 = true then notify .v .account s else s) = y at hy
  generalize y.portV = q at hy
  subst hy
  refine congrArg (fun x : RestMonitor => (x.recs, x.rests, x.moving)) ?_
  simp only [Bool.and_eq_true, beq_iff_eq, bne_iff_ne]
  split
  · exact tellVerdict_restJudged i b.1 { s with portV := q }
  · rfl

end

/-- One record's part in a change of P59. -/
def reclassRecord (old : Nat) (s : State) (i : Fin 4) : State :=
  match record i s with
  | none => s
  | some r => changeClass i false old s.policy.p59 (effectiveClass old s.rm.moving r.activity)
      (effectiveClass s.policy.p59 s.rm.moving r.activity) s

theorem applySettings_eq (old : Nat) (s : State) : applySettings old s = allRecords.foldl (reclassRecord old) s := rfl

theorem reclassRecord_none {old : Nat} {s : State} {i : Fin 4} (h : record i s = none) : reclassRecord old s i = s := by
  unfold reclassRecord; rw [h]

theorem reclassRecord_restView {old : Nat} {s : State} {i : Fin 4} {r : Identity} (h : record i s = some r) :
    restView (reclassRecord old s i) = restView (setRecord i
      (some (reclassed s.policy old s.rm.moving s.rm.moving (now s) (shortAim i s) r)) s) := by
  have e : reclassRecord old s i = changeClass i false old s.policy.p59 (effectiveClass old s.rm.moving r.activity)
      (effectiveClass s.policy.p59 s.rm.moving r.activity) s := by
    unfold reclassRecord; rw [h]
  rw [e, changeClass_restView h]

theorem reclassRecord_besideRests (old : Nat) (s : State) (i : Fin 4) :
    besideRests (reclassRecord old s i) = besideRests s := by
  unfold reclassRecord; split <;> simp

theorem reclassRecord_judgeEnv (old : Nat) (s : State) (i : Fin 4) :
    judgeEnv (reclassRecord old s i) = judgeEnv s := by
  cases h : record i s with
  | none => rw [reclassRecord_none h]
  | some r =>
    have hv := reclassRecord_restView (old := old) h
    exact judgeEnv_of (reclassRecord_besideRests old s i) (congrArg (·.2.1) hv) (congrArg (·.2.2) hv)

theorem reclassRecord_record (old : Nat) (i j : Fin 4) (s : State) : record j (reclassRecord old s i) =
    if j = i then (record j s).map
      (reclassed s.policy old s.rm.moving s.rm.moving (now s) (shortAim j s)) else record j s := by
  cases h : record i s with
  | none =>
    rw [reclassRecord_none h]
    split
    · next hj => subst hj; rw [h]; rfl
    · rfl
  | some r =>
    rw [record_of_restView (reclassRecord_restView h), record_setRecord]
    split
    · next hj => subst hj; rw [h]; rfl
    · rfl

theorem shortAim_of_rests {s x : State} (h : x.rm.rests = s.rm.rests) (i : Fin 4) : shortAim i x = shortAim i s := by
  unfold shortAim boundBunk
  rw [h]

/-- At a change of P59 each record changes its class on its own (R121, R136). -/
theorem applySettings_record (old : Nat) (s : State) (j : Fin 4) : record j (applySettings old s) =
    (record j s).map (reclassed s.policy old s.rm.moving s.rm.moving (now s) (shortAim j s)) := by
  have h := foldl_records (step := reclassRecord old) (e := judgeEnv s)
    (g := fun k r => reclassed s.policy old s.rm.moving s.rm.moving (now s) (shortAim k s) r)
    (fun x i => reclassRecord_judgeEnv old x i)
    (fun x i k hx => by
      simp only [judgeEnv, Prod.mk.injEq] at hx
      obtain ⟨hr, hm, hp, hn⟩ := hx
      rw [reclassRecord_record, hp, hm, hn, shortAim_of_rests hr])
    j (xs := allRecords) (by decide) s rfl
  rw [applySettings_eq, h, if_pos (mem_allRecords j)]

theorem applySettings_judgeEnv (old : Nat) (s : State) : judgeEnv (applySettings old s) = judgeEnv s :=
  foldl_keeps judgeEnv _ (fun x i => reclassRecord_judgeEnv old x i) _ s

theorem record_withPolicy (i : Fin 4) (p : Policy) (s : State) : record i { s with policy := p } = record i s := rfl

/-- P59: every record is accumulated under the old settings and then changes its class (R121, R136). -/
theorem changeItem_settings (old new : Nat) (s : State) : (changeItem 59 old new s).rm.rests = s.rm.rests ∧
    ∀ i : Fin 4, record i (changeItem 59 old new s) = (record i s).map (fun r =>
      reclassed (storeItem 59 new s.policy) old s.rm.moving s.rm.moving (now s) (shortAim i s)
        (accumulated s.policy s.rm.moving (now s) r).1) := by
  have henv := accumulateAll_judgeEnv (now s) s
  simp only [judgeEnv, Prod.mk.injEq] at henv
  obtain ⟨hr, hm, hp, hn⟩ := henv
  have e : changeItem 59 old new s = applySettings old (storedAt 59 new s) := rfl
  have hst : storedAt 59 new s = { accumulateAll (now s) s with policy := storeItem 59 new s.policy } := by
    unfold storedAt
    rw [if_pos rfl, hp]
  have hrests : (storedAt 59 new s).rm.rests = s.rm.rests := by rw [hst, ← hr]
  have hpolicy : (storedAt 59 new s).policy = storeItem 59 new s.policy := by rw [hst]
  have hmoving : (storedAt 59 new s).rm.moving = s.rm.moving := by rw [hst, ← hm]
  have hnow : now (storedAt 59 new s) = now s := by rw [hst]; exact hn
  have hrec : ∀ i, record i (storedAt 59 new s) =
      (record i s).map (fun r => (accumulated s.policy s.rm.moving (now s) r).1) := fun i => by
    rw [hst, record_withPolicy, accumulateAll_record]
  have hkept := applySettings_judgeEnv old (storedAt 59 new s)
  simp only [judgeEnv, Prod.mk.injEq] at hkept
  rw [e]
  refine ⟨hkept.1.trans hrests, fun i => ?_⟩
  rw [applySettings_record, hrec, Option.map_map, hpolicy, hmoving, hnow, shortAim_of_rests hrests]
  rfl

end Sys2Proof.Machine

namespace Sys2Proof.Machine

/-! ### What a changed item sets off (R8, R44 to R46, R81, R101, R102, R131, R141, R143, R150) -/

/-- The state with an item stored. -/
abbrev withItem (id new : Nat) (s : State) : State := { s with policy := storeItem id new s.policy }

theorem changeItem_stored {id : Nat} (h : id ≠ 59) (old new : Nat) (s : State) :
    changeItem id old new s = applyItem id old (withItem id new s) := by
  rw [changeItem_eq]
  unfold storedAt
  rw [if_neg h]

theorem applyItem_revalidate {id : Nat} (h : id ∈ [2, 3, 13, 14, 15, 16, 17, 18, 19, 20, 21, 30, 31, 32, 33])
    (old : Nat) (s : State) : applyItem id old s = revalidate s := by
  fin_cases h <;> rfl

theorem applyItem_caps {id : Nat} (h : id ∈ [23, 24]) (old : Nat) (s : State) : applyItem id old s = applyCaps s := by
  fin_cases h <;> rfl

theorem applyItem_rate {id : Nat} (h : id ∈ [40, 42, 43, 44]) (old : Nat) (s : State) :
    applyItem id old s = applyRate id s := by
  fin_cases h <;> rfl

theorem applyItem_idle {id : Nat}
    (h : id ∈ [4, 5, 6, 7, 10, 11, 12, 34, 35, 41, 45, 46, 50, 52, 53, 55, 56, 57, 58, 63, 64])
    (old : Nat) (s : State) : applyItem id old s = s := by
  fin_cases h <;> rfl

theorem not_settings_of_mem {id : Nat} {l : List Nat} (h : id ∈ l) (hl : 59 ∉ l) : id ≠ 59 :=
  fun e => hl (e ▸ h)

theorem clampItem_rate_le (p : Policy) (v : Nat) : clampItem p 40 v ≤ 3 :=
  max_le (Nat.zero_le _) (min_le_left _ _)

section
variable {id : Nat} (old new : Nat) (s : State)

theorem changeItem_capacity (h : id = 1) : changeItem id old new s = revalidate { withItem id new s with
    policy := { (withItem id new s).policy with p02 := min s.policy.p02 (new / 2) }
    cm := if new < s.cm.q then { s.cm with q := new, r := 0 } else s.cm } := by
  subst h
  rw [changeItem_stored (by decide)]
  exact congrArg revalidate (applyCapacity_eq (withItem 1 new s))

theorem changeItem_revalidate (h : id ∈ [2, 3, 13, 14, 15, 16, 17, 18, 19, 20, 21, 30, 31, 32, 33]) :
    changeItem id old new s = revalidate (withItem id new s) := by
  rw [changeItem_stored (not_settings_of_mem h (by decide)), applyItem_revalidate h]

theorem changeItem_caps (h : id ∈ [23, 24]) : changeItem id old new s = applyCaps (withItem id new s) := by
  rw [changeItem_stored (not_settings_of_mem h (by decide)), applyItem_caps h]

theorem changeItem_stage (h : id = 36) : changeItem id old new s = lowerStage (withItem id new s) := by
  subst h; rw [changeItem_stored (by decide)]; rfl

theorem changeItem_quiet (h : id = 37) :
    changeItem id old new s = reconcilePrewarm (quietTold (withItem id new s)) := by
  subst h; rw [changeItem_stored (by decide)]; rfl

theorem changeItem_rate (h : id = 40) (hn : new ≤ 3) (hr : Running s) : changeItem id old new s =
    if (if new = 0 then s.cs.mode else if new = 1 then RateMode.normal else if new = 2 then .warm else .cool) = s.cs.mode
    then withItem id new s
    else dueReformed { withItem id new s with cs.mode :=
      if new = 0 then s.cs.mode else if new = 1 then RateMode.normal else if new = 2 then .warm else .cool } := by
  subst h
  rw [changeItem_stored (by decide), applyItem_rate (by decide)]
  exact applyRate_fixed (s := withItem 40 new s) rfl hn hr

theorem changeItem_interval (h : id ∈ [42, 43, 44]) (hr : Running s) : changeItem id old new s =
    if id = (match s.cs.mode with | .normal => 42 | .warm => 43 | .cool => 44) then dueReformed (withItem id new s)
    else withItem id new s := by
  rw [changeItem_stored (not_settings_of_mem h (by decide)), applyItem_rate (List.mem_cons_of_mem _ h)]
  exact applyRate_interval (s := withItem id new s) h hr

theorem changeItem_p51 (h : id = 51) : changeItem id old new s = { withItem id new s with
    policy := { (withItem id new s).policy with p52 := min s.policy.p52 (new - 5) } } := by
  subst h; rw [changeItem_stored (by decide)]; rfl

theorem changeItem_p54 (h : id = 54) : changeItem id old new s = { withItem id new s with
    policy := { (withItem id new s).policy with p55 := min s.policy.p55 new } } := by
  subst h; rw [changeItem_stored (by decide)]; rfl

theorem changeItem_escalation (h : id = 60) (hr : Running s) (hd : WarningsDistinct s) : changeItem id old new s =
    s.wu.list.foldl (fun y w =>
      if w.raisedAt + 1000000 * new ≤ s.tu.clock then after (.escalation w.kind w.target) y else y)
      (withItem id new s) := by
  subst h
  rw [changeItem_stored (by decide)]
  exact applyEscalation_eq (s := withItem 60 new s) hr rfl hd

theorem changeItem_wakes (h : id = 61) (hr : Running s) :
    changeItem id old new s = wakeTested .upper (wakeTested .lower (withItem id new s)) := by
  subst h
  rw [changeItem_stored (by decide), wakesTested_eq (s := withItem 61 new s) hr]
  rfl

theorem changeItem_sunrises (h : id = 62) :
    changeItem id old new s = reconcileSunrise .upper (reconcileSunrise .lower (withItem id new s)) := by
  subst h; rw [changeItem_stored (by decide)]; rfl

theorem changeItem_idle (h : id ∈ [4, 5, 6, 7, 10, 11, 12, 34, 35, 41, 45, 46, 50, 52, 53, 55, 56, 57, 58, 63, 64]) :
    changeItem id old new s = withItem id new s := by
  rw [changeItem_stored (not_settings_of_mem h (by decide)), applyItem_idle h]

end
end Sys2Proof.Machine

namespace Sys2Proof.Machine

/-! ### A stored change on its way to the port (R198, R205) -/

/-- The state after POLICY_SET stored a changed value. -/
def policySetState (b : Byte) (old new : Nat) (s : State) : State :=
  answer .v 0x30#8 ⟨changeItem b.toNat old new (clearReleased .v s), .ok, encNat32 new⟩

section
variable (b : Byte) (old new : Nat) (s : State)

theorem policySetState_leaves {u : State} (h : changeItem b.toNat old new (clearReleased .v s) = u) :
    besideAnswer .v (policySetState b old new s) = besideAnswer .v u :=
  (answer_besideAnswer .v 0x30#8 _).trans (congrArg (besideAnswer .v) h)

theorem policySetState_field {α : Type} (f : State → α) (hf : ∀ x, f (besideAnswer .v x) = f x) :
    f (policySetState b old new s) = f (changeItem b.toNat old new (clearReleased .v s)) :=
  answer_field .v 0x30#8 _ f hf

theorem policySetState_policy : (policySetState b old new s).policy = policyAfter b.toNat new s.policy :=
  (policySetState_field b old new s (·.policy) fun _ => rfl).trans
    (changeItem_policy b.toNat old new (clearReleased .v s))

theorem policySetState_cm (h : b.toNat ≠ 1) : (policySetState b old new s).cm = s.cm :=
  (policySetState_field b old new s (·.cm) fun _ => rfl).trans
    (changeItem_cm b.toNat old new (clearReleased .v s) h)

theorem policySetState_capacity_cm (h : b.toNat = 1) :
    (policySetState b old new s).cm = if new < s.cm.q then { s.cm with q := new, r := 0 } else s.cm := by
  refine (policySetState_field b old new s (·.cm) fun _ => rfl).trans ?_
  rw [h]
  exact changeItem_capacity_cm old new (clearReleased .v s)

theorem policySetState_frame :
    besideRests { policySetState b old new s with policy := s.policy, cm := s.cm } = besideRests s :=
  (policySetState_field b old new s (fun x => besideRests { x with policy := s.policy, cm := s.cm }) fun _ => rfl).trans
    (changeItem_frame b.toNat old new (clearReleased .v s))

theorem policySetState_settings (h : b.toNat = 59) : (policySetState b old new s).rm.rests = s.rm.rests ∧
    ∀ i : Fin 4, record i (policySetState b old new s) = (record i s).map (fun r =>
      reclassed (storeItem b.toNat new s.policy) old s.rm.moving s.rm.moving (now s) (shortAim i s)
        (accumulated s.policy s.rm.moving (now s) r).1) := by
  have hrests := policySetState_field b old new s (·.rm.rests) fun _ => rfl
  have hrecord := fun i => policySetState_field b old new s (record i) fun _ => rfl
  rw [h] at hrests hrecord ⊢
  obtain ⟨hr, hx⟩ := changeItem_settings old new (clearReleased .v s)
  exact ⟨hrests.trans hr, fun i => (hrecord i).trans (hx i)⟩

end

theorem policyAfter_p02 (new : Nat) (p : Policy) : (policyAfter 1 new p).p02 = min p.p02 (new / 2) := rfl
theorem policyAfter_p52 (new : Nat) (p : Policy) : (policyAfter 51 new p).p52 = min p.p52 (new - 5) := rfl
theorem policyAfter_p55 (new : Nat) (p : Policy) : (policyAfter 54 new p).p55 = min p.p55 new := rfl

theorem beq_two (b : Byte) : (b == 2#8) = (b.toNat == 2) := by
  rw [Bool.eq_iff_iff]
  simp [← BitVec.toNat_inj]

theorem exec_policyLock {s : State} (h : Serving .v s) :
    exec (.policyLock .v) s = .next (answered .v 0x32#8 .ok [] { s with policyLock := true }) :=
  congrArg Host.Outcome.next (serve_answered h (by decide) rfl)

/-- Settles O54: the answer and the stored item, the owners' work at a change, the policy lock and the ranges. -/
theorem policySetClampsAndLocks : Obligations.PolicySetClampsAndLocks := by
  refine ⟨fun b value s h => ⟨exec_policySet_none h, fun old hi => ?_⟩, fun s h => exec_policyLock h,
    fun p => ⟨fun x hx => by fin_cases hx <;> rfl, rfl, rfl, rfl, fun _ => policyItem?_le⟩⟩
  intro range new barred
  have hbarred : itemBarred s.policyLock b.toNat old (clampItem s.policy b.toNat value.toNat) = barred := by
    show itemBarred s.policyLock b.toNat old new = (s.policyLock && !(b == 2#8 && decide (old < new)))
    rw [beq_two]; rfl
  refine ⟨fun hb => exec_policySet_locked h hi (hbarred.trans hb),
    fun hb he => exec_policySet_same h hi (hbarred.trans hb) he, fun hb he => ?_⟩
  have hsome : (policyItem? s.policy b.toNat).isSome = true := by rw [hi]; rfl
  have hpolicy := policySetState_policy b old new s
  have hframe := policySetState_frame b old new s
  have toNat : ∀ {k : Byte}, b = k → b.toNat = k.toNat := congrArg BitVec.toNat
  refine ⟨policySetState b old new s, exec_policySet_change h hi (hbarred.trans hb) he,
    answer_Answered .v 0x30#8 _, ?_, congrArg (·.policyLock) hframe, fun j hj hd => ?_, fun e => ⟨?_, ?_, ?_⟩,
    fun e => ⟨?_, ?_⟩, fun e => ?_, fun e => ?_, fun e => ?_, hframe, fun hr => ?_⟩
  · rw [hpolicy, policyItem?_policyAfter_self hsome]
  · rw [hpolicy, policyItem?_policyAfter_ne hsome hj hd]
  · rw [policySetState_capacity_cm b old new s (toNat e)]
    split
    · next hq => exact (min_eq_right (Nat.le_of_lt hq)).symm
    · next hq => exact (min_eq_left (Nat.le_of_not_lt hq)).symm
  · intro hp
    rw [hpolicy, e]; exact (policyAfter_p02 new s.policy).trans (min_eq_left hp)
  · intro hp
    rw [hpolicy, e]; exact (policyAfter_p02 new s.policy).trans (min_eq_right (Nat.le_of_lt hp))
  · intro hq
    rw [policySetState_capacity_cm b old new s (toNat e), if_pos hq]
  · intro hq
    rw [policySetState_capacity_cm b old new s (toNat e), if_neg (Nat.not_lt.2 hq)]
  · rw [hpolicy, e]; exact policyAfter_p52 new s.policy
  · rw [hpolicy, e]; exact policyAfter_p55 new s.policy
  · exact policySetState_cm b old new s fun hx => e (BitVec.eq_of_toNat_eq hx)
  · intro x leaves
    have hrate : b = 40#8 → new ≤ 3 := fun e => by
      show clampItem s.policy b.toNat value.toNat ≤ 3
      rw [e]; exact clampItem_rate_le s.policy value.toNat
    have left : ∀ {u : State}, changeItem b.toNat old new (clearReleased .v s) = u → leaves u :=
      policySetState_leaves b old new s
    exact ⟨
      fun e => left (changeItem_capacity old new (clearReleased .v s) (toNat e)),
      fun e => left (changeItem_revalidate old new (clearReleased .v s) e),
      fun e => left (changeItem_caps old new (clearReleased .v s) e),
      fun e => left (changeItem_stage old new (clearReleased .v s) (toNat e)),
      fun e => left (changeItem_quiet old new (clearReleased .v s) (toNat e)),
      fun e => left (changeItem_rate old new (clearReleased .v s) (toNat e) (hrate e) hr),
      fun e => left (changeItem_interval old new (clearReleased .v s) e hr),
      fun e => left (changeItem_p51 old new (clearReleased .v s) (toNat e)),
      fun e => left (changeItem_p54 old new (clearReleased .v s) (toNat e)),
      fun e => policySetState_settings b old new s (toNat e),
      fun e hd => left (changeItem_escalation old new (clearReleased .v s) (toNat e) hr hd),
      fun e => left (changeItem_wakes old new (clearReleased .v s) (toNat e) hr),
      fun e => left (changeItem_sunrises old new (clearReleased .v s) (toNat e)),
      fun e => left (changeItem_idle old new (clearReleased .v s) e)⟩

end Sys2Proof.Machine

namespace Sys2Proof.Machine

/-! ## O57: the operations that leave the channels alone

The outputs are CA's, so an operation that leaves `ca` as it is keeps them (R57). -/

@[simp] theorem updateGrant_ca (l : Load) (p : Purpose) (f : Grant → Grant) (s : State) :
    (updateGrant l p f s).ca = s.ca := rfl

@[simp] theorem dropGrant_ca (l : Load) (p : Purpose) (s : State) : (dropGrant l p s).ca = s.ca := by
  unfold dropGrant; split <;> rfl

@[simp] theorem restoreGrant_ca (g : Grant) (s : State) : (restoreGrant g s).ca = s.ca := by
  unfold restoreGrant; dsimp only; split <;> rfl

@[simp] theorem internalRequest_ca (l : Load) (p : Purpose) (o : Origin) (e : Option RtcTime) (s : State) :
    (internalRequest l p o e s).ca = s.ca := by
  unfold internalRequest; split <;> rfl

@[simp] theorem placeGrant_ca (g : Grant) (s : State) : (placeGrant g s).ca = s.ca := rfl

@[simp] theorem toPhase_ca (p : HeaterPhase) (s : State) : (toPhase p s).ca = s.ca := rfl

@[simp] theorem setPending_ca (c : LockCause) (s : State) : (setPending c s).ca = s.ca := by
  unfold setPending; split <;> rfl

@[simp] theorem setFollowOn_ca (f : FollowOn) (s : State) : (setFollowOn f s).ca = s.ca := by
  unfold setFollowOn; split <;> rfl

@[simp] theorem formRamp_ca (b : Bunk) (s : State) : (formRamp b s).ca = s.ca := by
  unfold formRamp; (repeat' split) <;> rfl

@[simp] theorem cutPending_ca (s : State) : (cutPending s).ca = s.ca := by
  unfold cutPending; split <;> rfl

@[simp] theorem raiseGrant_ca (g : Grant) (s : State) : (raiseGrant s g).ca = s.ca := by
  unfold raiseGrant; (repeat' split) <;> rfl

@[simp] theorem readmitSuspended_ca (a : State × Bool) (g : Grant) : (readmitSuspended a g).1.ca = a.1.ca := by
  obtain ⟨s, b⟩ := a
  unfold readmitSuspended; dsimp only; (repeat' split) <;> rfl

@[simp] theorem shedWhile_ca (c : State → Bool) (p : Grant → Bool) (t : RtcTime) :
    ∀ (k : Nat) (a : State × Nat), (shedWhile c p t k a).1.ca = a.1.ca
  | 0, _ => rfl
  | k + 1, (s, n) => by
    unfold shedWhile
    split
    · split
      · rw [shedWhile_ca c p t k]; rfl
      · rfl
    · rfl

@[simp] theorem restoreAll_ca (s : State) : (restoreAll s).1.ca = s.ca :=
  foldl_keeps (fun a : State × Nat => a.1.ca) _ (fun a g => by split <;> simp) _ (s, 0)

@[simp] theorem restoreOne_ca (h : Nat) (f : Int) (s : State) : (restoreOne h f s).1.ca = s.ca := by
  obtain e | ⟨g, -, e, -⟩ := restoreOne_cases h f s <;> simp [e]

@[simp] theorem reviewTable_ca (h : Nat) (f : Int) (s : State) : (reviewTable h f s).1.ca = s.ca := by
  unfold reviewTable; dsimp only; (repeat' split) <;> simp

@[simp] theorem settleBreach_ca (h : Nat) (f : Int) (s : State) : (settleBreach h f s).ca = s.ca := rfl

@[simp] theorem recordCause_ca (c : HoldCause) (s : State) : (recordCause c s).ca = s.ca := by
  cases c <;> rfl

@[simp] theorem notifyWarning_ca (t : WarnTarget) (s : State) : (notifyWarning t s).ca = s.ca := by
  unfold notifyWarning; dsimp only; (repeat' split) <;> simp

@[simp] theorem cutChime_ca (k : WarnKind) (t : WarnTarget) (s : State) : (cutChime k t s).ca = s.ca := by
  unfold cutChime; (repeat' split) <;> rfl

@[simp] theorem markUncertain_ca (x : Bool) (s : State) : (markUncertain x s).ca = s.ca := by
  unfold markUncertain; dsimp only; split <;> rfl

@[simp] theorem setSunrise_ca (b : Bunk) (x : SunriseState) (p : Option RtcTime) (s : State) :
    (setSunrise b x p s).ca = s.ca := rfl

@[simp] theorem setPrewarm_ca (b : Bunk) (x : PrewarmState) (s : State) : (setPrewarm b x s).ca = s.ca := by
  unfold setPrewarm; dsimp only; (repeat' split) <;> simp

@[simp] theorem releaseEntryRest_ca (b : Bunk) (s : State) : (releaseEntryRest b s).ca = s.ca := by
  unfold releaseEntryRest; (repeat' split) <;> simp

/-! ### A property of the channel array

An operation that only hands targets keeps each property of the array that a target keeps (R57, R58). -/

/-- The property holds of the channel array. -/
def ArrayHas (P : ChannelArray → Prop) (s : State) : Prop := P s.ca

/-- A driver's target keeps the property. -/
def TargetKeeps (P : ChannelArray → Prop) : Prop :=
  ∀ (n : Fin 12) (target t : Nat) (a : ChannelArray), P a →
    P { a with chans := a.chans.set n (targetChannel n target t a.chans[n]) }

/-- The property holds of every channel of the array. -/
def EveryChan (Q : Channel → Prop) (a : ChannelArray) : Prop := ∀ n : Fin 12, Q a.chans[n]

theorem arrayHas_everyChan {Q : Channel → Prop} {s : State} : ArrayHas (EveryChan Q) s ↔ ∀ n : Fin 12, Q (chan n s) :=
  Iff.rfl

section
variable {P : ChannelArray → Prop} {Q : Channel → Prop} {s t : State}

theorem ArrayHas.of_ca (h : ArrayHas P s) (e : t.ca = s.ca) : ArrayHas P t := by
  unfold ArrayHas; rw [e]; exact h

theorem ArrayHas.ite {c : Prop} [Decidable c] (hs : ArrayHas P s) (ht : ArrayHas P t) :
    ArrayHas P (if c then s else t) := by
  split
  · exact hs
  · exact ht

theorem ArrayHas.setChan {n : Fin 12} {c : Channel} (h : ArrayHas (EveryChan Q) s) (hc : Q c) :
    ArrayHas (EveryChan Q) (setChan n c s) := by
  refine arrayHas_everyChan.2 fun m => ?_
  by_cases e : m = n
  · subst e; rw [chan_setChan_self]; exact hc
  · rw [chan_setChan_ne e]; exact h m

/-- What a target keeps of one channel it keeps of them all. -/
theorem everyChan_targetKeeps (hQ : ∀ (n : Fin 12) (target t : Nat) (c : Channel), Q c → Q (targetChannel n target t c)) :
    TargetKeeps (EveryChan Q) := by
  intro n target t a h m
  by_cases e : n = m
  · subst e
    simpa using hQ n target t _ (h n)
  · have : n.val ≠ m.val := fun x => e (Fin.ext x)
    simpa [this] using h m

end

/-! ### What R57 asks of a channel -/

/-- In OFF, TRIPPED or LOCKED a channel does not drive (R57). -/
def DarkWhenIdle (c : Channel) : Prop :=
  c.state = .off ∨ c.state = .tripped ∨ c.state = .locked → c.output = 0

abbrev AllDark : ChannelArray → Prop := EveryChan DarkWhenIdle

theorem outputsOff_iff (s : State) : OutputsOff s ↔ ArrayHas AllDark s := Iff.rfl

section
variable {c : Channel}

theorem darkWhenIdle_of_dark (h : c.output = 0) : DarkWhenIdle c := fun _ => h

/-- A channel that is STARTING, ON or in TEST may drive. -/
theorem darkWhenIdle_of_active (h : c.state = .starting ∨ c.state = .on ∨ c.state = .test) : DarkWhenIdle c := by
  intro idle
  rcases h with h | h | h <;> simp [h] at idle

/-- A channel that keeps its state and its output keeps to R57. -/
theorem DarkWhenIdle.of_same {d : Channel} (h : DarkWhenIdle c) (hs : d.state = c.state) (ho : d.output = c.output) :
    DarkWhenIdle d := by
  unfold DarkWhenIdle; rw [hs, ho]; exact h

theorem enterStarting_dark (n : Fin 12) (t : Nat) (c : Channel) : DarkWhenIdle (enterStarting n t c) :=
  darkWhenIdle_of_active (.inl rfl)

/-- A target takes a channel to OFF with its output off, to STARTING, or leaves its state and, where it idles, its output. -/
theorem targetChannel_dark (n : Fin 12) (k t : Nat) (c : Channel) (h : DarkWhenIdle c) :
    DarkWhenIdle (targetChannel n k t c) := by
  have driving : c.state = .starting ∨ c.state = .on →
      DarkWhenIdle (if k = 0 then enterOff c else if k = c.target then c
        else if isFaded n then { c with target := k, fadeAt := t }
        else if n.val = 2 then { c with target := k } else { c with target := k, output := driveLevel n k }) := by
    intro e
    have e' : c.state = .starting ∨ c.state = .on ∨ c.state = .test := e.imp_right .inl
    (repeat' split)
    · exact darkWhenIdle_of_dark rfl
    · exact h
    all_goals exact darkWhenIdle_of_active e'
  unfold targetChannel; split
  case h_1 =>
    split
    · exact h.of_same rfl rfl
    · exact enterStarting_dark _ _ _
  case h_2 e => exact driving (.inl e)
  case h_3 e => exact driving (.inr e)
  all_goals exact h.of_same rfl rfl

theorem allDark_targetKeeps : TargetKeeps AllDark := everyChan_targetKeeps targetChannel_dark

theorem startFromTarget_dark (n : Fin 12) (t : Nat) (h : DarkWhenIdle c) : DarkWhenIdle (startFromTarget n t c) := by
  unfold startFromTarget; split
  · exact enterStarting_dark _ _ _
  · exact h

end

/-! ### The wiring check's driving of all channels (R69, R70) -/

theorem chan_testChannels (n m : Fin 12) (s : State) :
    chan n (testChannels m s) = { chan n s with state := .test, output := if n = m then 255 else 0 } := by
  simp [chan, testChannels]

theorem chan_endTest (n : Fin 12) (s : State) : chan n (endTest s) = { chan n s with state := .off, output := 0 } := by
  simp [chan, endTest]

theorem chan_startAllFromTargets (n : Fin 12) (s : State) :
    chan n (startAllFromTargets s) = startFromTarget n s.tu.clock (chan n s) := by
  simp [chan, startAllFromTargets]

theorem testChannels_dark (m : Fin 12) (s : State) : ArrayHas AllDark (testChannels m s) :=
  arrayHas_everyChan.2 fun n => darkWhenIdle_of_active (by rw [chan_testChannels]; exact .inr (.inr rfl))

theorem endTest_dark (s : State) : ArrayHas AllDark (endTest s) :=
  arrayHas_everyChan.2 fun n => by rw [chan_endTest]; exact darkWhenIdle_of_dark rfl

theorem startAllFromTargets_dark {s : State} (h : ArrayHas AllDark s) : ArrayHas AllDark (startAllFromTargets s) :=
  arrayHas_everyChan.2 fun n => by rw [chan_startAllFromTargets]; exact startFromTarget_dark _ _ (h n)

end Sys2Proof.Machine

namespace Sys2Proof.Machine

/-! ## O57: the heater, the merge and the grant table's work hand channels nothing but targets (R57) -/

section
variable {P : ChannelArray → Prop} {s : State} (hP : TargetKeeps P)
include hP

/-! ### The heater (R75 to R92) -/

theorem setTarget_chans (n : Fin 12) (k : Nat) (h : ArrayHas P s) : ArrayHas P (setTarget n k s) :=
  hP n k s.tu.clock s.ca h

theorem heaterTargets_chans (glow : Bool) (fan pump : Nat) (h : ArrayHas P s) :
    ArrayHas P (heaterTargets glow fan pump s) :=
  setTarget_chans hP _ _ (setTarget_chans hP _ _ (setTarget_chans hP _ _ h))

theorem enterHeaterOff_chans (h : ArrayHas P s) : ArrayHas P (enterHeaterOff s) :=
  heaterTargets_chans hP _ _ _ (h.of_ca rfl)

theorem enterPreheat_chans (h : ArrayHas P s) : ArrayHas P (enterPreheat s) :=
  heaterTargets_chans hP _ _ _ (h.of_ca rfl)

theorem enterIgnite_chans (h : ArrayHas P s) : ArrayHas P (enterIgnite s) :=
  heaterTargets_chans hP _ _ _ (h.of_ca rfl)

theorem setStage_chans (k : Nat) (h : ArrayHas P s) : ArrayHas P (setStage k s) :=
  heaterTargets_chans hP _ _ _ (h.of_ca rfl)

theorem chooseStage_chans (h : ArrayHas P s) : ArrayHas P (chooseStage s) :=
  setStage_chans hP _ (h.of_ca rfl)

theorem lowerStage_chans (h : ArrayHas P s) : ArrayHas P (lowerStage s) := by
  unfold lowerStage; (repeat' split)
  · exact setStage_chans hP _ h
  · exact h
  · exact h

theorem enterRun_chans (h : ArrayHas P s) : ArrayHas P (enterRun s) := by
  unfold enterRun
  exact chooseStage_chans hP (h.of_ca (toPhase_ca .run s))

theorem enterPurge_chans (f : FollowOn) (force : Bool) (c : Option LockCause) (h : ArrayHas P s) :
    ArrayHas P (enterPurge f force c s) := by
  unfold enterPurge; dsimp only
  exact (heaterTargets_chans hP _ _ _ (h.of_ca rfl)).of_ca (internalRequest_ca _ _ _ _ _)

theorem enterLockout_chans (c : LockCause) (h : ArrayHas P s) : ArrayHas P (enterLockout c s) :=
  heaterTargets_chans hP _ _ _ (h.of_ca rfl)

theorem enterStandby_chans (h : ArrayHas P s) : ArrayHas P (enterStandby s) := by
  have ht : ∀ x : State, ArrayHas P x → ArrayHas P (heaterTargets false 0 0 { x with hs.activation := false }) :=
    fun _ hx => heaterTargets_chans hP _ _ _ (hx.of_ca rfl)
  have hs : ArrayHas P (toPhase .standby s) := h.of_ca (toPhase_ca _ s)
  unfold enterStandby; dsimp only; split
  · exact enterPreheat_chans hP (ht _ hs)
  · exact ht _ hs

theorem standbyRestart_chans (h : ArrayHas P s) : ArrayHas P (standbyRestart s) := by
  unfold standbyRestart; (repeat' split)
  · exact enterPreheat_chans hP h
  · exact h
  · exact h

theorem heatAppears_chans (h : ArrayHas P s) : ArrayHas P (heatAppears s) := by
  unfold heatAppears; split
  case h_1 | h_2 =>
    split
    · exact enterPreheat_chans hP h
    · exact h
  case h_3 => exact h.of_ca (setFollowOn_ca _ _)
  all_goals exact h

theorem heatVanishes_chans (h : ArrayHas P s) : ArrayHas P (heatVanishes s) := by
  unfold heatVanishes; split
  case h_4 => refine h.of_ca ((setFollowOn_ca _ _).trans ?_); split <;> rfl
  case h_5 => exact enterHeaterOff_chans hP h
  case h_6 | h_7 => exact h
  all_goals exact enterPurge_chans hP _ _ _ (h.of_ca rfl)

theorem heatChanges_chans (old : MergedHeat) (h : ArrayHas P s) : ArrayHas P (heatChanges old s) := by
  unfold heatChanges; split
  case h_1 => exact lowerStage_chans hP h
  case h_2 =>
    split
    · exact h
    · exact standbyRestart_chans hP h
  all_goals exact h

theorem handHeat_chans (h : ArrayHas P s) : ArrayHas P (handHeat s) := by
  have hm : ArrayHas P { s with hs.merged := mergedHeat s } := h.of_ca rfl
  unfold handHeat; dsimp only; (repeat' split)
  · exact h
  · exact heatAppears_chans hP hm
  · exact heatVanishes_chans hP hm
  · exact heatChanges_chans hP _ hm
  · exact hm

theorem mergeHeater_chans (h : ArrayHas P s) : ArrayHas P (mergeHeater s) :=
  handHeat_chans hP (handHeat_chans hP h)

theorem completePurge_chans (h : ArrayHas P s) : ArrayHas P (completePurge s) := by
  have hm : ArrayHas P (mergeHeater (dropGrant .heater .purge { s with hs.purgeOwed := false })) :=
    mergeHeater_chans hP (h.of_ca (dropGrant_ca _ _ _))
  unfold completePurge; dsimp only; (repeat' split)
  · exact enterLockout_chans hP _ hm
  · exact enterHeaterOff_chans hP hm
  · exact enterStandby_chans hP hm
  · exact enterPreheat_chans hP hm
  · exact enterHeaterOff_chans hP hm
  · exact hm

theorem heaterChannelLocked_chans (c : LockCause) (h : ArrayHas P s) : ArrayHas P (heaterChannelLocked c s) := by
  unfold heaterChannelLocked; split
  case h_1 | h_2 | h_3 => exact enterPurge_chans hP _ _ _ h
  case h_4 => exact h.of_ca (setPending_ca _ _)
  all_goals exact h

theorem fanLocked_chans (h : ArrayHas P s) : ArrayHas P (fanLocked s) := by
  unfold fanLocked; split
  case h_1 => exact h
  all_goals exact mergeHeater_chans hP ((enterLockout_chans hP _ h).of_ca (dropGrant_ca _ _ _))

theorem heaterLocked_chans (n : Fin 12) (h : ArrayHas P s) : ArrayHas P (heaterLocked n s) := by
  unfold heaterLocked; split
  · exact heaterChannelLocked_chans hP _ h
  · exact fanLocked_chans hP h
  · exact heaterChannelLocked_chans hP _ h
  · exact h

theorem fanUnlocked_chans (h : ArrayHas P s) : ArrayHas P (fanUnlocked s) := by
  unfold fanUnlocked; (repeat' split)
  · exact mergeHeater_chans hP (enterPurge_chans hP _ _ _ h)
  all_goals exact h

theorem flameFailed_chans (h : ArrayHas P s) : ArrayHas P (flameFailed s) := by
  unfold flameFailed; split
  case h_1 | h_2 | h_3 => exact enterPurge_chans hP _ _ _ h
  case h_4 => exact h.of_ca (setPending_ca _ _)
  case h_5 | h_6 => exact enterLockout_chans hP _ h
  case h_7 => exact h

theorem lengthenPurge_chans (h : ArrayHas P s) : ArrayHas P (lengthenPurge s) := by
  have hp : ∀ r : PurgeRun, ArrayHas P { s with hs.purge := some r } := fun _ => h.of_ca rfl
  unfold lengthenPurge; (repeat' split)
  · exact h
  · exact h
  · dsimp only
    refine ArrayHas.of_ca ?_ (updateGrant_ca _ _ _ _)
    split
    · exact setTarget_chans hP _ _ (hp _)
    · exact hp _

theorem heaterOverheats_chans (h : ArrayHas P s) : ArrayHas P (heaterOverheats s) := by
  unfold heaterOverheats; split
  case h_1 | h_2 | h_3 => exact enterPurge_chans hP _ _ _ h
  case h_4 => exact (lengthenPurge_chans hP h).of_ca (setPending_ca _ _)
  case h_5 | h_6 => exact enterLockout_chans hP _ h
  case h_7 => exact h

theorem heaterHoldEntry_chans (hold : Bool) (h : ArrayHas P s) : ArrayHas P (heaterHoldEntry hold s) := by
  unfold heaterHoldEntry; split
  case h_1 =>
    split
    · exact enterPurge_chans hP _ _ _ h
    · exact lowerStage_chans hP (h.of_ca rfl)
  case h_2 | h_3 =>
    split
    · exact enterPurge_chans hP _ _ _ h
    · exact h
  all_goals exact h

theorem clearLockoutPhase_chans (h : ArrayHas P s) : ArrayHas P (clearLockoutPhase s) := by
  unfold clearLockoutPhase
  extract_lets heater cleared follow
  have hc : ArrayHas P cleared := h.of_ca rfl
  clear_value cleared follow
  split
  case h_1 =>
    have hp := mergeHeater_chans hP (enterPurge_chans hP follow true none hc)
    have ho := enterHeaterOff_chans hP hc
    (repeat' split)
    · exact hp.of_ca (setPending_ca _ _)
    · exact hp
    · exact enterLockout_chans hP _ ho
    · exact enterPreheat_chans hP ho
    · exact ho
  case h_2 =>
    split
    · exact hc.of_ca ((setPending_ca _ _).trans (setFollowOn_ca _ _))
    · exact hc.of_ca (setFollowOn_ca _ _)
  all_goals exact hc

/-! ### The merge (R51, R52, R109) -/

theorem mergeLoad_chans (l : Load) (h : ArrayHas P s) : ArrayHas P (mergeLoad l s) := by
  have hz : ∀ b, ArrayHas P (formRamp b (syncFlash b s)) := fun b => h.of_ca (formRamp_ca b _)
  cases l
  case heater => exact mergeHeater_chans hP h
  case fridge => exact h.of_ca (cutPending_ca s)
  case zoneLower => exact setTarget_chans hP 4 _ (hz .lower)
  case zoneUpper => exact setTarget_chans hP 5 _ (hz .upper)
  all_goals exact setTarget_chans hP _ _ h

theorem mergeLoads_chans (ls : List Load) (h : ArrayHas P s) : ArrayHas P (mergeLoads ls s) :=
  foldl_preserves (ArrayHas P) (fun _ l h => mergeLoad_chans hP l h) ls h

theorem mergeAll_chans (h : ArrayHas P s) : ArrayHas P (mergeAll s) := mergeLoads_chans hP _ h

theorem fridgeLocked_chans (h : ArrayHas P s) : ArrayHas P (fridgeLocked s) := by
  unfold fridgeLocked; split
  · exact h
  · exact setTarget_chans hP _ _ (h.of_ca rfl)

/-! ### Admission, shedding and the review (R32 to R50) -/

theorem withdraw_chans (l : Load) (p : Purpose) (h : ArrayHas P s) : ArrayHas P (withdraw l p s) := by
  unfold withdraw; split
  · exact h
  · exact mergeLoad_chans hP l (h.of_ca (dropGrant_ca l p s))

theorem accept_chans (g : Grant) (st : Status) (h : ArrayHas P s) : ArrayHas P (accept g st s).state :=
  mergeLoad_chans hP g.load (h.of_ca (placeGrant_ca g s))

theorem judgeAsk_chans (r : GrantAsk) (h : ArrayHas P s) : ArrayHas P (judgeAsk r s).state := by
  unfold judgeAsk; dsimp only; (repeat' split)
  · exact h
  · exact accept_chans hP _ _ h
  · exact accept_chans hP _ _ h
  · exact accept_chans hP _ _ h
  · exact h

theorem grantAsk_chans (r : GrantAsk) (h : ArrayHas P s) : ArrayHas P (grantAsk r s).state := by
  unfold grantAsk; dsimp only; (repeat' split)
  · exact withdraw_chans hP _ _ h
  · exact h
  · exact judgeAsk_chans hP r h
  · exact withdraw_chans hP _ _ h
  · exact h
  · exact judgeAsk_chans hP r h

theorem applyCaps_chans (h : ArrayHas P s) : ArrayHas P (applyCaps s) := by
  have e := foldl_keeps State.ca raiseGrant (fun s g => raiseGrant_ca g s)
  unfold applyCaps
  exact mergeLoads_chans hP _ (h.of_ca (e _ _))

theorem revalidate_chans (h : ArrayHas P s) : ArrayHas P (revalidate s) := by
  obtain ⟨T, l, q, c, e⟩ := readmitted_state s
  rw [revalidate_eq]
  refine mergeAll_chans hP (h.of_ca ?_)
  split <;> simp [e]

theorem suspendLoad_chans (l : Load) (h : ArrayHas P s) : ArrayHas P (suspendLoad l s) :=
  mergeLoad_chans hP l (h.of_ca rfl)

theorem releaseRestartable_chans (l : Load) (h : ArrayHas P s) : ArrayHas P (releaseRestartable l s) := by
  have e := foldl_keeps (fun a : State × Bool => a.1.ca) _ readmitSuspended_ca
  unfold releaseRestartable; dsimp only
  refine mergeLoad_chans hP l (h.of_ca ?_)
  split <;> simp [e]

theorem holdShed_chans (t : RtcTime) (h : ArrayHas P s) : ArrayHas P (holdShed t s) := by
  unfold holdShed; dsimp only
  refine mergeAll_chans hP (h.of_ca ?_)
  split <;> simp

theorem reviewAdmission_chans (m : Int) (h : ArrayHas P s) : ArrayHas P (reviewAdmission m s) := by
  unfold reviewAdmission; dsimp only
  refine mergeAll_chans hP (h.of_ca ?_)
  (repeat' split) <;> simp

/-! ### Faults (R62 to R64, R157 to R164) -/

theorem suspendFor_chans (r : FaultReport) (t : Bool) (h : ArrayHas P s) : ArrayHas P (suspendFor r t s) := by
  unfold suspendFor suspend; dsimp only; (repeat' split)
  · exact h
  · exact h.of_ca rfl
  · exact suspendLoad_chans hP _ (h.of_ca rfl)

theorem enterHold_chans (heater : Bool) (h : ArrayHas P s) : ArrayHas P (enterHold heater s) :=
  holdShed_chans hP _ (mergeHeater_chans hP (heaterHoldEntry_chans hP _ (h.of_ca (wake_ca _ _))))

theorem addCause_chans (c : HoldCause) (heater : Bool) (h : ArrayHas P s) : ArrayHas P (addCause c heater s) := by
  have hr : ArrayHas P (recordCause c s) := h.of_ca (recordCause_ca c s)
  unfold addCause; (repeat' split)
  · exact h
  · exact hr.of_ca rfl
  · exact enterHold_chans hP heater hr

theorem chargePathHold_chans (r : FaultReport) (h : ArrayHas P s) : ArrayHas P (chargePathHold r s) := by
  unfold chargePathHold; split
  · exact addCause_chans hP _ _ h
  · exact h

theorem takeFault_chans (r : FaultReport) (h : ArrayHas P s) : ArrayHas P (takeFault r s) := by
  unfold takeFault; (repeat' split)
  · exact chargePathHold_chans hP r (suspendFor_chans hP r true (h.of_ca (wake_ca _ _)))
  · exact chargePathHold_chans hP r (suspendFor_chans hP r false (h.of_ca rfl))
  · exact chargePathHold_chans hP r (addCause_chans hP _ _ (suspendFor_chans hP r false (h.of_ca (wake_ca _ _))))

theorem overheat_chans (h : ArrayHas P s) : ArrayHas P (overheat s) :=
  takeFault_chans hP _ (heaterOverheats_chans hP h)

end
end Sys2Proof.Machine

namespace Sys2Proof.Machine

/-! ## O57: warnings, accounts and rests hand channels nothing but targets (R57) -/

section
variable {P : ChannelArray → Prop} {s : State} (hP : TargetKeeps P)
include hP

/-! ### The Warning Unit (R138 to R149) -/

theorem reconsiderFlash_chans (b : Bunk) (h : ArrayHas P s) : ArrayHas P (reconsiderFlash b s) := by
  unfold reconsiderFlash; (repeat' split)
  · exact h
  · exact mergeLoad_chans hP _ (h.of_ca (internalRequest_ca _ _ _ _ _))
  · exact withdraw_chans hP _ _ (h.of_ca rfl)

theorem reconsiderTarget_chans (t : WarnTarget) (h : ArrayHas P s) : ArrayHas P (reconsiderTarget t s) := by
  unfold reconsiderTarget; split
  · exact reconsiderFlash_chans hP _ h
  · exact h
  · exact h

theorem raiseWarning_chans (k : WarnKind) (t : WarnTarget) (l : WarnLevel) (h : ArrayHas P s) :
    ArrayHas P (raiseWarning k t l s) := by
  unfold raiseWarning; split
  · exact h
  · exact reconsiderTarget_chans hP _ (h.of_ca (by simp))

theorem removeWarning_chans (k : WarnKind) (t : WarnTarget) (h : ArrayHas P s) :
    ArrayHas P (removeWarning k t s) := by
  unfold removeWarning; split
  · exact h
  · exact reconsiderTarget_chans hP _ (h.of_ca (by simp))

theorem escalateWarning_chans (k : WarnKind) (t : WarnTarget) (h : ArrayHas P s) :
    ArrayHas P (escalateWarning k t s) := by
  unfold escalateWarning
  exact reconsiderTarget_chans hP _ (h.of_ca (by simp [updateWarning]))

theorem markAcked_chans (k : WarnKind) (t : WarnTarget) (h : ArrayHas P s) : ArrayHas P (markAcked k t s) := by
  unfold markAcked
  exact reconsiderTarget_chans hP _ (h.of_ca (by simp [updateWarning]))

/-! ### The records (R114 to R126) -/

theorem handCond_chans (k : WarnKind) (l : WarnLevel) (i : Fin 4) (a b : Bool) (h : ArrayHas P s) :
    ArrayHas P (handCond k l i a b s) := by
  unfold handCond
  exact .ite (removeWarning_chans hP _ _ h) (.ite (raiseWarning_chans hP _ _ _ h) h)

theorem evaluateConds_chans (i : Fin 4) (h : ArrayHas P s) : ArrayHas P (evaluateConds i s) := by
  unfold evaluateConds
  exact handCond_chans hP _ _ _ _ _ (handCond_chans hP _ _ _ _ _ (handCond_chans hP _ _ _ _ _
    (handCond_chans hP _ _ _ _ _ (h.of_ca rfl))))

theorem endShort_chans (i : Fin 4) (c : Option (Bool × ShortTarget)) (h : ArrayHas P s) :
    ArrayHas P (endShort i c s) := by
  unfold endShort; split
  · exact h
  · exact removeWarning_chans hP _ _ h

theorem tellNews_chans (i : Fin 4) (r : Identity) (n : RestNews) (h : ArrayHas P s) :
    ArrayHas P (tellNews i r n s) := by
  have ha : ArrayHas P (if n.account then notify .v .account s else s) := .ite (h.of_ca (notify_ca _ _ _)) h
  unfold tellNews
  exact .ite (endShort_chans hP _ _ ha) ha

theorem accumulate_chans (i : Fin 4) (t : RtcTime) (h : ArrayHas P s) : ArrayHas P (accumulate i t s) := by
  unfold accumulate; split
  · exact h
  · exact evaluateConds_chans hP _ (tellNews_chans hP _ _ _ (h.of_ca rfl))

theorem accumulateAll_chans (t : RtcTime) (h : ArrayHas P s) : ArrayHas P (accumulateAll t s) :=
  foldl_preserves (ArrayHas P) (fun _ i h => accumulate_chans hP i t h) allRecords h

theorem tellVerdict_chans (i : Fin 4) (r : Identity) (t : ShortTarget) (v : RestVerdict) (h : ArrayHas P s) :
    ArrayHas P (tellVerdict i r t v s) := by
  unfold tellVerdict; split
  · exact h
  · exact (endShort_chans hP _ _ h).of_ca (notify_ca _ _ _)
  · exact raiseWarning_chans hP _ _ _ (endShort_chans hP _ _ h)

theorem changeClass_chans (i : Fin 4) (r : Bool) (p q : Nat) (a b : Activity) (h : ArrayHas P s) :
    ArrayHas P (changeClass i r p q a b s) := by
  have hs : ∀ (c : Bool) (x : Option Identity), ArrayHas P (setRecord i x (if c then notify .v .account s else s)) :=
    fun c x => (ArrayHas.ite (h.of_ca (notify_ca _ _ _)) h).of_ca rfl
  unfold changeClass; split
  · exact h
  · exact evaluateConds_chans hP _ (.ite (tellVerdict_chans hP _ _ _ _ ((hs _ none).of_ca rfl)) (hs _ _))

theorem changeActivity_chans (i : Fin 4) (a : Activity) (r : Bool) (h : ArrayHas P s) :
    ArrayHas P (changeActivity i a r s) := by
  unfold changeActivity; split
  · exact h
  · exact changeClass_chans hP _ _ _ _ _ _ (h.of_ca rfl)

theorem loseSlot_chans (i : Fin 4) (h : ArrayHas P s) : ArrayHas P (loseSlot i s) := by
  have ha : ArrayHas P (accumulate i (now s) s) := accumulate_chans hP i _ h
  have freed : ∀ x : State, ArrayHas P x → ArrayHas P (match record i x with
      | some r => setRecord i (some { r with slot := none }) x | none => x) := by
    intro x hx; split
    · exact hx.of_ca rfl
    · exact hx
  unfold loseSlot
  refine (evaluateConds_chans hP i (freed _ ?_)).of_ca (notify_ca _ _ _)
  split
  · exact .ite (changeActivity_chans hP _ _ _ ha) ha
  · exact ha

/-! ### Bunk rests (R127 to R133, R141, R150) -/

theorem reportQuiet_chans (h : ArrayHas P s) : ArrayHas P (reportQuiet s) := by
  unfold reportQuiet
  exact lowerStage_chans hP (applyCaps_chans hP (h.of_ca rfl))

theorem testWake_chans (b : Bunk) (h : ArrayHas P s) : ArrayHas P (testWake b s) := by
  unfold testWake; dsimp only; split
  · exact removeWarning_chans hP _ _ h
  · split
    · exact raiseWarning_chans hP _ _ _ h
    · exact .ite (escalateWarning_chans hP _ _ h) h

theorem newPlannedEnd_chans (b : Bunk) (h : ArrayHas P s) : ArrayHas P (newPlannedEnd b s) :=
  testWake_chans hP b (removeWarning_chans hP _ _ h)

theorem reconcileSunrise_clear_chans (b : Bunk) (h : ArrayHas P s) : ArrayHas P (reconcileSunrise.clear b s) :=
  (withdraw_chans hP (bunkZone b) .schedule h).of_ca rfl

theorem reconcileSunrise_place_chans (b : Bunk) (r : GrantAsk) (p : RtcTime) (h : ArrayHas P s) :
    ArrayHas P (reconcileSunrise.place b r p s) :=
  (judgeAsk_chans hP r h).of_ca rfl

theorem reconcileSunrise_chans (b : Bunk) (h : ArrayHas P s) : ArrayHas P (reconcileSunrise b s) := by
  have hc := reconcileSunrise_clear_chans hP b h
  unfold reconcileSunrise; dsimp only; split
  · exact hc
  · refine .ite hc (.ite (h.of_ca rfl) (.ite h ?_))
    split
    · exact .ite h (reconcileSunrise_place_chans hP _ _ _ h)
    · exact reconcileSunrise_place_chans hP _ _ _ h

theorem placePrewarm_chans (b : Bunk) (r : GrantAsk) (h : ArrayHas P s) : ArrayHas P (placePrewarm b r s) := by
  have hj := judgeAsk_chans hP r h
  unfold placePrewarm
  exact .ite (hj.of_ca (by simp)) (hj.of_ca (by simp))

theorem reconcilePrewarm_chans (h : ArrayHas P s) : ArrayHas P (reconcilePrewarm s) := by
  unfold reconcilePrewarm
  extract_lets holder s1 entry
  have h1 : ArrayHas P s1 := h.of_ca rfl
  clear_value s1 entry
  split
  · exact .ite h1 (.ite (h1.of_ca (by simp)) (placePrewarm_chans hP _ _ h1))
  · split
    · exact .ite h1 ((withdraw_chans hP .heater .schedule h1).of_ca rfl)
    · exact h1

theorem prewarmRemoved_chans (c : Removal) (h : ArrayHas P s) : ArrayHas P (prewarmRemoved c s) := by
  unfold prewarmRemoved
  refine reconcilePrewarm_chans hP (h.of_ca ?_)
  (repeat' split) <;> simp

theorem flashRemoved_chans (b : Bunk) (c : Removal) (h : ArrayHas P s) : ArrayHas P (flashRemoved b c s) := by
  unfold flashRemoved; split
  · exact reconsiderFlash_chans hP _ (h.of_ca rfl)
  · exact reconsiderFlash_chans hP _ h
  · exact reconsiderFlash_chans hP _ h

/-! ### Removals and releases (R49, R133, R149, R152) -/

theorem placeCooling_chans (h : ArrayHas P s) : ArrayHas P (placeCooling s) :=
  mergeLoad_chans hP .fridge (h.of_ca (internalRequest_ca _ _ _ _ _))

theorem reportRemoval_chans (l : Load) (p : Purpose) (c : Removal) (h : ArrayHas P s) :
    ArrayHas P (reportRemoval l p c s) := by
  unfold reportRemoval; split
  · exact prewarmRemoved_chans hP c h
  · exact h.of_ca rfl
  · exact h.of_ca rfl
  · exact flashRemoved_chans hP _ _ h
  · exact flashRemoved_chans hP _ _ h
  · exact .ite (placeCooling_chans hP h) h
  · exact h

theorem removeEntry_chans (l : Load) (p : Purpose) (c : Removal) (h : ArrayHas P s) :
    ArrayHas P (removeEntry l p c s) := by
  unfold removeEntry; split
  · exact h
  · exact reportRemoval_chans hP l p c (mergeLoad_chans hP l (h.of_ca (dropGrant_ca l p s)))

theorem releaseNonRestartable_chans (l : Load) (h : ArrayHas P s) : ArrayHas P (releaseNonRestartable l s) := by
  have e : ∀ gone : List Grant, (gone.foldl (fun s g => dropGrant g.load g.purpose s) s).ca = s.ca := fun gone =>
    foldl_keeps State.ca _ (fun s g => dropGrant_ca g.load g.purpose s) gone s
  unfold releaseNonRestartable
  exact foldl_preserves (ArrayHas P) (fun _ g h => reportRemoval_chans hP g.load g.purpose _ h) _
    (mergeLoad_chans hP l (h.of_ca (e _)))

theorem releaseSuspension_chans (e : Suspension) (h : ArrayHas P s) : ArrayHas P (releaseSuspension e s) := by
  unfold releaseSuspension
  exact .ite (releaseRestartable_chans hP _ (h.of_ca rfl)) (releaseNonRestartable_chans hP _ (h.of_ca rfl))

/-! ### The end of a rest, acknowledgement, SNOOZE (R129, R130, R144) -/

theorem leavePrewarm_chans (b : Bunk) (h : ArrayHas P s) : ArrayHas P (leavePrewarm b s) := by
  unfold leavePrewarm; (repeat' split)
  · exact (withdraw_chans hP .heater .schedule h).of_ca rfl
  · exact h.of_ca rfl
  · exact h.of_ca rfl
  · exact h
  · exact h

theorem endRest_chans (b : Bunk) (h : ArrayHas P s) : ArrayHas P (endRest b s) := by
  unfold endRest; split
  · exact h
  · have hq := reportQuiet_chans hP ((leavePrewarm_chans hP b h).of_ca (setRest_ca b none _))
    have hw := withdraw_chans hP (bunkZone b) .schedule (removeWarning_chans hP .wake (.bunk b) hq)
    exact (reconcilePrewarm_chans hP (hw.of_ca (setSunrise_ca b .done none _))).of_ca (notify_ca _ _ _)

theorem timeoutRest_chans (b : Bunk) (h : ArrayHas P s) : ArrayHas P (timeoutRest b s) := by
  unfold timeoutRest; split
  · exact h
  · exact .ite (endRest_chans hP b h) h

theorem ackEntry_chans (k : WarnKind) (t : WarnTarget) (h : ArrayHas P s) : ArrayHas P (ackEntry k t s) := by
  have hm := markAcked_chans hP k t h
  unfold ackEntry; dsimp only; split
  · exact endRest_chans hP _ hm
  · exact hm

theorem bunkAck_chans (b : Bunk) (h : ArrayHas P s) : ArrayHas P (bunkAck b s).1 :=
  foldl_preserves (ArrayHas P) (fun _ w h => ackEntry_chans hP w.kind w.target h) _ h

theorem tellPlannedEnd_chans (b : Bunk) (m : Bool) (h : ArrayHas P s) : ArrayHas P (tellPlannedEnd b m s) := by
  have hw : ArrayHas P (if m then newPlannedEnd b s else testWake b s) :=
    .ite (newPlannedEnd_chans hP b h) (testWake_chans hP b h)
  unfold tellPlannedEnd
  exact reconcilePrewarm_chans hP (reportQuiet_chans hP (reconcileSunrise_chans hP b hw))

theorem snoozeRest_chans (b : Bunk) (h : ArrayHas P s) : ArrayHas P (snoozeRest b s).1 := by
  have hr : ∀ r, ArrayHas P (tellPlannedEnd b true (setRest b r s)) := fun r =>
    tellPlannedEnd_chans hP b true (h.of_ca (setRest_ca b r s))
  unfold snoozeRest; (repeat' split)
  · exact h
  · exact h
  · exact h
  · exact (hr _).of_ca (notify_ca .b .account _)

end
end Sys2Proof.Machine

namespace Sys2Proof.Machine

/-! ## O57: faults of the charge path, the heater's timers, keys and requests hand channels nothing but targets (R57) -/

section
variable {P : ChannelArray → Prop} {s : State} (hP : TargetKeeps P)
include hP

/-! ### The fridge's runs (R106 to R110) -/

theorem beginRun_chans (k : RunKind) (h : ArrayHas P s) : ArrayHas P (beginRun k s) :=
  setTarget_chans hP _ _ (h.of_ca rfl)

theorem endRun_chans (h : ArrayHas P s) : ArrayHas P (endRun s) := setTarget_chans hP _ _ (h.of_ca rfl)

theorem setWarm_chans (h : ArrayHas P s) : ArrayHas P (setWarm s) := raiseWarning_chans hP _ _ _ (h.of_ca rfl)

theorem clearWarm_chans (h : ArrayHas P s) : ArrayHas P (clearWarm s) := removeWarning_chans hP _ _ (h.of_ca rfl)

theorem completeRun_chans (k : RunKind) (h : ArrayHas P s) : ArrayHas P (completeRun k s) := by
  have he : ArrayHas P (endRun { s with cs.c := completedCredit k s.cs.c }) := endRun_chans hP (h.of_ca rfl)
  unfold completeRun
  exact .ite (setWarm_chans hP he) he

theorem setFridge_chans (on : Bool) (h : ArrayHas P s) : ArrayHas P (setFridge on s) := by
  unfold setFridge; dsimp only; (repeat' split)
  · exact h
  · exact placeCooling_chans hP (h.of_ca rfl)
  · exact clearWarm_chans hP (withdraw_chans hP _ _ ((endRun_chans hP h).of_ca rfl))
  · exact clearWarm_chans hP (withdraw_chans hP _ _ (h.of_ca rfl))

theorem cabinetTemp_chans (x : TempResult) (h : ArrayHas P s) : ArrayHas P (cabinetTemp x s) := by
  unfold cabinetTemp cabinetValue cabinetFailed; dsimp only; (repeat' split)
  · exact clearWarm_chans hP (h.of_ca rfl)
  · exact h.of_ca rfl
  · exact h.of_ca rfl
  · exact takeFault_chans hP _ (clearWarm_chans hP (h.of_ca rfl))

theorem runStart_chans (h : ArrayHas P s) : ArrayHas P (runStart s) := by
  unfold runStart; (repeat' split)
  · exact beginRun_chans hP _ h
  · exact h
  · exact h

theorem runExpiry_chans (h : ArrayHas P s) : ArrayHas P (runExpiry s) := by
  unfold runExpiry; split
  · exact completeRun_chans hP _ (h.of_ca rfl)
  · exact h

/-! ### The conversion (R1 to R20) -/

omit hP in
@[simp] theorem fullDetector_ca (i : Int) (v : Nat) (s : State) : (fullDetector i v s).ca = s.ca := by
  unfold fullDetector; dsimp only; (repeat' split) <;> rfl

omit hP in
@[simp] theorem clearDetector_ca (v : Nat) (s : State) : (clearDetector v s).ca = s.ca := by
  unfold clearDetector; dsimp only; (repeat' split) <;> rfl

theorem floorDetector_chans (i : Int) (v : Nat) (h : ArrayHas P s) : ArrayHas P (floorDetector i v s) := by
  unfold floorDetector floorFires; dsimp only; (repeat' split)
  · exact h.of_ca rfl
  · exact revalidate_chans hP (h.of_ca rfl)
  · exact h.of_ca rfl
  · exact h.of_ca rfl

theorem goodSample_chans (i : Int) (v : Nat) (h : ArrayHas P s) : ArrayHas P (goodSample i v s) :=
  floorDetector_chans hP i v (h.of_ca (fullDetector_ca i v (integrateSample i s)))

theorem passedCheck_chans (i : Int) (v : Nat) (h : ArrayHas P s) : ArrayHas P (passedCheck i v s) := by
  unfold passedCheck; dsimp only; (repeat' split)
  · exact h.of_ca rfl
  · exact goodSample_chans hP i v (h.of_ca rfl)
  · exact goodSample_chans hP i v (h.of_ca rfl)

theorem failedCheck_chans (h : ArrayHas P s) : ArrayHas P (failedCheck s) := by
  unfold failedCheck; dsimp only; split
  · exact takeFault_chans hP _ (h.of_ca rfl)
  · exact h.of_ca rfl

theorem conversionAt_chans (t : Nat) (shunt volt : Int) (pass : Bool) (h : ArrayHas P s) :
    ArrayHas P (conversionAt t shunt volt pass s) := by
  unfold conversionAt; dsimp only
  refine ArrayHas.of_ca ?_ (clearDetector_ca _ _)
  exact .ite (passedCheck_chans hP _ _ (h.of_ca rfl)) (failedCheck_chans hP (h.of_ca rfl))

theorem fullDetection_chans (shunt volt : Int) (h : ArrayHas P s) : ArrayHas P (fullDetection shunt volt s) := by
  unfold fullDetection; (repeat' split) <;> first | with_reducible exact h | exact conversionAt_chans hP _ _ _ _ h

theorem floorCorrection_chans (shunt volt : Int) (h : ArrayHas P s) : ArrayHas P (floorCorrection shunt volt s) := by
  unfold floorCorrection; (repeat' split) <;> first | with_reducible exact h | exact conversionAt_chans hP _ _ _ _ h

theorem floorClear_chans (shunt volt : Int) (pass : Bool) (h : ArrayHas P s) :
    ArrayHas P (floorClear shunt volt pass s) := by
  unfold floorClear; (repeat' split) <;> first | with_reducible exact h | exact conversionAt_chans hP _ _ _ _ h

theorem battTemp_chans (x : TempResult) (h : ArrayHas P s) : ArrayHas P (battTemp x s) := by
  unfold battTemp; dsimp only; split
  · exact h.of_ca rfl
  · exact h.of_ca rfl
  · exact takeFault_chans hP _ (h.of_ca rfl)

/-! ### The heater's sensors and timers (R76 to R85) -/

omit hP in
@[simp] theorem flameKept_ca (s : State) : (flameKept s).ca = s.ca := by
  unfold flameKept judgeFlame; (repeat' split) <;> rfl

theorem flameValue_chans (t : Int) (h : ArrayHas P s) : ArrayHas P (flameValue t s) := by
  have judged : ArrayHas P (match s.hs.phase with
      | .ignite => if s.hs.entryTemp + 15 ≤ t then
          enterRun { s with hs.tf := some t, hs.flameHot := decide (250 ≤ t) }
        else { s with hs.tf := some t, hs.flameHot := decide (250 ≤ t) }
      | .run => flameWatch t { s with hs.tf := some t, hs.flameHot := decide (250 ≤ t) }
      | .off | .preheat | .purge | .standby | .lockout => { s with hs.tf := some t, hs.flameHot := decide (250 ≤ t) }) := by
    split
    case h_1 => exact .ite (enterRun_chans hP (h.of_ca rfl)) (h.of_ca rfl)
    all_goals exact h.of_ca rfl
  unfold flameValue
  exact .ite (overheat_chans hP judged) judged

theorem flameTemp_chans (x : TempResult) (h : ArrayHas P s) : ArrayHas P (flameTemp x s) := by
  unfold flameTemp; dsimp only; split
  · exact flameValue_chans hP _ (h.of_ca rfl)
  · exact h.of_ca (flameKept_ca _)
  · exact takeFault_chans hP _ (flameFailed_chans hP (h.of_ca rfl))

omit hP in
theorem phaseExpiry_chans {p : HeaterPhase} {due : Option Nat} {act : State → State}
    (hact : ∀ x, ArrayHas P x → ArrayHas P (act x)) (h : ArrayHas P s) : ArrayHas P (phaseExpiry p due act s) := by
  unfold phaseExpiry; (repeat' split)
  · exact hact _ (h.of_ca rfl)
  · exact h
  · exact h

theorem purgeAndMerge_chans (f : FollowOn) (c : Option LockCause) (h : ArrayHas P s) :
    ArrayHas P (purgeAndMerge f c s) := mergeHeater_chans hP (enterPurge_chans hP _ _ _ h)

theorem ignitionFails_chans (h : ArrayHas P s) : ArrayHas P (ignitionFails s) := by
  unfold ignitionFails
  exact .ite (purgeAndMerge_chans hP _ _ (h.of_ca rfl)) (takeFault_chans hP _ (purgeAndMerge_chans hP _ _ (h.of_ca rfl)))

theorem flameGone_chans (h : ArrayHas P s) : ArrayHas P (flameGone s) := by
  unfold flameGone
  exact .ite (purgeAndMerge_chans hP _ _ (h.of_ca rfl)) (takeFault_chans hP _ (purgeAndMerge_chans hP _ _ (h.of_ca rfl)))

theorem regulate_chans (h : ArrayHas P s) : ArrayHas P (regulate s) := by
  unfold regulate; exact chooseStage_chans hP (h.of_ca rfl)

theorem glowOff_chans (h : ArrayHas P s) : ArrayHas P (glowOff s) := by
  unfold glowOff; (repeat' split)
  · exact setTarget_chans hP _ _ (h.of_ca rfl)
  · exact h
  · exact h

theorem purgeExpiry_chans (h : ArrayHas P s) : ArrayHas P (purgeExpiry s) := by
  unfold purgeExpiry; split
  · exact completePurge_chans hP (h.of_ca rfl)
  · exact h

/-! ### Keys, inputs and the receiver (R183 to R193) -/

theorem toggle_chans (r : GrantAsk) (h : ArrayHas P s) : ArrayHas P (toggle r s).1 := by
  unfold toggle; split
  · exact withdraw_chans hP _ _ h
  · exact grantAsk_chans hP r h

theorem lightToggle_chans (w : Requester) (b : Bunk) (h : ArrayHas P s) : ArrayHas P (lightToggle w b s).1 :=
  toggle_chans hP _ h

theorem lightStep_chans (up : Bool) (b : Bunk) (h : ArrayHas P s) : ArrayHas P (lightStep up b s).1 := by
  unfold lightStep; extract_lets base level; split
  · exact h
  · exact grantAsk_chans hP _ h

theorem heatStep_chans (up : Bool) (b : Bunk) (h : ArrayHas P s) : ArrayHas P (heatStep up b s).1 := by
  unfold heatStep; split
  · exact h
  · exact grantAsk_chans hP _ h

theorem keyAction_chans (b : Bunk) (k : Byte) (h : ArrayHas P s) : ArrayHas P (keyAction b k s).1 := by
  unfold keyAction; split
  · exact lightToggle_chans hP _ b h
  · exact lightStep_chans hP _ b h
  · exact lightStep_chans hP _ b h
  · exact toggle_chans hP _ h
  · exact toggle_chans hP _ h
  · exact heatStep_chans hP _ b h
  · exact heatStep_chans hP _ b h
  · exact snoozeRest_chans hP b h
  · exact bunkAck_chans hP b h
  · exact h

theorem buttonPress_chans (b : Bunk) (h : ArrayHas P s) : ArrayHas P (buttonPress b s).1 := by
  have ha := bunkAck_chans hP b h
  unfold buttonPress; dsimp only; split
  · exact lightToggle_chans hP _ b ha
  · exact ha

omit hP in
@[simp] theorem inputWakes_ca (n : Fin 8) (x : Bool) (s : State) : (inputWakes n x s).ca = s.ca := by
  unfold inputWakes; dsimp only; (repeat' split) <;> simp

theorem fixedFunction_chans (n : Fin 8) (h : ArrayHas P s) : ArrayHas P (fixedFunction n s) := by
  unfold fixedFunction; split
  · exact h.of_ca rfl
  · exact overheat_chans hP h
  · exact (grantAsk_chans hP (courtesyAsk s) h).of_ca rfl
  · exact (buttonPress_chans hP .lower h).of_ca rfl
  · exact (buttonPress_chans hP .upper h).of_ca rfl
  · exact h

theorem inputEvent_chans (n : Fin 8) (h : ArrayHas P s) : ArrayHas P (inputEvent n s) := by
  unfold inputEvent; dsimp only
  refine fixedFunction_chans hP n (h.of_ca ?_)
  rw [inputWakes_ca]; (repeat' split) <;> simp

theorem takeRaw_chans (n : Fin 8) (h : ArrayHas P s) : ArrayHas P (takeRaw n s) := by
  unfold takeRaw; dsimp only; (repeat' split)
  · exact h
  · exact h.of_ca rfl
  · exact inputEvent_chans hP n h

theorem restartInput_chans (n : Fin 8) (h : ArrayHas P s) : ArrayHas P (restartInput n s) := by
  unfold restartInput; dsimp only; split
  · exact h.of_ca rfl
  · exact takeRaw_chans hP n (h.of_ca rfl)

theorem rawChange_chans (n : Fin 8) (x : Bool) (h : ArrayHas P s) : ArrayHas P (rawChange n x s) := by
  have hp : ArrayHas P (setPin n x s) := h.of_ca rfl
  unfold rawChange; dsimp only; (repeat' split)
  · exact h
  · exact hp
  · exact hp.of_ca rfl
  · exact takeRaw_chans hP n hp

theorem debounceExpiry_chans (n : Fin 8) (h : ArrayHas P s) : ArrayHas P (debounceExpiry n s) := by
  unfold debounceExpiry; dsimp only; split
  · exact takeRaw_chans hP n (h.of_ca rfl)
  · exact h

theorem applyKey_chans (b : Bunk) (i k : Byte) (h : ArrayHas P s) : ArrayHas P (applyKey b i k s) :=
  (keyAction_chans hP b k h).of_ca rfl

theorem takeFrame_chans (i k : Byte) (h : ArrayHas P s) : ArrayHas P (takeFrame i k s) := by
  unfold takeFrame ignoreFrame pairHandset; dsimp only; (repeat' split)
  · exact h.of_ca rfl
  · exact (applyKey_chans hP _ i k h).of_ca (wake_ca _ _)
  · exact h.of_ca (wake_ca _ _)
  · exact h.of_ca rfl

theorem takeRepeat_chans (h : ArrayHas P s) : ArrayHas P (takeRepeat s) := by
  have hw : ArrayHas P (wake .handset s) := h.of_ca (wake_ca _ _)
  unfold takeRepeat; dsimp only; (repeat' split)
  · exact applyKey_chans hP _ _ _ (hw.of_ca rfl)
  · exact hw
  · exact hw
  · exact h

theorem handsetFrame_chans (i k : Byte) (e : Nat) (h : ArrayHas P s) : ArrayHas P (handsetFrame i k e s) := by
  unfold handsetFrame; split
  · exact takeFrame_chans hP i k (h.of_ca rfl)
  · exact h

theorem handsetRepeat_chans (e : Nat) (h : ArrayHas P s) : ArrayHas P (handsetRepeat e s) := by
  unfold handsetRepeat; split
  · exact takeRepeat_chans hP (h.of_ca rfl)
  · exact h

/-! ### Stored times, the review and the clock source (R38 to R48, R170) -/

theorem expireGrant_chans (l : Load) (p : Purpose) (h : ArrayHas P s) : ArrayHas P (expireGrant l p s) := by
  unfold expireGrant; split
  · exact .ite (removeEntry_chans hP l p _ h) h
  · exact h

theorem startGrant_chans (l : Load) (p : Purpose) (h : ArrayHas P s) : ArrayHas P (startGrant l p s) := by
  unfold startGrant; split
  · exact .ite (mergeLoad_chans hP l (h.of_ca rfl)) h
  · exact h

theorem passStoredTimes_chans (h : ArrayHas P s) : ArrayHas P (passStoredTimes s) := by
  unfold passStoredTimes
  exact foldl_preserves (ArrayHas P) (fun _ g h => startGrant_chans hP g.load g.purpose h) _
    (foldl_preserves (ArrayHas P) (fun _ g h => expireGrant_chans hP g.load g.purpose h) _ h)

theorem handReview_chans (h : ArrayHas P s) : ArrayHas P (handReview s) := by
  unfold handReview
  exact .ite (raiseWarning_chans hP _ _ _ (h.of_ca rfl)) (removeWarning_chans hP _ _ (h.of_ca rfl))

theorem review_chans (h : ArrayHas P s) : ArrayHas P (review s) := by
  have close : ∀ x, ArrayHas P x →
      ArrayHas P (markReviewed (reconcileSunrise .upper (reconcileSunrise .lower x))) := fun _ hx =>
    (reconcileSunrise_chans hP .upper (reconcileSunrise_chans hP .lower hx)).of_ca (syncDoze_ca _)
  have handed : ∀ x : State, ArrayHas P x → ArrayHas P (handReview (reviewAdmission x.cm.winMean x)) := fun _ hx =>
    handReview_chans hP (reviewAdmission_chans hP _ hx)
  have window : ArrayHas P (takeWindow { reach s.au.reviewDue s with
      au.reviewDue := (reach s.au.reviewDue s).tu.clock + secs 60 }) := h.of_ca rfl
  unfold review
  exact close _ (.ite (addCause_chans hP _ _ (handed _ window)) (handed _ window))

theorem reportDegraded_chans (h : ArrayHas P s) : ArrayHas P (reportDegraded s) := by
  unfold reportDegraded; exact takeFault_chans hP _ (h.of_ca (markUncertain_ca _ _))

theorem stopCrystal_chans (h : ArrayHas P s) : ArrayHas P (stopCrystal s) := by
  unfold stopCrystal; split
  · exact unlessReset_keeps (fun _ hx => reportDegraded_chans hP hx) (h.of_ca rfl)
  · exact h.of_ca rfl

theorem restTimeSet_chans (h : ArrayHas P s) : ArrayHas P (restTimeSet s) := by
  unfold restTimeSet
  exact reconcilePrewarm_chans hP (timeoutRest_chans hP .upper (timeoutRest_chans hP .lower
    (reportQuiet_chans hP (h.of_ca (markUncertain_ca _ _)))))

/-! ### Rests and warnings on their timers (R119, R131, R141 to R151) -/

theorem accountExpiry_chans (h : ArrayHas P s) : ArrayHas P (accountExpiry s) := by
  unfold accountExpiry
  exact reconcilePrewarm_chans hP (accumulateAll_chans hP _ (h.of_ca rfl))

theorem quietEnds_chans (b : Bunk) (h : ArrayHas P s) : ArrayHas P (quietEnds b s) := by
  unfold quietEnds
  exact .ite (reconcilePrewarm_chans hP (reportQuiet_chans hP h)) h

theorem wakeLead_chans (b : Bunk) (h : ArrayHas P s) : ArrayHas P (wakeLead b s) := by
  unfold wakeLead
  exact .ite (testWake_chans hP b h) h

theorem plannedEndPassed_chans (b : Bunk) (h : ArrayHas P s) : ArrayHas P (plannedEndPassed b s) := by
  unfold plannedEndPassed; split
  · exact .ite (testWake_chans hP b h) h
  · exact h

theorem escalation_chans (k : WarnKind) (t : WarnTarget) (h : ArrayHas P s) : ArrayHas P (escalation k t s) := by
  unfold escalation; split
  · exact .ite (escalateWarning_chans hP k t (h.of_ca rfl)) h
  · exact h

theorem flashPhase_chans (b : Bunk) (h : ArrayHas P s) : ArrayHas P (flashPhase b s) := by
  unfold flashPhase; split
  · exact mergeLoad_chans hP _ (h.of_ca rfl)
  · exact h

theorem sunriseStep_chans (b : Bunk) (h : ArrayHas P s) : ArrayHas P (sunriseStep b s) := by
  unfold sunriseStep; split
  · exact .ite (mergeLoad_chans hP _ h) h
  · exact h

/-! ### The policy's owners (R53, R136, R143) -/

omit hP in
@[simp] theorem applyCapacity_ca (s : State) : (applyCapacity s).ca = s.ca := by
  unfold applyCapacity; dsimp only; (repeat' split) <;> rfl

theorem applySettings_chans (old : Nat) (h : ArrayHas P s) : ArrayHas P (applySettings old s) := by
  unfold applySettings
  refine foldl_preserves (ArrayHas P) (fun x i hx => ?_) _ h
  split
  · exact hx
  · exact changeClass_chans hP _ _ _ _ _ _ hx

theorem applyEscalation_chans (h : ArrayHas P s) : ArrayHas P (applyEscalation s) := by
  unfold applyEscalation
  exact foldl_preserves (ArrayHas P) (fun _ w hx => .ite (escalateWarning_chans hP w.kind w.target hx) hx) _ h

/-! ### Requests (R32, R47, R99, R115 to R130, R144, R161) -/

theorem requestGrant_chans (l : Link) (load : Load) (p : Purpose) (o : Origin) (v : Level) (e : Option RtcTime)
    (h : ArrayHas P s) : ArrayHas P (requestGrant l load p o v e s).state := by
  unfold requestGrant; split
  · exact h
  · rw [grantReply_state]; exact grantAsk_chans hP _ h

theorem revokeGrant_chans (l : Link) (load : Load) (p : Purpose) (h : ArrayHas P s) :
    ArrayHas P (revokeGrant l load p s).state := by
  unfold revokeGrant taken refuse; (repeat' split)
  · exact removeEntry_chans hP load p _ h
  · exact h
  · exact h

theorem ackWarning_chans (l : Link) (k : WarnKind) (t : WarnTarget) (h : ArrayHas P s) :
    ArrayHas P (ackWarning l k t s).state := by
  unfold ackWarning; (repeat' split)
  · exact h
  · exact h
  · exact ackEntry_chans hP k t h
  · exact h

theorem readAccount_chans (x : AccountSelector) (h : ArrayHas P s) : ArrayHas P (readAccount x s).state := by
  unfold readAccount; split
  · exact h
  · exact accumulate_chans hP _ _ h

theorem useRecord_chans (i : Fin 4) (k : DriverKey) (h : ArrayHas P s) : ArrayHas P (useRecord i k s) := by
  unfold useRecord; dsimp only
  refine evaluateConds_chans hP i (ArrayHas.of_ca ?_ (setRecord_ca _ _ _))
  split
  · exact endShort_chans hP _ _ h
  · exact h

theorem recordFor_chans {k : DriverKey} {t : State} {i : Fin 4} (h : ArrayHas P s) (e : recordFor k s = some (i, t)) :
    ArrayHas P t := by
  unfold recordFor at e
  split at e
  · cases e; exact accumulate_chans hP _ _ h
  · split at e
    · cases e; exact useRecord_chans hP _ _ h
    · obtain ⟨j, -, hj⟩ := Option.map_eq_some_iff.1 e
      cases hj; exact useRecord_chans hP _ _ h

theorem bindSlot_chans (i : Fin 4) (d : DriverSlot) (h : ArrayHas P s) : ArrayHas P (bindSlot i d s) := by
  have lost : ArrayHas P (match slotHolder d s with
      | some j => if j = i then s else loseSlot j s
      | none => s) := by
    split
    · exact .ite h (loseSlot_chans hP _ h)
    · exact h
  unfold bindSlot
  refine (evaluateConds_chans hP i ?_).of_ca (notify_ca _ _ _)
  split
  · exact lost.of_ca rfl
  · exact lost

theorem useCard_chans (d : DriverSlot) (k : DriverKey) (h : ArrayHas P s) : ArrayHas P (useCard d k s).state := by
  unfold useCard; (repeat' split)
  · exact loseSlot_chans hP _ h
  · exact h
  · exact h
  · next e => exact bindSlot_chans hP _ _ (recordFor_chans hP h e)

theorem reportActivity_chans (i : Fin 4) (a : Activity) (h : ArrayHas P s) : ArrayHas P (reportActivity i a s) := by
  unfold reportActivity leaveBunk; split
  · exact h
  · next r _ =>
    have hs : ArrayHas P (setRecord i (some { r with lastActivity := now s }) s) := h.of_ca rfl
    have hc := fun left => changeActivity_chans hP i a left hs
    dsimp only; (repeat' split)
    · exact hs
    · exact endRest_chans hP _ (hc _)
    · exact hc _
    · exact hc _

theorem setActivity_chans (d : DriverSlot) (a : Activity) (h : ArrayHas P s) : ArrayHas P (setActivity d a s).state := by
  unfold setActivity; split
  · exact h
  · exact reportActivity_chans hP _ _ (accumulate_chans hP _ _ h)

theorem moveClass_chans (i : Fin 4) (a b : Bool) (h : ArrayHas P s) : ArrayHas P (moveClass i a b s) := by
  unfold moveClass; split
  · exact h
  · exact changeClass_chans hP _ _ _ _ _ _ h

theorem setMoving_chans (m : Bool) (h : ArrayHas P s) : ArrayHas P (setMoving m s) := by
  unfold setMoving
  exact foldl_preserves (ArrayHas P) (fun _ i h => moveClass_chans hP i _ _ h) _
    ((accumulateAll_chans hP (now s) h).of_ca rfl)

omit hP in
@[simp] theorem swapSlots_ca (s : State) : (swapSlots s).ca = s.ca := by
  unfold swapSlots; dsimp only; split <;> simp

theorem endBunkShort_chans (b : Bunk) (h : ArrayHas P s) : ArrayHas P (endBunkShort b s) := by
  unfold endBunkShort
  refine foldl_preserves (ArrayHas P) (fun x i hx => ?_) _ h
  (repeat' split)
  · exact endShort_chans hP _ _ (hx.of_ca rfl)
  all_goals exact hx

theorem bunkRest_chans (b : Bunk) (d : DriverSlot) (p : Option RtcTime) (w : Bool) (h : ArrayHas P s) :
    ArrayHas P (bunkRest b d p w s).state := by
  have told : ∀ (m : Bool) (x : State), ArrayHas P x → ArrayHas P (notify .b .account (tellPlannedEnd b m x)) :=
    fun m _ hx => (tellPlannedEnd_chans hP b m hx).of_ca (notify_ca .b .account _)
  have begun : ∀ (i : Fin 4) (q : Option RtcTime), ArrayHas P (beginRest b i q w s) := fun i q =>
    told _ _ (endBunkShort_chans hP b (h.of_ca (setRest_ca b _ s)))
  have updated : ∀ (old : BunkRest) (q : Option RtcTime), ArrayHas P (updateRest b old q w s) := fun old q =>
    told _ _ ((h.of_ca (setPrewarm_ca b (wantedState q w) s)).of_ca (setRest_ca b _ _))
  unfold bunkRest; dsimp only; (repeat' split)
  · exact h
  · exact h
  · exact begun _ _
  · exact updated _ _

theorem bunkWake_chans (b : Bunk) (h : ArrayHas P s) : ArrayHas P (bunkWake b s).state := by
  unfold bunkWake; split
  · exact h
  · exact endRest_chans hP b h

theorem releaseUntied_chans (l : Load) (f : FaultSource → Bool) (h : ArrayHas P s) : ArrayHas P (releaseUntied l f s) := by
  unfold releaseUntied; split
  · exact .ite (releaseSuspension_chans hP _ h) h
  · exact h

theorem releaseTied_chans (r : FaultReport) (h : ArrayHas P s) : ArrayHas P (releaseTied r s) := by
  unfold releaseTied; (repeat' split)
  · exact h
  · exact releaseSuspension_chans hP _ h
  · exact h.of_ca rfl
  · exact h

theorem clearLockout_chans (h : ArrayHas P s) : ArrayHas P (clearLockout s).state := by
  unfold clearLockout; split
  · exact h
  · exact releaseUntied_chans hP _ _ (clearLockoutPhase_chans hP h)

theorem configureInput_chans (n : Nat) (x : InputConfig) (h : ArrayHas P s) :
    ArrayHas P (configureInput n x s).state := by
  unfold configureInput; dsimp only; (repeat' split)
  · exact h
  · exact restartInput_chans hP _ (h.of_ca rfl)
  · exact h

theorem handShort_chans (i : Fin 4) (h : ArrayHas P s) : ArrayHas P (handShort i s) := by
  unfold handShort; split
  · exact raiseWarning_chans hP _ _ _ h
  · exact h

theorem restartRests_chans (h : ArrayHas P s) : ArrayHas P (restartRests s) := by
  unfold restartRests
  refine reconcileSunrise_chans hP .upper (reconcileSunrise_chans hP .lower (testWake_chans hP .upper
    (testWake_chans hP .lower (foldl_preserves (ArrayHas P) (fun _ i hx => handShort_chans hP i
      (evaluateConds_chans hP i hx)) _ ?_))))
  exact reconcilePrewarm_chans hP (timeoutRest_chans hP .upper (timeoutRest_chans hP .lower
    (reportQuiet_chans hP (h.of_ca rfl))))

theorem restartHeater_chans (h : ArrayHas P s) : ArrayHas P (restartHeater s) := by
  unfold restartHeater
  exact .ite (enterPurge_chans hP _ _ _ h) (.ite (h.of_ca rfl) h)

end
end Sys2Proof.Machine

namespace Sys2Proof.Machine

/-! ## O57: the channels' own commands keep idle channels dark (R57 to R73) -/

section
variable {s : State}

/-! ### The wiring check (R68 to R71) -/

theorem beginStep_dark (n : Fin 12) (t : RtcTime) (v : Vector WiringResult 12) (s : State) :
    ArrayHas AllDark (beginStep n t v s) := testChannels_dark n _

/-- The end of the check leaves every channel OFF, whatever it drove, before the drivers' targets act again (R70). -/
theorem finishCheck_dark (c : Bool) (r : WiringRun) (v : Vector WiringResult 12) (s : State) :
    ArrayHas AllDark (finishCheck c r v s) := by
  have ended : ∀ x : State, ArrayHas AllDark (revalidate (notifyBoth .checkDone (endTest x))) := fun x =>
    revalidate_chans allDark_targetKeeps ((endTest_dark x).of_ca rfl)
  unfold finishCheck
  exact (startAllFromTargets_dark (.ite (enterPreheat_chans allDark_targetKeeps (ended _)) (ended _))).of_ca
    (syncDoze_ca _)

theorem abortCheck_dark (h : ArrayHas AllDark s) : ArrayHas AllDark (abortCheck s) := by
  unfold abortCheck; split
  · exact h
  · exact finishCheck_dark _ _ _ _

theorem startCheck_dark (h : ArrayHas AllDark s) : ArrayHas AllDark (startCheck s).state := by
  unfold startCheck; split
  · exact (beginStep_dark _ _ _ _).of_ca (syncDoze_ca _)
  · exact h

theorem endStep_dark (c : WiringClass) (k : Nat) (r : WiringRun) (s : State) :
    ArrayHas AllDark (endStep c k r s) := by
  unfold endStep; dsimp only; split
  · exact beginStep_dark _ _ _ _
  · exact finishCheck_dark _ _ _ _

theorem tripStep_dark (n : Fin 12) (k : Nat) (h : ArrayHas AllDark s) :
    ArrayHas AllDark (tripStep n k s) := by
  unfold tripStep; split
  · exact .ite (endStep_dark _ _ _ _) h
  · exact h

theorem wiringStepEnd_dark (x : Bool) (k : Nat) (h : ArrayHas AllDark s) :
    ArrayHas AllDark (wiringStepEnd x k s) := by
  unfold wiringStepEnd; split
  · exact h
  · exact .ite (.ite (endStep_dark _ _ _ _) h) (.ite (endStep_dark _ _ _ _) h)

/-! ### Trips and timers (R58 to R64) -/

theorem tripOn_dark (n : Fin 12) (c : FaultCode) (k : Nat) (h : ArrayHas AllDark s) :
    ArrayHas AllDark (tripOn n c k s) := by
  have tripped : ArrayHas AllDark (setChan n (tripChannel s.tu.clock k (chan n s)) s) :=
    h.setChan (darkWhenIdle_of_dark rfl)
  have locked : ArrayHas AllDark (setChan n (lockChannel k (chan n s)) s) := h.setChan (darkWhenIdle_of_dark rfl)
  have heard := heaterLocked_chans allDark_targetKeeps n locked
  unfold tripOn; dsimp only; split
  · exact tripped.of_ca rfl
  · exact takeFault_chans allDark_targetKeeps _ (.ite (fridgeLocked_chans allDark_targetKeeps heard) heard)

theorem channelShort_dark (n : Fin 12) (k : Nat) (h : ArrayHas AllDark s) :
    ArrayHas AllDark (channelShort n k s) := by
  have trips := tripOn_dark n .short (senseReading k) h
  unfold channelShort; dsimp only; (repeat' split)
  · exact trips
  · exact trips
  · exact tripStep_dark n _ h
  all_goals exact h

theorem channelOvercurrent_dark (n : Fin 12) (k : Nat) (h : ArrayHas AllDark s) :
    ArrayHas AllDark (channelOvercurrent n k s) := by
  have trips := tripOn_dark n .overcurrent (senseReading k) h
  unfold channelOvercurrent; dsimp only; split
  · split
    · exact .ite trips h
    · exact .ite trips h
    · exact .ite (tripStep_dark n _ h) h
    all_goals exact h
  · exact h

theorem inrushEnd_dark (n : Fin 12) (h : ArrayHas AllDark s) : ArrayHas AllDark (inrushEnd n s) := by
  unfold inrushEnd; dsimp only; split
  · exact (h.of_ca rfl).setChan (darkWhenIdle_of_active (.inr (.inl rfl)))
  · exact h

/-- A TRIPPED channel with a zero target is dark as it goes OFF, because it was dark (R63). -/
theorem retryExpiry_dark (n : Fin 12) (h : ArrayHas AllDark s) : ArrayHas AllDark (retryExpiry n s) := by
  unfold retryExpiry; dsimp only; split
  · next hs _ =>
    refine ArrayHas.setChan (h.of_ca rfl) ?_
    split
    · exact darkWhenIdle_of_dark (h n (.inr (.inl hs)))
    · exact enterStarting_dark _ _ _
  · exact h

/-! ### Open loads, fades and pulses (R60, R65) -/

theorem openLoadFires_dark (n : Fin 12) (h : ArrayHas AllDark s) : ArrayHas AllDark (openLoadFires n s) := by
  have flagged : ArrayHas AllDark (setChan n { chan n s with openLoad := true } s) :=
    h.setChan ((h n).of_same rfl rfl)
  unfold openLoadFires
  exact .ite h (flagged.of_ca rfl)

theorem fade_dark (n : Fin 12) (k : Nat) (h : ArrayHas AllDark s) : ArrayHas AllDark (fade n k s) := by
  unfold fade; dsimp only; split
  · next drives => exact (h.of_ca rfl).setChan (darkWhenIdle_of_active (drives.2.1.imp_right .inl))
  · exact h

theorem fuelPumpPulse_dark (k : Nat) (h : ArrayHas AllDark s) : ArrayHas AllDark (fuelPumpPulse k s) := by
  unfold fuelPumpPulse; extract_lets c
  split
  · next drives =>
    have pulsed : ∀ (t : Nat) (x : Channel), x.state = c.state → ArrayHas AllDark (setChan 2 x (reach t s)) :=
      fun t x hx => (h.of_ca rfl).setChan (darkWhenIdle_of_active (by rw [hx]; exact drives.imp_right .inl))
    exact .ite (openLoadFires_dark 2 (pulsed _ _ rfl)) (pulsed _ _ rfl)
  · exact h

theorem openLoad_dark (n : Fin 12) (k : Nat) (h : ArrayHas AllDark s) : ArrayHas AllDark (openLoad n k s) := by
  have sensed : ArrayHas AllDark (setChan n { chan n s with lastCurrent := k } s) :=
    h.setChan ((h n).of_same rfl rfl)
  unfold openLoad
  exact .ite (.ite (.ite (fuelPumpPulse_dark k h) h) (openLoadFires_dark n sensed)) h

/-! ### The return of a LOCKED channel (R66, R67, R161) -/

theorem returnChannel_dark (n : Fin 12) (h : ArrayHas AllDark s) : ArrayHas AllDark (returnChannel n s) := by
  have freed : ArrayHas AllDark (setChan n (unlockChannel n s.tu.clock (chan n s)) s) :=
    h.setChan (startFromTarget_dark _ _ (darkWhenIdle_of_dark rfl))
  unfold returnChannel
  exact .ite (fanUnlocked_chans allDark_targetKeeps freed) freed

theorem releaseChannel_dark (r : FaultReport) (h : ArrayHas AllDark s) :
    ArrayHas AllDark (releaseChannel r s) := by
  unfold releaseChannel; split
  · exact .ite (returnChannel_dark _ h) h
  all_goals exact h

theorem clearChannel_dark (n : Nat) (h : ArrayHas AllDark s) : ArrayHas AllDark (clearChannel n s).state := by
  unfold clearChannel; dsimp only; (repeat' split)
  · exact h
  · exact releaseUntied_chans allDark_targetKeeps _ _ (returnChannel_dark _ h)
  · exact h

theorem ackFault_dark (f : FaultSource) (t : RtcTime) (h : ArrayHas AllDark s) :
    ArrayHas AllDark (ackFault f t s).state := by
  unfold ackFault; dsimp only; (repeat' split)
  · exact h
  · exact h
  · exact (releaseTied_chans allDark_targetKeeps _ (releaseChannel_dark _ h)).of_ca rfl

/-! ### A slot due may abort the check (R71, R104) -/

theorem decideRun_dark (h : ArrayHas AllDark s) : ArrayHas AllDark (decideRun s) := by
  have pending : ArrayHas AllDark { s with cs.slotPending := true } := h.of_ca rfl
  unfold decideRun; dsimp only
  refine ArrayHas.of_ca ?_ (cutPending_ca _)
  exact .ite (abortCheck_dark pending) pending

theorem slotFallsDue_dark (t u : RtcTime) (h : ArrayHas AllDark s) : ArrayHas AllDark (slotFallsDue t u s) := by
  unfold slotFallsDue decideSlot
  exact .ite (h.of_ca rfl) (.ite (h.of_ca rfl) (.ite (h.of_ca rfl) (decideRun_dark (h.of_ca rfl))))

theorem slotAtOnce_dark (h : ArrayHas AllDark s) : ArrayHas AllDark (slotAtOnce s) :=
  slotFallsDue_dark _ _ h

theorem slotDue_dark (h : ArrayHas AllDark s) : ArrayHas AllDark (slotDue s) := by
  unfold slotDue
  exact .ite (slotFallsDue_dark _ _ h) h

theorem reformDue_dark (h : ArrayHas AllDark s) : ArrayHas AllDark (reformDue s) := by
  unfold reformDue
  exact .ite (.ite (slotAtOnce_dark h) (h.of_ca rfl)) h

theorem setMode_dark (m : RateMode) (h : ArrayHas AllDark s) : ArrayHas AllDark (setMode m s) := by
  unfold setMode
  exact .ite h (reformDue_dark (h.of_ca rfl))

theorem cabinToFridge_dark (t : Int) (h : ArrayHas AllDark s) : ArrayHas AllDark (cabinToFridge t s) := by
  unfold cabinToFridge; split
  · exact h
  · exact setMode_dark _ h

theorem cabinValue_dark (t : Int) (h : ArrayHas AllDark s) : ArrayHas AllDark (cabinValue t s) := by
  unfold cabinValue; dsimp only
  refine cabinToFridge_dark t ?_
  split
  case h_1 => exact standbyRestart_chans allDark_targetKeeps (h.of_ca rfl)
  all_goals exact h.of_ca rfl

theorem cabinFailed_dark (c : FaultCode) (h : ArrayHas AllDark s) : ArrayHas AllDark (cabinFailed c s) := by
  unfold cabinFailed; dsimp only
  refine takeFault_chans allDark_targetKeeps _ ?_
  split
  case h_1 => exact enterPreheat_chans allDark_targetKeeps (h.of_ca rfl)
  all_goals exact h.of_ca rfl

theorem cabinTemp_dark (x : TempResult) (h : ArrayHas AllDark s) : ArrayHas AllDark (cabinTemp x s) := by
  unfold cabinTemp; dsimp only; split
  · exact cabinValue_dark _ (h.of_ca rfl)
  · exact h.of_ca rfl
  · exact cabinFailed_dark _ (h.of_ca rfl)

theorem setTime_dark (t : RtcTime) (h : ArrayHas AllDark s) : ArrayHas AllDark (setTime t s) := by
  have hr : ArrayHas AllDark (restTimeSet (accumulateAll (now s)
      { s with tu.rtc := t, tu.subSecond := 0, tu.timeSet := true })) :=
    restTimeSet_chans allDark_targetKeeps (accumulateAll_chans allDark_targetKeeps _ (h.of_ca rfl))
  have passed : ∀ (f : Bool) (x : State), ArrayHas AllDark x →
      ArrayHas AllDark (if f then passStoredTimes x else x) := fun _ _ hx =>
    .ite (passStoredTimes_chans allDark_targetKeeps hx) hx
  have due : ∀ (f : Bool) (x : State), ArrayHas AllDark x →
      ArrayHas AllDark (if f && slotReached x then slotAtOnce x else x) := fun _ _ hx =>
    .ite (slotAtOnce_dark hx) hx
  unfold setTime
  exact testWake_chans allDark_targetKeeps .upper
    (testWake_chans allDark_targetKeeps .lower (due _ _ (passed _ _ hr)))

theorem applyRate_dark (id : Nat) (h : ArrayHas AllDark s) : ArrayHas AllDark (applyRate id s) := by
  unfold applyRate; (repeat' split)
  · exact setMode_dark _ h
  · exact h
  · exact reformDue_dark h
  · exact reformDue_dark h
  · exact reformDue_dark h
  · exact h

theorem applyItem_dark (id old : Nat) (h : ArrayHas AllDark s) : ArrayHas AllDark (applyItem id old s) := by
  have valid := revalidate_chans allDark_targetKeeps h
  have capped := applyCaps_chans allDark_targetKeeps h
  have rated := applyRate_dark id h
  unfold applyItem; split
  case h_1 => exact revalidate_chans allDark_targetKeeps (h.of_ca (applyCapacity_ca s))
  case h_17 | h_18 => exact capped
  case h_19 => exact lowerStage_chans allDark_targetKeeps h
  case h_20 => exact reconcilePrewarm_chans allDark_targetKeeps (reportQuiet_chans allDark_targetKeeps h)
  case h_21 | h_22 | h_23 | h_24 => exact rated
  case h_25 | h_26 => exact h.of_ca rfl
  case h_27 => exact applySettings_chans allDark_targetKeeps old h
  case h_28 => exact applyEscalation_chans allDark_targetKeeps h
  case h_29 => exact testWake_chans allDark_targetKeeps .upper (testWake_chans allDark_targetKeeps .lower h)
  case h_30 =>
    exact reconcileSunrise_chans allDark_targetKeeps .upper
      (reconcileSunrise_chans allDark_targetKeeps .lower h)
  case h_31 => exact h
  all_goals exact valid

theorem setPolicy_dark (id v : Nat) (h : ArrayHas AllDark s) : ArrayHas AllDark (setPolicy id v s).state := by
  have counted : ArrayHas AllDark (if id = 59 then accumulateAll (now s) s else s) :=
    .ite (accumulateAll_chans allDark_targetKeeps _ h) h
  unfold setPolicy; split
  · exact h
  · dsimp only; (repeat' split)
    · exact h
    · exact h
    · exact applyItem_dark _ _ (counted.of_ca rfl)

end
end Sys2Proof.Machine

namespace Sys2Proof.Machine

/-! ## O57: resets, ports and the whole step (R57, R173, R174, R195) -/

/-! ### The ports leave the channels alone (R195 to R208) -/

@[simp] theorem beginTransfer_ca (l : Link) (s : State) : (beginTransfer l s).ca = s.ca := by
  unfold beginTransfer; dsimp only; (repeat' split) <;> simp

@[simp] theorem openTransfer_ca (l : Link) (s : State) : (openTransfer l s).ca = s.ca := by
  unfold openTransfer; split <;> simp

@[simp] theorem answer_ca (l : Link) (k : Byte) (r : Reply) : (answer l k r).ca = r.state.ca := by
  simp [answer, endTransfer, placeResponse]

@[simp] theorem clearReleased_ca (l : Link) (s : State) : (clearReleased l s).ca = s.ca := mapPort_ca l _ s

theorem transferStart_ca (l : Link) (s : State) : (transferStart l s).ca = s.ca := by
  unfold transferStart; split <;> simp

theorem emptyTransfer_ca (l : Link) (s : State) : (emptyTransfer l s).ca = s.ca := by
  unfold emptyTransfer; dsimp only; split <;> simp [dropTransfer, endTransfer]

theorem answerPort_ca (l : Link) (k : Byte) (st : Status) (s : State) : (answerPort l k st s).ca = s.ca := by
  unfold answerPort; dsimp only; split <;> simp [dropTransfer, refuse]

theorem fetch_ca (l : Link) (n : Nat) (s : State) : (fetch l n s).ca = s.ca := by
  unfold fetch; dsimp only; (repeat' split) <;> simp [dropTransfer, endTransfer]

/-- A served request keeps of the channels what its owner keeps. -/
theorem serve_chans {P : ChannelArray → Prop} {l : Link} {k : Byte} {perform : State → Reply} {s : State}
    (hp : ∀ x, ArrayHas P x → ArrayHas P (perform x).state) (h : ArrayHas P s) : ArrayHas P (serve l k perform s) := by
  have ho : ArrayHas P (clearReleased l (openTransfer l s)) := h.of_ca (by simp)
  unfold serve; dsimp only; (repeat' split)
  · exact ho.of_ca (answer_ca _ _ _)
  · exact (hp _ ho).of_ca (answer_ca _ _ _)
  · exact ho.of_ca (answer_ca _ _ _)
  · exact h.of_ca (by simp)

theorem readNotices_ca (l : Link) (s : State) : (readNotices l s).state.ca = s.ca := by
  unfold readNotices; dsimp only; split <;> simp

theorem readStatus_ca (n : Nat) (s : State) : (readStatus n s).state.ca = s.ca := by
  unfold readStatus; (repeat' split) <;> rfl

theorem releaseHold_ca (s : State) : (releaseHold s).state.ca = s.ca := by
  unfold releaseHold; split <;> rfl

section
variable {s t : State}

/-! ### The resets (R173, R174) -/

/-- A main reset leaves every channel OFF with its output off (R174). -/
theorem resetMainDomain_dark (s : State) : ArrayHas AllDark (resetMainDomain s) := by
  refine arrayHas_everyChan.2 fun n => darkWhenIdle_of_dark ?_
  simp [chan, resetMainDomain, resetPorts]

theorem restartPart_dark (l : Link) (h : ArrayHas AllDark s) : ArrayHas AllDark (restartPart l s) := by
  have ho : ArrayHas AllDark (openTransfer l s) := h.of_ca (openTransfer_ca l s)
  have hs : ArrayHas AllDark (serve l 0x5F#8 taken (openTransfer l s)) := serve_chans (fun _ hx => hx) ho
  unfold restartPart; dsimp only; (repeat' split)
  · exact resetMainDomain_dark _
  all_goals exact hs

theorem restartFridge_dark (h : ArrayHas AllDark s) : ArrayHas AllDark (restartFridge s) := by
  have placed : ∀ x : State, ArrayHas AllDark x →
      ArrayHas AllDark (if x.cs.enable then placeCooling x else x) := fun _ hx =>
    .ite (placeCooling_chans allDark_targetKeeps hx) hx
  have due : ∀ x : State, ArrayHas AllDark x →
      ArrayHas AllDark (if slotReached x then slotAtOnce x else x) := fun _ hx => .ite (slotAtOnce_dark hx) hx
  unfold restartFridge
  exact due _ (placed _ (h.of_ca rfl))

theorem endMainReset_dark (x : ResetHold) (s : State) : ArrayHas AllDark (endMainReset x s) := by
  have restarted : ∀ y, ArrayHas AllDark y →
      ArrayHas AllDark (restartInputs (restartRests (restartFridge (resetPorts (restartHeater y))))) := fun y hy =>
    have hh : ArrayHas AllDark (resetPorts (restartHeater y)) :=
      (restartHeater_chans allDark_targetKeeps hy).of_ca rfl
    foldl_preserves (ArrayHas AllDark) (fun _ n h => restartInput_chans allDark_targetKeeps n h) _
      (restartRests_chans allDark_targetKeeps (restartFridge_dark hh))
  have reported : ∀ y, ArrayHas AllDark y →
      ArrayHas AllDark (if y.tu.degraded then reportDegraded y else y) := fun _ hy =>
    .ite (reportDegraded_chans allDark_targetKeeps hy) hy
  unfold endMainReset
  exact reported _ (restarted _ (resetMainDomain_dark _))

theorem mainResetEnd_dark (h : ArrayHas AllDark s) : ArrayHas AllDark (mainResetEnd s) := by
  unfold mainResetEnd; split
  · exact endMainReset_dark _ _
  · exact h

/-! ### Events that leave the channels alone -/

theorem returnCrystal_ca (s : State) : (returnCrystal s).ca = s.ca := by
  unfold returnCrystal unlessReset; dsimp only; (repeat' split) <;> rfl

theorem startStable_ca (s : State) : (startStable s).ca = s.ca := by
  unfold startStable; split <;> rfl

theorem enterDoze_ca (s : State) : (enterDoze s).ca = s.ca := by
  unfold enterDoze; dsimp only; (repeat' split) <;> rfl

theorem leaveDoze_ca (s : State) : (leaveDoze s).ca = s.ca := by
  unfold leaveDoze; dsimp only; split <;> simp

theorem minOffExpiry_ca (s : State) : (minOffExpiry s).ca = s.ca := by
  unfold minOffExpiry; split <;> rfl

theorem chimeStart_ca (s : State) : (chimeStart s).ca = s.ca := by
  unfold chimeStart; dsimp only; (repeat' split) <;> rfl

theorem chimeEnd_ca (s : State) : (chimeEnd s).ca = s.ca := by
  unfold chimeEnd; split <;> rfl

theorem repeatTimeout_ca (s : State) : (repeatTimeout s).ca = s.ca := by
  unfold repeatTimeout; split <;> rfl

theorem closeWindow_ca (s : State) : (closeWindow s).ca = s.ca := by
  unfold closeWindow; split <;> rfl

theorem checkError_ca (k : Nat) (s : State) : (checkError k s).ca = s.ca := by
  unfold checkError; split <;> rfl

/-! ### Every command -/

theorem performRequest_dark {c : Instr} (h : ArrayHas AllDark s) (e : performRequest c s = .next t) :
    ArrayHas AllDark t := by
  have hP := allDark_targetKeeps
  have served : ∀ {l : Link} {k : Byte} {perform : State → Reply},
      (∀ x, ArrayHas AllDark x → ArrayHas AllDark (perform x).state) →
      ArrayHas AllDark (serve l k perform s) := fun hp => serve_chans hp h
  have framed : ∀ {l : Link} {k : Byte} {perform : State → Reply},
      (∀ x, (perform x).state.ca = x.ca) → ArrayHas AllDark (serve l k perform s) := fun hp =>
    served fun x hx => hx.of_ca (hp x)
  have acted : ∀ {l : Link} {k : Byte} {f : State → State},
      (∀ x, ArrayHas AllDark x → ArrayHas AllDark (f x)) →
      ArrayHas AllDark (serve l k (fun x => taken (f x)) s) := fun hf => served hf
  cases c <;> cases e
  case notices => exact framed (readNotices_ca _)
  case noticeEnable => exact framed (mapPort_ca _ _)
  case release => exact framed (mapPort_ca _ _)
  case statusRead => exact framed (readStatus_ca _)
  case budgetRead => exact framed fun _ => rfl
  case grantRequest => exact served fun _ hx => requestGrant_chans hP _ _ _ _ _ _ hx
  case grantProbe => exact framed fun x => by rw [probeGrant_state]
  case grantRevoke => exact served fun _ hx => revokeGrant_chans hP _ _ _ hx
  case ackWarning => exact served fun _ hx => ackWarning_chans hP _ _ _ hx
  case warningList => exact framed fun _ => rfl
  case ackFault => exact served fun _ hx => ackFault_dark _ _ hx
  case faultRead => exact framed fun _ => rfl
  case accountRead => exact served fun _ hx => readAccount_chans hP _ hx
  case fridgeSet => exact acted fun _ hx => setFridge_chans hP _ hx
  case policySet => exact served fun _ hx => setPolicy_dark _ _ hx
  case policyGet => exact framed fun x => by rw [getPolicy_state]
  case policyLock => exact framed fun _ => rfl
  case seedCharge => exact acted fun _ hx => revalidate_chans hP (hx.of_ca rfl)
  case timeSet => exact served fun _ hx => setTime_dark _ hx
  case card => exact served fun _ hx => useCard_chans hP _ _ hx
  case activity => exact served fun _ hx => setActivity_chans hP _ _ hx
  case motion => exact acted fun _ hx => setMoving_chans hP _ hx
  case slotSwap => exact acted fun x hx => hx.of_ca (swapSlots_ca x)
  case inputConfig => exact served fun _ hx => configureInput_chans hP _ _ hx
  case hold => exact acted fun _ hx => addCause_chans hP _ _ hx
  case releaseHold => exact framed releaseHold_ca
  case clearLockout => exact served fun _ hx => clearLockout_chans hP hx
  case clearChannel => exact served fun _ hx => clearChannel_dark _ hx
  case wiringCheck => exact served fun _ hx => startCheck_dark hx
  case checkRead => exact framed fun x => by rw [readCheck_state]
  case restart => exact restartPart_dark _ h
  case bunkRest => exact served fun _ hx => bunkRest_chans hP _ _ _ _ hx
  case bunkWake => exact served fun _ hx => bunkWake_chans hP _ hx
  case snooze => exact served fun _ hx => snoozeRest_chans hP _ hx
  case pairHandset => exact framed fun _ => rfl
  all_goals exact h

theorem undefinedRequest_dark {l : Link} {bytes : List Byte} (h : ArrayHas AllDark s)
    (e : execUndefinedRequest l bytes s = .next t) : ArrayHas AllDark t := by
  unfold execUndefinedRequest at e
  dsimp only at e
  split at e
  case h_6 => exact performRequest_dark h e
  all_goals cases e
  · exact h.of_ca (emptyTransfer_ca _ _)
  · exact h.of_ca (answerPort_ca _ _ _ _)
  · exact h.of_ca (answerPort_ca _ _ _ _)
  · exact h.of_ca (answerPort_ca _ _ _ _)
  · exact h.of_ca (fetch_ca _ _ _)

theorem exec_dark {c : Instr} (h : ArrayHas AllDark s) (e : exec c s = .next t) : ArrayHas AllDark t := by
  have hP := allDark_targetKeeps
  have event : ∀ {f : State → State}, (∀ x, ArrayHas AllDark x → ArrayHas AllDark (f x)) →
      ArrayHas AllDark (unlessReset f s) := fun hf => unlessReset_keeps hf h
  have framed : ∀ {f : State → State}, (∀ x, (f x).ca = x.ca) → ArrayHas AllDark (unlessReset f s) :=
    fun hf => event fun x hx => hx.of_ca (hf x)
  cases hk : requestKind c
  case some lk =>
    rw [exec_request hk] at e
    exact performRequest_dark h e
  cases c
  case undefinedRequest => exact undefinedRequest_dark h e
  case transferStart => cases e; exact h.of_ca (transferStart_ca _ _)
  case fetch => cases e; exact h.of_ca (fetch_ca _ _ _)
  case kpor => cases e; exact resetMainDomain_dark _
  case mainReset => cases e; exact resetMainDomain_dark _
  case mainResetEnd => cases e; exact mainResetEnd_dark h
  case crystalStop => cases e; exact stopCrystal_chans hP h
  case crystalReturn => cases e; exact h.of_ca (returnCrystal_ca s)
  case crystalEdgesResume => cases e; exact h.of_ca (startStable_ca s)
  case rtcSecond => cases e; exact h.of_ca rfl
  case inputRawChange => cases e; exact rawChange_chans hP _ _ h
  case conversion => cases e; exact event fun _ hx => conversionAt_chans hP _ _ _ _ hx
  case fullDetection => cases e; exact event fun _ hx => fullDetection_chans hP _ _ hx
  case floorCorrection => cases e; exact event fun _ hx => floorCorrection_chans hP _ _ hx
  case voltageFloorClear => cases e; exact event fun _ hx => floorClear_chans hP _ _ _ hx
  case battTempConversion => cases e; exact event fun _ hx => battTemp_chans hP _ hx
  case review => cases e; exact event fun _ hx => review_chans hP hx
  case grantEndReached => cases e; exact event fun _ hx => expireGrant_chans hP _ _ hx
  case grantStartReached => cases e; exact event fun _ hx => startGrant_chans hP _ _ hx
  case inrushWindowEnd => cases e; exact event fun _ hx => inrushEnd_dark _ hx
  case channelShort => cases e; exact event fun _ hx => channelShort_dark _ _ hx
  case channelOvercurrent => cases e; exact event fun _ hx => channelOvercurrent_dark _ _ hx
  case retryTimerExpiry => cases e; exact event fun _ hx => retryExpiry_dark _ hx
  case openLoadDetected => cases e; exact event fun _ hx => openLoad_dark _ _ hx
  case wiringStepEnd => cases e; exact event fun _ hx => wiringStepEnd_dark _ _ hx
  case cabinTempConversion => cases e; exact event fun _ hx => cabinTemp_dark _ hx
  case flameTempConversion => cases e; exact event fun _ hx => flameTemp_chans hP _ hx
  case preheatTimerExpiry =>
    cases e; exact event fun _ hx => phaseExpiry_chans (fun _ hx => enterIgnite_chans hP hx) hx
  case ignitionTimerExpiry =>
    cases e; exact event fun _ hx => phaseExpiry_chans (fun _ hx => ignitionFails_chans hP hx) hx
  case regulationTimerExpiry =>
    cases e; exact event fun _ hx => phaseExpiry_chans (fun _ hx => regulate_chans hP hx) hx
  case flameProvenTimeout => cases e; exact event fun _ hx => phaseExpiry_chans (fun _ hx => hx.of_ca rfl) hx
  case satisfiedTimeout =>
    cases e; exact event fun _ hx => phaseExpiry_chans (fun _ hx => purgeAndMerge_chans hP _ _ hx) hx
  case flameOut => cases e; exact event fun _ hx => phaseExpiry_chans (fun _ hx => flameGone_chans hP hx) hx
  case purgeGlowOff => cases e; exact event fun _ hx => glowOff_chans hP hx
  case purgeComplete => cases e; exact event fun _ hx => purgeExpiry_chans hP hx
  case cabinetTempConversion => cases e; exact event fun _ hx => cabinetTemp_chans hP _ hx
  case slotDue => cases e; exact event fun _ hx => slotDue_dark hx
  case runStart => cases e; exact event fun _ hx => runStart_chans hP hx
  case runComplete => cases e; exact event fun _ hx => runExpiry_chans hP hx
  case minOffExpiry => cases e; exact framed minOffExpiry_ca
  case accountTimer => cases e; exact event fun _ hx => accountExpiry_chans hP hx
  case quietHoursEnd => cases e; exact event fun _ hx => quietEnds_chans hP _ hx
  case wakeTimeout => cases e; exact event fun _ hx => timeoutRest_chans hP _ hx
  case wakeLeadReached => cases e; exact event fun _ hx => wakeLead_chans hP _ hx
  case plannedEndReached => cases e; exact event fun _ hx => plannedEndPassed_chans hP _ hx
  case escalation => cases e; exact event fun _ hx => escalation_chans hP _ _ hx
  case flashPhaseChange => cases e; exact event fun _ hx => flashPhase_chans hP _ hx
  case sunriseStep => cases e; exact event fun _ hx => sunriseStep_chans hP _ hx
  case chimePatternStart => cases e; exact framed chimeStart_ca
  case chimePatternEnd => cases e; exact framed chimeEnd_ca
  case dozeTimerExpiry => cases e; exact framed enterDoze_ca
  case dozeExitComplete => cases e; exact framed leaveDoze_ca
  case handsetFrame => cases e; exact event fun _ hx => handsetFrame_chans hP _ _ _ hx
  case handsetRepeat => cases e; exact event fun _ hx => handsetRepeat_chans hP _ hx
  case repeatWindowTimeout => cases e; exact framed repeatTimeout_ca
  case pairingWindowClose => cases e; exact framed closeWindow_ca
  case debounceExpiry => cases e; exact event fun _ hx => debounceExpiry_chans hP _ hx
  case infraredMarkEdge => cases e; exact framed fun _ => rfl
  case timingError => cases e; exact framed fun _ => rfl
  case checkError => cases e; exact framed (checkError_ca _)
  case fade => cases e; exact event fun _ hx => fade_dark _ _ hx
  case fuelPumpPulse => cases e; exact event fun _ hx => fuelPumpPulse_dark _ hx
  all_goals cases hk

/-- Settles O57, command by command: a target, a trip, a timer, the wiring check and a reset each leave an idle channel
dark. -/
theorem outputsStayOff : Obligations.OutputsStayOff := fun s _ h e =>
  (outputsOff_iff _).2 (step_keeps (P := ArrayHas AllDark) exec_dark (fun _ _ h => h) ((outputsOff_iff s).1 h) e)

end
end Sys2Proof.Machine

namespace Sys2Proof.Machine

/-! ## O26: the first trip, and the inrush and retry timers (R56, R58 to R60, R62, R63) -/

/-! ### Events of a channel outside a main reset -/

section
variable {s : State} (hr : Running s) (n : Fin 12) (k : Nat)
include hr

theorem exec_channelShort : exec (.channelShort n k) s = .next (channelShort n k s) :=
  congrArg Host.Outcome.next (unlessReset_running hr _)

theorem exec_channelOvercurrent : exec (.channelOvercurrent n k) s = .next (channelOvercurrent n k s) :=
  congrArg Host.Outcome.next (unlessReset_running hr _)

theorem exec_inrushWindowEnd : exec (.inrushWindowEnd n) s = .next (inrushEnd n s) :=
  congrArg Host.Outcome.next (unlessReset_running hr _)

theorem exec_retryTimerExpiry : exec (.retryTimerExpiry n) s = .next (retryExpiry n s) :=
  congrArg Host.Outcome.next (unlessReset_running hr _)

theorem exec_openLoadDetected : exec (.openLoadDetected n k) s = .next (openLoad n k s) :=
  congrArg Host.Outcome.next (unlessReset_running hr _)

theorem exec_fade : exec (.fade n k) s = .next (fade n k s) :=
  congrArg Host.Outcome.next (unlessReset_running hr _)

theorem exec_fuelPumpPulse : exec (.fuelPumpPulse k) s = .next (fuelPumpPulse k s) :=
  congrArg Host.Outcome.next (unlessReset_running hr _)

theorem exec_wiringStepEnd (tripped : Bool) : exec (.wiringStepEnd tripped k) s = .next (wiringStepEnd tripped k s) :=
  congrArg Host.Outcome.next (unlessReset_running hr _)

end

/-! ### The level a start drives (R58, R60) -/

/-- Of the channels that do not fade, the fan, the fuel pump and the vent alone are not on/off channels (R60). -/
theorem isOnOff_of_not_faded : ∀ n : Fin 12, isFaded n = false →
    isOnOff n = !decide (n.val = 1 ∨ n.val = 2 ∨ n.val = 11) := by decide

/-- A channel that does not fade drives its target where it follows a level, and fully on where it does not (R60). -/
theorem driveLevel_of_not_faded {n : Fin 12} {target : Nat} (hf : isFaded n = false) (ht : target ≠ 0) :
    driveLevel n target = if n.val = 1 ∨ n.val = 2 ∨ n.val = 11 then target else 255 := by
  unfold driveLevel
  rw [isOnOff_of_not_faded n hf]
  by_cases hl : n.val = 1 ∨ n.val = 2 ∨ n.val = 11 <;> simp [hl, ht]

/-- A channel that enters STARTING with a non-zero target: a faded lamp from level 0, another at once (R58, R60). -/
theorem enterStarting_eq (n : Fin 12) (t : Nat) {c : Channel} (ht : c.target ≠ 0) :
    enterStarting n t c = { c with
      state := .starting
      output := if isFaded n then 0 else if n.val = 1 ∨ n.val = 2 ∨ n.val = 11 then c.target else 255
      inrushDue := some (t + (if n.val = 0 then 2000000 else 500000))
      retryDue := none, lowSince := none, fadeAt := t, pulseAt := none } := by
  have out : (if isFaded n then 0 else driveLevel n c.target) =
      if isFaded n then 0 else if n.val = 1 ∨ n.val = 2 ∨ n.val = 11 then c.target else 255 := by
    cases hf : isFaded n
    · simp [driveLevel_of_not_faded hf ht]
    · rfl
  unfold enterStarting; rw [out]; rfl

/-! ### Trips in STARTING (R62, R63) -/

section
variable {s : State} {n : Fin 12}

theorem ratingInForce_of_not_test (h : (chan n s).state ≠ .test) : ratingInForce n s = rating s.policy n := by
  unfold ratingInForce; split
  · next e _ => exact absurd e h
  · rfl

theorem channelShort_below {k : Nat} (hs : (chan n s).state ≠ .test)
    (hk : senseReading k < shortThreshold (rating s.policy n)) : channelShort n k s = s := by
  unfold channelShort; dsimp only
  rw [ratingInForce_of_not_test hs, if_neg (Nat.not_le.2 hk)]

theorem channelShort_starting {k : Nat} (hs : (chan n s).state = .starting)
    (hk : shortThreshold (rating s.policy n) ≤ senseReading k) :
    channelShort n k s = tripOn n .short (senseReading k) s := by
  unfold channelShort; dsimp only
  rw [ratingInForce_of_not_test (by simp [hs]), if_pos hk, hs]

theorem channelOvercurrent_starting {k : Nat} (hs : (chan n s).state = .starting) :
    channelOvercurrent n k s =
      if senseReading k < shortThreshold (rating s.policy n) ∧ inrushLimit (rating s.policy n) < senseReading k then
        tripOn n .overcurrent (senseReading k) s
      else s := by
  unfold channelOvercurrent; dsimp only
  rw [ratingInForce_of_not_test (by simp [hs]), hs, ite_and]

/-- The first trip of an activation in STARTING is retried after 2 s, whatever its detector (R63). -/
theorem tripOn_first (code : FaultCode) (k : Nat) (hs : (chan n s).state = .starting) (hc : (chan n s).tripCount = 0) :
    tripOn n code k s = notifyBoth .channelRetry (setChan n (tripChannel s.tu.clock k (chan n s)) s) := by
  unfold tripOn; simp [hs, hc]

/-! ### The timers (R59, R63) -/

theorem inrushEnd_eq {due : Nat} (hd : (chan n s).inrushDue = some due) (hs : (chan n s).state = .starting) :
    inrushEnd n s = setChan n { chan n s with state := .on, tripCount := 0, inrushDue := none } (reach due s) := by
  unfold inrushEnd; dsimp only; rw [hs, hd]

theorem retryExpiry_eq {due : Nat} (hd : (chan n s).retryDue = some due) (hs : (chan n s).state = .tripped) :
    retryExpiry n s = setChan n
      (if (chan n s).target = 0 then { chan n s with state := .off, retryDue := none }
       else enterStarting n (max s.tu.clock due) (chan n s)) (reach due s) := by
  unfold retryExpiry; dsimp only; rw [hs, hd]; rfl

end

/-- Settles O26, detector by detector and timer by timer. -/
theorem firstTripRetriesAndTimersAct : Obligations.FirstTripRetriesAndTimersAct := by
  refine ⟨fun n current s hr hs hc => ?_, fun n s hr => ⟨fun due hd hs => ?_, fun due hd hs => ?_⟩⟩
  · intro i rated t
    refine ⟨fun hi => ?_, fun hlo hhi => ?_, fun hi => ?_, fun hi => ?_⟩
    · rw [exec_channelShort hr, channelShort_starting hs hi, tripOn_first _ _ hs hc]; rfl
    · rw [exec_channelOvercurrent hr, channelOvercurrent_starting hs, if_pos ⟨hhi, hlo⟩, tripOn_first _ _ hs hc]; rfl
    · rw [exec_channelShort hr, channelShort_below (by simp [hs]) hi]
    · rw [exec_channelOvercurrent hr, channelOvercurrent_starting hs, if_neg fun h => Nat.not_lt.2 hi h.2]
  · rw [exec_inrushWindowEnd hr, inrushEnd_eq hd hs]; rfl
  · rw [exec_retryTimerExpiry hr, retryExpiry_eq hd hs]
    by_cases ht : (chan n s).target = 0
    · simp only [if_pos ht]; rfl
    · simp only [if_neg ht, enterStarting_eq n _ ht]; rfl

end Sys2Proof.Machine

namespace Sys2Proof.Machine

/-! ## O28: targets, open loads, fades and pump pulses (R57, R58, R60, R61, R65) -/

theorem setChan_setChan (n : Fin 12) (c d : Channel) (s : State) : setChan n c (setChan n d s) = setChan n c s := by
  simp [setChan]

/-! ### A target (R57, R58, R60, R61) -/

section
variable {n : Fin 12} {target t : Nat} {c : Channel}

theorem targetChannel_off_zero (h : c.state = .off) : targetChannel n 0 t c = { c with target := 0 } := by
  simp [targetChannel, h]

theorem targetChannel_off (h : c.state = .off) (ht : target ≠ 0) :
    targetChannel n target t c = enterStarting n t { c with target := target } := by
  simp [targetChannel, h, ht]

theorem targetChannel_driving (h : c.state = .starting ∨ c.state = .on) :
    targetChannel n target t c =
      if target = 0 then enterOff c
      else if target = c.target then c
      else if isFaded n then { c with target := target, fadeAt := t }
      else if n.val = 2 then { c with target := target }
      else { c with target := target, output := driveLevel n target } := by
  unfold targetChannel
  obtain h | h := h <;> rw [h]

theorem targetChannel_idle (h : c.state = .tripped ∨ c.state = .locked ∨ c.state = .test) :
    targetChannel n target t c = { c with target := target } := by
  unfold targetChannel
  obtain h | h | h := h <;> rw [h]

theorem enterOff_eq (c : Channel) : enterOff c = { c with
    state := .off, target := 0, output := 0, inrushDue := none, retryDue := none, lowSince := none, pulseAt := none
    tripCount := if c.state = .on then 0 else c.tripCount
    openLoad := if c.state = .on then false else c.openLoad } := by
  simp [enterOff]

theorem not_faded_of_pump (h : n.val = 2) : isFaded n = false := by simp [isFaded, h]

end

/-! ### Open loads outside CH2 (R65) -/

theorem openLoadFires_setChan (n : Fin 12) (c : Channel) (s : State) :
    openLoadFires n (setChan n c s) =
      if c.openLoad then setChan n c s else notifyBoth .openLoad (setChan n { c with openLoad := true } s) := by
  unfold openLoadFires
  simp only [chan_setChan_self, setChan_setChan]

theorem openLoad_of_not_pump {n : Fin 12} {k : Nat} {s : State} (hn : n.val ≠ 2) (hs : (chan n s).state = .on)
    (ht : (chan n s).target ≠ 0) (hk : k < openLimit (rating s.policy n)) :
    openLoad n k s = openLoadFires n (setChan n { chan n s with lastCurrent := k } s) := by
  unfold openLoad; dsimp only
  rw [if_pos ⟨hs, ht, hk⟩, if_neg hn]

/-! ### A fade (R60) -/

theorem fade_eq {n : Fin 12} {levels : Nat} {s : State} (hf : isFaded n = true)
    (hs : (chan n s).state = .starting ∨ (chan n s).state = .on) (hl : 0 < levels)
    (hd : (chan n s).output ≠ (chan n s).target) :
    let c := chan n s
    let k := min levels (levelGap c.output c.target)
    let t := max s.tu.clock (c.fadeAt + ceilDiv (k * 20000) 17)
    fade n levels s = setChan n
      { c with output := if c.output ≤ c.target then c.output + k else c.output - k, fadeAt := t }
      (reach (c.fadeAt + ceilDiv (k * 20000) 17) s) := by
  intro c k t
  have gap : 0 < levelGap c.output c.target := by
    have hd : c.output ≠ c.target := hd
    unfold levelGap; omega
  have hk : 0 < k := Nat.lt_min.2 ⟨hl, gap⟩
  have level : towards c.target k c.output = if c.output ≤ c.target then c.output + k else c.output - k :=
    towards_eq _ _ _ (Nat.min_le_right _ _)
  unfold fade; dsimp only
  rw [if_pos ⟨hf, hs, hk⟩, level]; rfl

/-! ### A pump pulse (R60, R65) -/

section
variable {p : Nat} {c : Channel}

theorem judgePulse_quiet {low : Bool} (h : low = false ∨ c.state ≠ .on) : judgePulse low p c = (none, false) := by
  unfold judgePulse
  refine if_neg fun ⟨hs, hl⟩ => ?_
  obtain h | h := h
  · simp [h] at hl
  · exact h hs

theorem judgePulse_first (hs : c.state = .on) (hl : c.lowSince = none) : judgePulse true p c = (some p, false) := by
  unfold judgePulse; rw [if_pos ⟨hs, rfl⟩, hl]

theorem judgePulse_later {since : Nat} (hs : c.state = .on) (hl : c.lowSince = some since) :
    judgePulse true p c = (some since, decide (since + 39 * 2000000 ≤ p)) := by
  unfold judgePulse; rw [if_pos ⟨hs, rfl⟩, hl]; rfl

end

theorem openLimit_pump (p : Policy) : openLimit (rating p 2) = 8 := by simp [openLimit, rating]

/-- CH2 after the pulse at pump time `p`, before the open-load detector fires: the rate last handed is in force, and the
open-load timing stands at `low` (R60, R65). -/
def pulsedPump (p i : Nat) (low : Option Nat) (c : Channel) : Channel :=
  { c with output := c.target, pulseAt := some p, lastCurrent := i, lowSince := low }

/-- A pulse is driven at its pump time, and its current judged; CH2's open limit is 8 mA (R56, R60, R65). -/
theorem fuelPumpPulse_eq {k : Nat} {s : State} (hs : (chan 2 s).state = .starting ∨ (chan 2 s).state = .on) :
    let i := senseReading k
    let p := nextPulse (chan 2 s) s.tu.clock
    let j := judgePulse (decide (i < 8)) p (chan 2 s)
    let t := setChan 2 (pulsedPump p i j.1 (chan 2 s)) (reach (clockOfPump p) s)
    fuelPumpPulse k s = if j.2 then openLoadFires 2 t else t := by
  intro i p j t
  unfold fuelPumpPulse; dsimp only
  rw [if_pos hs, openLimit_pump]; rfl

theorem nextPulse_eq (c : Channel) (t : Nat) :
    nextPulse c t = match c.pulseAt with
      | some x => max (39 * t) (x + 39 * 60000000 / c.output)
      | none => 39 * t := by
  unfold nextPulse; cases c.pulseAt <;> rfl

section
variable {k : Nat} {s : State}

/-- A pulse at or above the limit, or in STARTING, ends the open-load timing (R65). -/
theorem fuelPumpPulse_quiet (hs : (chan 2 s).state = .starting ∨ (chan 2 s).state = .on)
    (hq : 8 ≤ senseReading k ∨ (chan 2 s).state = .starting) :
    fuelPumpPulse k s = setChan 2 (pulsedPump (nextPulse (chan 2 s) s.tu.clock) (senseReading k) none (chan 2 s))
      (reach (clockOfPump (nextPulse (chan 2 s) s.tu.clock)) s) := by
  have hj : decide (senseReading k < 8) = false ∨ (chan 2 s).state ≠ .on :=
    hq.imp (fun h => decide_eq_false (Nat.not_lt.2 h)) fun h => by simp [h]
  rw [fuelPumpPulse_eq hs, judgePulse_quiet hj]; rfl

/-- The first low pulse in ON begins the open-load timing (R65). -/
theorem fuelPumpPulse_first (hs : (chan 2 s).state = .on) (hk : senseReading k < 8) (hl : (chan 2 s).lowSince = none) :
    fuelPumpPulse k s = setChan 2
      (pulsedPump (nextPulse (chan 2 s) s.tu.clock) (senseReading k) (some (nextPulse (chan 2 s) s.tu.clock)) (chan 2 s))
      (reach (clockOfPump (nextPulse (chan 2 s) s.tu.clock)) s) := by
  rw [fuelPumpPulse_eq (.inr hs), decide_eq_true hk, judgePulse_first hs hl]; rfl

/-- A later low pulse fires the detector from 2 s after the timing began on, which shows once in an activation (R65). -/
theorem fuelPumpPulse_later {since : Nat} (hs : (chan 2 s).state = .on) (hk : senseReading k < 8)
    (hl : (chan 2 s).lowSince = some since) :
    let p := nextPulse (chan 2 s) s.tu.clock
    let c := pulsedPump p (senseReading k) (some since) (chan 2 s)
    let t := reach (clockOfPump p) s
    fuelPumpPulse k s =
      if (chan 2 s).openLoad = false ∧ since + 39 * 2000000 ≤ p then
        notifyBoth .openLoad (setChan 2 { c with openLoad := true } t)
      else setChan 2 c t := by
  intro p c t
  rw [fuelPumpPulse_eq (.inr hs), decide_eq_true hk, judgePulse_later hs hl]
  dsimp only
  rw [openLoadFires_setChan]
  cases ho : (chan 2 s).openLoad <;> simp [pulsedPump, ho, p, c, t]

/-- CH2's detector fires at its next pulse, or not at all (R65). -/
theorem openLoad_pump (hs : (chan 2 s).state = .on) (ht : (chan 2 s).target ≠ 0) (hk : k < 8) :
    openLoad 2 k s = if pumpFires s then fuelPumpPulse k s else s := by
  unfold openLoad; dsimp only
  rw [openLimit_pump, if_pos ⟨hs, ht, hk⟩]; rfl

theorem pumpFires_of_timing {since : Nat} (hl : (chan 2 s).lowSince = some since) :
    pumpFires s = decide (since + 39 * 2000000 ≤ nextPulse (chan 2 s) s.tu.clock) := by
  unfold pumpFires; dsimp only; rw [hl]; rfl

theorem pumpFires_of_no_timing (hl : (chan 2 s).lowSince = none) : pumpFires s = false := by
  unfold pumpFires; dsimp only; rw [hl]

end

/-- Settles O28, clause by clause. -/
theorem openLoadFadeAndPulse : Obligations.OpenLoadFadeAndPulse := by
  refine ⟨fun n target s => ?_, fun n k s hr hn hs ht hk => ?_, fun k s hr hs ht hk => ?_,
    fun n levels s hr h4 h7 hs hl hd => ?_, fun k s hr hs => ?_⟩
  · intro c lamp lit becomes
    have step : ∀ x, targetChannel n target s.tu.clock c = x → becomes x := fun x e => congrArg (setChan n · s) e
    refine ⟨fun h ht => step _ (by rw [ht]; exact targetChannel_off_zero h), fun h ht => step _ ?_,
      fun h => ⟨fun ht => step _ ?_, fun ht same => step _ ?_, fun ht new => ⟨fun faded => step _ ?_,
        fun pump => step _ ?_, fun dark pump => step _ ?_⟩⟩, fun h => step _ (targetChannel_idle h)⟩
    · rw [targetChannel_off h ht, enterStarting_eq n _ ht]; rfl
    · rw [targetChannel_driving h, if_pos ht, enterOff_eq]
    · rw [targetChannel_driving h, if_neg ht, if_pos same]
    all_goals rw [targetChannel_driving h, if_neg ht, if_neg new]
    · exact if_pos faded
    · rw [not_faded_of_pump pump, if_neg Bool.false_ne_true, if_pos pump]
    · rw [show isFaded n = false from dark, if_neg Bool.false_ne_true, if_neg pump, driveLevel_of_not_faded dark ht]
  · rw [exec_openLoadDetected hr, openLoad_of_not_pump hn hs ht hk, openLoadFires_setChan]
  · intro p t
    have hp : nextPulse (chan 2 s) s.tu.clock = p := nextPulse_eq _ _
    have hi : senseReading k = k := Nat.min_eq_left (by omega)
    rw [exec_openLoadDetected hr, exec_fuelPumpPulse hr, openLoad_pump hs ht hk]
    refine ⟨fun since hl => ?_, fun hl => by rw [pumpFires_of_no_timing hl]; rfl⟩
    rw [pumpFires_of_timing hl, hp]
    refine ⟨fun fires => ⟨fuelPumpPulse k s, by rw [decide_eq_true fires]; rfl, rfl, ?_⟩, fun early => ?_⟩
    · rw [fuelPumpPulse_later hs (by omega) hl, hp]
      split
      · refine ⟨?_, rfl⟩
        show (chan 2 (setChan 2 _ _)).openLoad = true
        rw [chan_setChan_self]
      · next silent =>
        refine ⟨?_, rfl⟩
        rw [chan_setChan_self]
        exact Bool.eq_true_of_not_eq_false fun ho => silent ⟨ho, fires⟩
    · rw [decide_eq_false (Nat.not_le.2 early)]; rfl
  · have hf : isFaded n = true := by simp [isFaded, h4, h7]
    rw [exec_fade hr, fade_eq hf hs hl hd]; rfl
  · intro c i p t
    have hp : nextPulse (chan 2 s) s.tu.clock = p := nextPulse_eq _ _
    rw [exec_fuelPumpPulse hr]
    refine ⟨fun hq => ?_, fun hi hon hl => ?_, fun hi hon since hl calm => ?_, fun hi hon ho since hl fires => ?_⟩
    · rw [fuelPumpPulse_quiet hs hq, hp]; rfl
    · rw [fuelPumpPulse_first hon hi hl, hp]; rfl
    · rw [fuelPumpPulse_later hon hi hl, hp, if_neg]
      · rfl
      · rintro ⟨ho, fires⟩
        obtain h | h := calm
        · exact absurd (ho.symm.trans h) Bool.false_ne_true
        · omega
    · rw [fuelPumpPulse_later hon hi hl, hp, if_pos ⟨ho, fires⟩]; rfl

end Sys2Proof.Machine

namespace Sys2Proof.Machine

/-! ## O29: the wiring check (R68 to R72) -/

/-! ### Its start (R68, R69) -/

theorem chan_beginStep (n m : Fin 12) (start : RtcTime) (v : Vector WiringResult 12) (s : State) :
    chan n (beginStep m start v s) = { chan n s with state := .test, output := if n = m then 255 else 0 } :=
  chan_testChannels n m _

theorem exec_wiringCheck_refused {s : State} (h : Serving .v s) (hm : mayCheck s = false) :
    exec (.wiringCheck .v) s = .next (answered .v 0x54#8 .condition [] s) := by
  have hm' : mayCheck (clearReleased .v s) = false := hm
  refine congrArg Host.Outcome.next (serve_answered h (by decide) ?_)
  unfold startCheck; rw [hm']; rfl

/-- The check begins with CH0's step, and the last check's results are gone (R68, R69). -/
def startedCheck (s : State) : State := syncDoze (beginStep 0 (now s) notTested { s with ca.results := none })

theorem exec_wiringCheck_taken {s : State} (h : Serving .v s) (hm : mayCheck s = true) :
    exec (.wiringCheck .v) s = .next (answer .v 0x54#8 (taken (startedCheck (clearReleased .v s)))) := by
  have hm' : mayCheck (clearReleased .v s) = true := hm
  refine congrArg Host.Outcome.next ((serve_serving h (by decide)).trans (congrArg (answer .v 0x54#8) ?_))
  unfold startCheck; rw [hm']; rfl

/-- The start writes CA and the doze timer alone (R68, R176). -/
theorem startedCheck_beside (s : State) :
    besideAnswer .v { startedCheck s with ca := s.ca } = besideAnswer .v s := by
  unfold startedCheck; rw [syncDoze_eq]; rfl

/-! ### A step of the check (R69) -/

/-- The class of a step's result (R69). -/
theorem classifyPeak_eq (rated peak : Nat) :
    classifyPeak rated peak =
      if peak < rated * 5 / 100 then .open_ else if peak ≤ rated * 150 / 100 then .ok else .high := rfl

theorem wiringStepEnd_eq {tripped : Bool} {peak : Nat} {s : State} {run : WiringRun} (hc : s.ca.check = some run)
    (hk : if tripped then run.rating * 400 / 100 < peak else peak < run.rating * 600 / 100) (hp : peak ≤ 65535) :
    wiringStepEnd tripped peak s =
      endStep (if tripped then .short else classifyPeak run.rating peak) peak run
        { s with tu.clock := if tripped then s.tu.clock else max s.tu.clock run.stepDue } := by
  have sensed : senseReading peak = peak := Nat.min_eq_left hp
  unfold wiringStepEnd; rw [hc]; dsimp only
  cases tripped
  · exact if_pos hk
  · rw [sensed]; exact if_pos hk

/-- The state after a step's result, before the next step or the check's end. -/
def measured (peak : Nat) (run : WiringRun) (s : State) : State :=
  setChan run.underTest { chan run.underTest s with lastCurrent := peak } s

theorem measured_target (n : Fin 12) (peak : Nat) (run : WiringRun) (s : State) :
    (chan n (measured peak run s)).target = (chan n s).target := by
  unfold measured
  by_cases e : n = run.underTest
  · rw [e, chan_setChan_self]
  · rw [chan_setChan_ne e]

theorem endStep_next {cls : WiringClass} {peak : Nat} {run : WiringRun} {s : State} {m : Fin 12}
    (hm : m.val = run.underTest.val + 1) :
    endStep cls peak run s =
      beginStep m run.startTime (run.results.set run.underTest ⟨cls, peak⟩) (measured peak run s) := by
  have hlt : run.underTest.val + 1 < 12 := hm ▸ m.isLt
  obtain rfl : m = ⟨run.underTest.val + 1, hlt⟩ := Fin.ext hm
  exact dif_pos hlt

theorem endStep_last {cls : WiringClass} {peak : Nat} {run : WiringRun} {s : State} (h : run.underTest.val = 11) :
    endStep cls peak run s =
      finishCheck true run (run.results.set run.underTest ⟨cls, peak⟩) (measured peak run s) := by
  have hge : ¬ run.underTest.val + 1 < 12 := by omega
  unfold endStep; dsimp only
  rw [dif_neg hge]; rfl

/-! ### The end of the check (R70, R71) -/

/-- A channel that has left TEST: OFF, or STARTING at a driver's non-zero target (R70). -/
def OffOrStarting (c : Channel) : Prop := c.state = .off ∨ c.state = .starting ∧ c.target ≠ 0

theorem targetChannel_offOrStarting (n : Fin 12) (k t : Nat) (c : Channel) (h : OffOrStarting c) :
    OffOrStarting (targetChannel n k t c) := by
  obtain h | ⟨h, ht⟩ := h
  · by_cases hk : k = 0
    · rw [hk, targetChannel_off_zero h]; exact .inl h
    · rw [targetChannel_off h hk]; exact .inr ⟨rfl, hk⟩
  · rw [targetChannel_driving (.inl h)]
    split
    · exact .inl rfl
    · next hk =>
      (repeat' split)
      · exact .inr ⟨h, ht⟩
      all_goals exact .inr ⟨h, hk⟩

/-- A channel that is OFF or STARTING follows its target from there (R70). -/
theorem startFromTarget_state (n : Fin 12) (t : Nat) {c : Channel} (h : OffOrStarting c) :
    (startFromTarget n t c).state = if (startFromTarget n t c).target = 0 then .off else .starting := by
  obtain h | ⟨h, ht⟩ := h
  · by_cases ht : c.target = 0
    · simp [startFromTarget, h, ht]
    · simp [startFromTarget, enterStarting, h, ht]
  · simp [startFromTarget, h, ht]

/-- The array of a finished check: its report stands, and every channel has left TEST (R70, R72). -/
def CheckClosed (report : WiringReport) (a : ChannelArray) : Prop :=
  a.check = none ∧ a.results = some report ∧ EveryChan OffOrStarting a

theorem checkClosed_targetKeeps (report : WiringReport) : TargetKeeps (CheckClosed report) :=
  fun n k t _ ⟨hc, hr, hall⟩ => ⟨hc, hr, everyChan_targetKeeps targetChannel_offOrStarting n k t _ hall⟩

theorem revalidate_noticed {n : Notice} {s : State} (h : Noticed n s) (hn : n ≠ .heaterPhase) :
    Noticed n (revalidate s) := by
  obtain ⟨T, l, q, c, e⟩ := readmitted_state s
  have readmits : Noticed n (readmitted s).1 := by rw [e]; exact h.of_tableFrame hn rfl
  rw [revalidate_eq]
  refine Noticed.of_tableFrame ?_ hn (mergeAll_tableFrame _)
  split
  · exact readmits.notifyBoth _
  · exact readmits

/-- The check closed by its report, every channel back in OFF and told to both links (R70, R71). -/
def reported (report : WiringReport) (s : State) : State :=
  notifyBoth .checkDone (endTest { s with ca.check := none, ca.results := some report })

theorem reported_closed (report : WiringReport) (s : State) : ArrayHas (CheckClosed report) (reported report s) := by
  have ended : ArrayHas (CheckClosed report) (endTest { s with ca.check := none, ca.results := some report }) :=
    ⟨rfl, rfl, arrayHas_everyChan.2 fun n => .inl (by rw [chan_endTest])⟩
  exact ended.of_ca (by simp [reported])

theorem reported_besideGrants (report : WiringReport) (s : State) : besideGrants (reported report s) = besideGrants s := by
  simp [reported]

/-- After its report the check's end revalidates the table, starts a heater that waited for it, and takes the channels
from their targets (R70, R71). -/
theorem finishCheck_stages (completed : Bool) (run : WiringRun) (v : Vector WiringResult 12) (s : State) :
    ∃ x, finishCheck completed run v s = syncDoze (startAllFromTargets x) ∧
      ArrayHas (CheckClosed ⟨completed, run.startTime, now s, v⟩) x ∧ Noticed .checkDone x ∧
      besideGrants x = besideGrants s := by
  have hP := checkClosed_targetKeeps ⟨completed, run.startTime, now s, v⟩
  have closed := revalidate_chans hP (reported_closed ⟨completed, run.startTime, now s, v⟩ s)
  have noticed : Noticed .checkDone (revalidate (reported ⟨completed, run.startTime, now s, v⟩ s)) :=
    revalidate_noticed (noticed_notifyBoth _ _) (by decide)
  have frame := (revalidate_besideGrants _).trans (reported_besideGrants ⟨completed, run.startTime, now s, v⟩ s)
  refine ⟨_, rfl, ArrayHas.ite (enterPreheat_chans hP closed) closed, ?_, ?_⟩ <;> split
  · exact noticed.of_tableFrame (by decide) (enterPreheat_tableFrame _)
  · exact noticed
  · exact (enterPreheat_besideGrants _).trans frame
  · exact frame

/-- The end of the check, as its last step makes it. -/
theorem finishCheck_ends (completed : Bool) (run : WiringRun) (v : Vector WiringResult 12) (s : State) :
    let u := finishCheck completed run v s
    u.tu.clock = s.tu.clock ∧ u.ca.check = none ∧ u.ca.results = some ⟨completed, run.startTime, now s, v⟩ ∧
      Noticed .checkDone u ∧
      (∀ n : Fin 12, (chan n u).state = if (chan n u).target = 0 then .off else .starting) ∧
      besideGrants { u with tu.dozeDue := none } = besideGrants { s with tu.dozeDue := none } := by
  obtain ⟨x, e, ⟨hc, hr, hall⟩, hn, hf⟩ := finishCheck_stages completed run v s
  rw [e, syncDoze_eq]
  have clock : x.tu.clock = s.tu.clock := congrArg TimeUnit.clock (besideGrants_tu hf)
  refine ⟨clock, hc, hr, hn, fun n => ?_, ?_⟩
  · show (chan n (startAllFromTargets x)).state = if (chan n (startAllFromTargets x)).target = 0 then _ else _
    rw [chan_startAllFromTargets]
    exact startFromTarget_state n _ (arrayHas_everyChan.1 hall n)
  · exact congrArg (fun y : State => { y with tu.dozeDue := none }) hf

theorem endStep_next_channels {cls : WiringClass} {peak : Nat} {run : WiringRun} {s : State} {m : Fin 12}
    (hm : m.val = run.underTest.val + 1) (n : Fin 12) :
    let u := endStep cls peak run s
    (chan n u).state = .test ∧ (chan n u).target = (chan n s).target ∧ (chan n u).output = if n = m then 255 else 0 := by
  dsimp only
  rw [endStep_next hm, chan_beginStep]
  exact ⟨rfl, measured_target n peak run s, rfl⟩

theorem endStep_clock (cls : WiringClass) (peak : Nat) (run : WiringRun) (s : State) :
    (endStep cls peak run s).tu.clock = s.tu.clock := by
  by_cases h : run.underTest.val + 1 < 12
  · rw [endStep_next (m := ⟨_, h⟩) rfl]; rfl
  · rw [endStep_last (by omega)]
    exact (finishCheck_ends _ _ _ _).1

/-- Settles O29, from the start of the check and from the two ways its steps go on. -/
theorem wiringCheckRuns : Obligations.WiringCheckRuns := by
  unfold Obligations.WiringCheckRuns
  refine ⟨fun s h => ⟨exec_wiringCheck_refused h, fun hm => ?_⟩, ?_⟩
  · have array : (answer .v 0x54#8 (taken (startedCheck (clearReleased .v s)))).ca =
        (beginStep 0 (now s) notTested { s with ca.results := none }).ca :=
      (answer_ca _ _ _).trans (syncDoze_ca _)
    refine ⟨_, exec_wiringCheck_taken h hm, answer_Answered _ _ _, ?_, ?_, fun n => ?_, ?_⟩
    · rw [array]; rfl
    · rw [array]; rfl
    · unfold chan; rw [array]; exact chan_beginStep n 0 _ _ _
    · have answered := answer_besideAnswer .v 0x54#8 (taken (startedCheck (clearReleased .v s)))
      calc besideAnswer .v { answer .v 0x54#8 (taken (startedCheck (clearReleased .v s))) with ca := s.ca }
          = besideAnswer .v { startedCheck (clearReleased .v s) with ca := s.ca } :=
            congrArg (fun x : State => { x with ca := s.ca }) answered
        _ = besideAnswer .v s := startedCheck_beside (clearReleased .v s)
  · intro tripped peak s hrun run hc hk hp
    rw [exec_wiringStepEnd hrun, wiringStepEnd_eq hc hk hp, classifyPeak_eq]
    refine ⟨_, rfl, endStep_clock _ _ _ _, fun m hm => ⟨?_, endStep_next_channels hm, ?_⟩, fun hlast => ?_⟩
    · rw [endStep_next hm]; rfl
    · rw [endStep_next hm]; rfl
    · rw [endStep_last hlast]
      obtain ⟨-, hcheck, hresults, hn, hstates, hf⟩ := finishCheck_ends true run _ _
      exact ⟨hcheck, hresults, hn, hstates, hf⟩

end Sys2Proof.Machine

namespace Sys2Proof.Machine

/-! ## The heater under the work of other blocks

The grant table, faults, warnings, accounts and rests reach HS only where AU hands it the merged grant (R52), where a limit
lowers its stage (R81) and at SAFE HOLD entry (R93); beside these they leave HS and its channels as they are. -/

/-- HS, its three channels, and the main reset's hold. -/
def heaterView (s : State) : Heater × Channel × Channel × Channel × Option ResetHold :=
  (s.hs, chan 0 s, chan 1 s, chan 2 s, s.tu.resetHold)

/-- What the other blocks leave of the part: the heater's view, and but for notices and wake requests the notices and the exit
from DOZE. -/
def heatView (s : State) : (Heater × Channel × Channel × Channel × Option ResetHold) × BitVec 32 × BitVec 32 × Option Nat :=
  (heaterView s, s.portV.notices, s.portB.notices, s.tu.exitDue)

/-- The predicate reads of that view alone, and notices, wake requests and HS's answers to the other blocks keep it. -/
structure HeatKept (P : State → Prop) : Prop where
  view : ∀ {s t}, P s → heatView t = heatView s → P t
  told : ∀ {s} (l : Link) (n : Notice), P s → P (notify l n s)
  woken : ∀ {s} (c : WakeCause), P s → P (wake c s)
  hand : ∀ {s}, P s → P (handHeat s)
  lower : ∀ {s}, P s → P (lowerStage s)
  hold : ∀ {s} (x : Bool), P s → P (heaterHoldEntry x s)

theorem keeps_ite {P : State → Prop} {c : Prop} [Decidable c] {s t : State} (hs : P s) (ht : P t) :
    P (if c then s else t) := by
  split
  · exact hs
  · exact ht

theorem heaterView_of {s t : State} (hs : t.hs = s.hs) (ca : t.ca = s.ca) (tu : t.tu.resetHold = s.tu.resetHold) :
    heaterView t = heaterView s := by
  unfold heaterView chan; rw [hs, ca, tu]

theorem heaterView_of_heatView {s t : State} (h : heatView t = heatView s) : heaterView t = heaterView s :=
  congrArg Prod.fst h

theorem mapPort_heaterView (l : Link) (f : Port → Port) (s : State) : heaterView (mapPort l f s) = heaterView s :=
  heaterView_of (by simp) (by simp) (by simp)

theorem wake_heaterView (c : WakeCause) (s : State) : heaterView (wake c s) = heaterView s :=
  heaterView_of (by simp) (by simp) (by simp)

/-! ### Operations that leave the heater's view -/

@[simp] theorem heatView_withCm (s : State) (x : ChargeMonitor) : heatView { s with cm := x } = heatView s := rfl
@[simp] theorem heatView_withAu (s : State) (x : AdmissionUnit) : heatView { s with au := x } = heatView s := rfl
@[simp] theorem heatView_withCs (s : State) (x : ColdStore) : heatView { s with cs := x } = heatView s := rfl
@[simp] theorem heatView_withRm (s : State) (x : RestMonitor) : heatView { s with rm := x } = heatView s := rfl
@[simp] theorem heatView_withWu (s : State) (x : WarningUnit) : heatView { s with wu := x } = heatView s := rfl
@[simp] theorem heatView_withFu (s : State) (x : FaultUnit) : heatView { s with fu := x } = heatView s := rfl
@[simp] theorem heatView_withHr (s : State) (x : Handset) : heatView { s with hr := x } = heatView s := rfl
@[simp] theorem heatView_withEi (s : State) (x : EventInputs) : heatView { s with ei := x } = heatView s := rfl
@[simp] theorem heatView_withPolicy (s : State) (x : Policy) : heatView { s with policy := x } = heatView s := rfl

@[simp] theorem syncDoze_heatView (s : State) : heatView (syncDoze s) = heatView s := by
  unfold syncDoze; split <;> rfl

theorem setChan_heatView {n : Fin 12} (hn : 3 ≤ n.val) (c : Channel) (s : State) : heatView (setChan n c s) = heatView s := by
  have ne : ∀ m : Fin 12, m.val < 3 → m ≠ n := fun m hm e => by subst e; omega
  unfold heatView heaterView
  rw [chan_setChan_ne (ne 0 (by decide)), chan_setChan_ne (ne 1 (by decide)), chan_setChan_ne (ne 2 (by decide))]
  rfl

theorem setTarget_heatView {n : Fin 12} (hn : 3 ≤ n.val) (k : Nat) (s : State) : heatView (setTarget n k s) = heatView s :=
  setChan_heatView hn _ s

@[simp] theorem updateGrant_heatView (l : Load) (p : Purpose) (f : Grant → Grant) (s : State) :
    heatView (updateGrant l p f s) = heatView s := rfl

@[simp] theorem dropGrant_heatView (l : Load) (p : Purpose) (s : State) : heatView (dropGrant l p s) = heatView s := by
  unfold dropGrant; split <;> rfl

@[simp] theorem restoreGrant_heatView (g : Grant) (s : State) : heatView (restoreGrant g s) = heatView s := by
  unfold restoreGrant; dsimp only; split <;> rfl

@[simp] theorem internalRequest_heatView (l : Load) (p : Purpose) (o : Origin) (e : Option RtcTime) (s : State) :
    heatView (internalRequest l p o e s) = heatView s := by
  unfold internalRequest; split <;> rfl

@[simp] theorem placeGrant_heatView (g : Grant) (s : State) : heatView (placeGrant g s) = heatView s := rfl

@[simp] theorem formRamp_heatView (b : Bunk) (s : State) : heatView (formRamp b s) = heatView s := by
  unfold formRamp; (repeat' split) <;> rfl

@[simp] theorem syncFlash_heatView (b : Bunk) (s : State) : heatView (syncFlash b s) = heatView s := rfl

@[simp] theorem cutPending_heatView (s : State) : heatView (cutPending s) = heatView s := by
  unfold cutPending; split <;> rfl

@[simp] theorem raiseGrant_heatView (g : Grant) (s : State) : heatView (raiseGrant s g) = heatView s := by
  unfold raiseGrant; (repeat' split) <;> rfl

@[simp] theorem readmitSuspended_heatView (a : State × Bool) (g : Grant) :
    heatView (readmitSuspended a g).1 = heatView a.1 := by
  obtain ⟨s, b⟩ := a
  unfold readmitSuspended; dsimp only; (repeat' split) <;> rfl

@[simp] theorem shedWhile_heatView (c : State → Bool) (p : Grant → Bool) (t : RtcTime) :
    ∀ (k : Nat) (a : State × Nat), heatView (shedWhile c p t k a).1 = heatView a.1
  | 0, _ => rfl
  | k + 1, (s, n) => by
    unfold shedWhile
    split
    · split
      · rw [shedWhile_heatView c p t k]; rfl
      · rfl
    · rfl

@[simp] theorem reviewTable_heatView (h : Nat) (f : Int) (s : State) : heatView (reviewTable h f s).1 = heatView s := by
  have restored : ∀ x : State, heatView (restoreAll x).1 = heatView x := fun x =>
    foldl_keeps (fun a : State × Nat => heatView a.1) _ (fun a g => by split <;> simp) _ (x, 0)
  have one : ∀ x : State, heatView (restoreOne h f x).1 = heatView x := fun x => by
    obtain e | ⟨g, -, e, -⟩ := restoreOne_cases h f x <;> simp [e]
  unfold reviewTable; dsimp only; (repeat' split)
  · exact restored _
  · exact (one _).trans (shedWhile_heatView _ _ _ _ _)
  · exact shedWhile_heatView _ _ _ _ _

@[simp] theorem settleBreach_heatView (h : Nat) (f : Int) (s : State) : heatView (settleBreach h f s) = heatView s := by
  unfold settleBreach; (repeat' split) <;> simp

@[simp] theorem recordCause_heatView (c : HoldCause) (s : State) : heatView (recordCause c s) = heatView s := by
  cases c <;> rfl

@[simp] theorem cutChime_heatView (k : WarnKind) (t : WarnTarget) (s : State) : heatView (cutChime k t s) = heatView s := by
  unfold cutChime; (repeat' split) <;> rfl

@[simp] theorem updateWarning_heatView (k : WarnKind) (t : WarnTarget) (f : Warning → Warning) (s : State) :
    heatView (updateWarning k t f s) = heatView s := rfl

@[simp] theorem setRecord_heatView (i : Fin 4) (r : Option Identity) (s : State) : heatView (setRecord i r s) = heatView s :=
  rfl

@[simp] theorem setRest_heatView (b : Bunk) (r : Option BunkRest) (s : State) : heatView (setRest b r s) = heatView s := rfl

@[simp] theorem setSunrise_heatView (b : Bunk) (x : SunriseState) (p : Option RtcTime) (s : State) :
    heatView (setSunrise b x p s) = heatView s := rfl

section
variable {P : State → Prop} {s : State} (hP : HeatKept P)
include hP

theorem notifyBoth_heat (n : Notice) (h : P s) : P (notifyBoth n s) := hP.told .b n (hP.told .v n h)

theorem notifyWarning_heat (t : WarnTarget) (h : P s) : P (notifyWarning t s) := by
  have hv : P (if deliveredV t then notify .v .warning s else s) := keeps_ite (hP.told _ _ h) h
  unfold notifyWarning
  exact keeps_ite (hP.told _ _ hv) hv

theorem markUncertain_heat (x : Bool) (h : P s) : P (markUncertain x s) := by
  have hr : ∀ y : RestMonitor, P { s with rm := y } := fun _ => hP.view h rfl
  unfold markUncertain
  exact keeps_ite (hP.told _ _ (hr _)) (hr _)

theorem setPrewarm_heat (b : Bunk) (x : PrewarmState) (h : P s) : P (setPrewarm b x s) := by
  have hr : ∀ r, P (setRest b r s) := fun _ => hP.view h rfl
  unfold setPrewarm; split
  · exact h
  · exact keeps_ite (hr _) (hP.told _ _ (hr _))

theorem releaseEntryRest_heat (b : Bunk) (h : P s) : P (releaseEntryRest b s) := by
  unfold releaseEntryRest; split
  · exact keeps_ite h (setPrewarm_heat hP _ _ h)
  · exact h

theorem inputWakes_heat (n : Fin 8) (x : Bool) (h : P s) : P (inputWakes n x s) := by
  have routed : ∀ y, P y → P (if x then wake .input y else y) := fun _ hy => keeps_ite (hP.woken _ hy) hy
  unfold inputWakes
  exact keeps_ite (keeps_ite (routed _ (hP.woken _ h)) (hP.woken _ (routed _ h))) (routed _ h)

theorem mergeHeater_heat (h : P s) : P (mergeHeater s) := hP.hand (hP.hand h)

theorem setTarget_heat {n : Fin 12} (hn : 3 ≤ n.val) (k : Nat) (h : P s) : P (setTarget n k s) :=
  hP.view h (setTarget_heatView hn k s)

/-! ### The merge (R51, R52, R109) -/

theorem mergeLoad_heat (l : Load) (h : P s) : P (mergeLoad l s) := by
  have hz : ∀ b, P (formRamp b (syncFlash b s)) := fun b => hP.view h (formRamp_heatView b _)
  cases l
  case heater => exact mergeHeater_heat hP h
  case fridge => exact hP.view h (cutPending_heatView s)
  case zoneLower => exact setTarget_heat hP (n := 4) (by decide) _ (hz .lower)
  case zoneUpper => exact setTarget_heat hP (n := 5) (by decide) _ (hz .upper)
  all_goals exact setTarget_heat hP (by decide) _ h

theorem mergeLoads_heat (ls : List Load) (h : P s) : P (mergeLoads ls s) :=
  foldl_preserves P (fun _ l h => mergeLoad_heat hP l h) ls h

theorem mergeAll_heat (h : P s) : P (mergeAll s) := mergeLoads_heat hP _ h

theorem fridgeLocked_heat (h : P s) : P (fridgeLocked s) := by
  unfold fridgeLocked; split
  · exact h
  · exact setTarget_heat hP (by decide) _ (hP.view h rfl)

/-! ### Admission, shedding and the review (R32 to R50) -/

theorem withdraw_heat (l : Load) (p : Purpose) (h : P s) : P (withdraw l p s) := by
  unfold withdraw; split
  · exact h
  · exact mergeLoad_heat hP l (hP.view h (by simp))

theorem accept_heat (g : Grant) (st : Status) (h : P s) : P (accept g st s).state :=
  mergeLoad_heat hP g.load (hP.view h (by simp))

theorem judgeAsk_heat (r : GrantAsk) (h : P s) : P (judgeAsk r s).state := by
  unfold judgeAsk; dsimp only; (repeat' split)
  · exact h
  · exact accept_heat hP _ _ h
  · exact accept_heat hP _ _ h
  · exact accept_heat hP _ _ h
  · exact h

theorem grantAsk_heat (r : GrantAsk) (h : P s) : P (grantAsk r s).state := by
  unfold grantAsk; dsimp only; (repeat' split)
  · exact withdraw_heat hP _ _ h
  · exact h
  · exact judgeAsk_heat hP r h
  · exact withdraw_heat hP _ _ h
  · exact h
  · exact judgeAsk_heat hP r h

theorem applyCaps_heat (h : P s) : P (applyCaps s) := by
  have e := foldl_keeps heatView raiseGrant (fun s g => raiseGrant_heatView g s)
  unfold applyCaps
  exact mergeLoads_heat hP _ (hP.view h (e _ _))

theorem revalidate_heat (h : P s) : P (revalidate s) := by
  obtain ⟨T, l, q, c, e⟩ := readmitted_state s
  rw [revalidate_eq]
  exact mergeAll_heat hP (keeps_ite (notifyBoth_heat hP _ (hP.view h (by simp [e]))) (hP.view h (by simp [e])))

theorem suspendLoad_heat (l : Load) (h : P s) : P (suspendLoad l s) :=
  mergeLoad_heat hP l (hP.view h rfl)

theorem releaseRestartable_heat (l : Load) (h : P s) : P (releaseRestartable l s) := by
  have e := foldl_keeps (fun a : State × Bool => heatView a.1) _ readmitSuspended_heatView
  unfold releaseRestartable; dsimp only
  exact mergeLoad_heat hP l (keeps_ite (notifyBoth_heat hP _ (hP.view h (e _ _))) (hP.view h (e _ _)))

theorem holdShed_heat (t : RtcTime) (h : P s) : P (holdShed t s) := by
  unfold holdShed; dsimp only
  have shed := fun x : State => shedWhile_heatView (fun _ => true)
    (fun g => isExternal g.purpose && (g.state == .active || g.state == .waiting)) t 16 (x, 0)
  exact mergeAll_heat hP (keeps_ite (hP.view h (shed s)) (notifyBoth_heat hP _ (hP.view h (shed s))))

theorem reviewAdmission_heat (m : Int) (h : P s) : P (reviewAdmission m s) := by
  unfold reviewAdmission
  extract_lets _ opened hz free r settled p _ noted shed told
  have e : heatView settled = heatView s := (settleBreach_heatView hz free r.1).trans (reviewTable_heatView hz free opened)
  have hn : P noted := hP.view h e
  have hs : P shed := keeps_ite hn (notifyBoth_heat hP _ hn)
  exact mergeAll_heat hP (keeps_ite hs (notifyBoth_heat hP _ hs))

/-! ### Faults (R62 to R64, R157 to R164) -/

theorem suspendFor_heat (r : FaultReport) (t : Bool) (h : P s) : P (suspendFor r t s) := by
  unfold suspendFor suspend; dsimp only; (repeat' split)
  · exact h
  · exact hP.view h rfl
  · exact suspendLoad_heat hP _ (hP.view h rfl)

theorem enterHold_heat (heater : Bool) (h : P s) : P (enterHold heater s) :=
  holdShed_heat hP _ (mergeHeater_heat hP (hP.hold _ (hP.woken _ (notifyBoth_heat hP _ (hP.view h rfl)))))

theorem addCause_heat (c : HoldCause) (heater : Bool) (h : P s) : P (addCause c heater s) := by
  have hr : P (recordCause c s) := hP.view h (by simp)
  unfold addCause; (repeat' split)
  · exact h
  · exact notifyBoth_heat hP _ hr
  · exact enterHold_heat hP heater hr

theorem chargePathHold_heat (r : FaultReport) (h : P s) : P (chargePathHold r s) := by
  unfold chargePathHold; split
  · exact addCause_heat hP _ _ h
  · exact h

theorem takeFault_heat (r : FaultReport) (h : P s) : P (takeFault r s) := by
  unfold takeFault; (repeat' split)
  · exact chargePathHold_heat hP r (suspendFor_heat hP r true (hP.woken _ (notifyBoth_heat hP _ (hP.view h rfl))))
  · exact chargePathHold_heat hP r (suspendFor_heat hP r false (notifyBoth_heat hP _ h))
  · exact chargePathHold_heat hP r (addCause_heat hP _ _ (suspendFor_heat hP r false
      (hP.woken _ (notifyBoth_heat hP _ (hP.view h rfl)))))

/-! ### The Warning Unit (R138 to R149) -/

theorem reconsiderFlash_heat (b : Bunk) (h : P s) : P (reconsiderFlash b s) := by
  unfold reconsiderFlash; (repeat' split)
  · exact h
  · exact mergeLoad_heat hP _ (hP.view h (by simp))
  · exact withdraw_heat hP _ _ (hP.view h rfl)

theorem reconsiderTarget_heat (t : WarnTarget) (h : P s) : P (reconsiderTarget t s) := by
  unfold reconsiderTarget; split
  · exact reconsiderFlash_heat hP _ h
  · exact h
  · exact h

theorem raiseWarning_heat (k : WarnKind) (t : WarnTarget) (l : WarnLevel) (h : P s) :
    P (raiseWarning k t l s) := by
  unfold raiseWarning; split
  · exact h
  · exact reconsiderTarget_heat hP _ (hP.woken _ (notifyWarning_heat hP _ (hP.view h rfl)))

theorem removeWarning_heat (k : WarnKind) (t : WarnTarget) (h : P s) :
    P (removeWarning k t s) := by
  unfold removeWarning; split
  · exact h
  · have hn : P (notifyWarning t { s with wu.list := s.wu.list.filter (fun w => !isWarning k t w) }) :=
      notifyWarning_heat hP _ (hP.view h rfl)
    exact reconsiderTarget_heat hP _ (hP.view hn (cutChime_heatView k t _))

theorem escalateWarning_heat (k : WarnKind) (t : WarnTarget) (h : P s) :
    P (escalateWarning k t s) := by
  unfold escalateWarning
  exact reconsiderTarget_heat hP _ (hP.woken _ (notifyWarning_heat hP _ (hP.view h rfl)))

theorem markAcked_heat (k : WarnKind) (t : WarnTarget) (h : P s) : P (markAcked k t s) := by
  unfold markAcked
  exact reconsiderTarget_heat hP _ (notifyWarning_heat hP _ (hP.view h (cutChime_heatView _ _ _)))

/-! ### The records (R114 to R126) -/

theorem handCond_heat (k : WarnKind) (l : WarnLevel) (i : Fin 4) (a b : Bool) (h : P s) :
    P (handCond k l i a b s) := by
  unfold handCond
  exact keeps_ite (removeWarning_heat hP _ _ h) (keeps_ite (raiseWarning_heat hP _ _ _ h) h)

theorem evaluateConds_heat (i : Fin 4) (h : P s) : P (evaluateConds i s) := by
  unfold evaluateConds
  exact handCond_heat hP _ _ _ _ _ (handCond_heat hP _ _ _ _ _ (handCond_heat hP _ _ _ _ _
    (handCond_heat hP _ _ _ _ _ (hP.view h rfl))))

theorem endShort_heat (i : Fin 4) (c : Option (Bool × ShortTarget)) (h : P s) :
    P (endShort i c s) := by
  unfold endShort; split
  · exact h
  · exact removeWarning_heat hP _ _ h

theorem tellNews_heat (i : Fin 4) (r : Identity) (n : RestNews) (h : P s) :
    P (tellNews i r n s) := by
  have ha : P (if n.account then notify .v .account s else s) := keeps_ite (hP.told _ _ h) h
  unfold tellNews
  exact keeps_ite (endShort_heat hP _ _ ha) ha

theorem accumulate_heat (i : Fin 4) (t : RtcTime) (h : P s) : P (accumulate i t s) := by
  unfold accumulate; split
  · exact h
  · exact evaluateConds_heat hP _ (tellNews_heat hP _ _ _ (hP.view h rfl))

theorem accumulateAll_heat (t : RtcTime) (h : P s) : P (accumulateAll t s) :=
  foldl_preserves P (fun _ i h => accumulate_heat hP i t h) allRecords h

theorem tellVerdict_heat (i : Fin 4) (r : Identity) (t : ShortTarget) (v : RestVerdict) (h : P s) :
    P (tellVerdict i r t v s) := by
  unfold tellVerdict; split
  · exact h
  · exact hP.told _ _ (endShort_heat hP _ _ h)
  · exact raiseWarning_heat hP _ _ _ (endShort_heat hP _ _ h)

theorem changeClass_heat (i : Fin 4) (r : Bool) (p q : Nat) (a b : Activity) (h : P s) :
    P (changeClass i r p q a b s) := by
  have hs : ∀ (c : Bool) (x : Option Identity), P (setRecord i x (if c then notify .v .account s else s)) :=
    fun c x => hP.view (keeps_ite (hP.told _ _ h) h) rfl
  unfold changeClass; split
  · exact h
  · exact evaluateConds_heat hP _ (keeps_ite (tellVerdict_heat hP _ _ _ _ (hP.view (hs _ none) rfl)) (hs _ _))

theorem changeActivity_heat (i : Fin 4) (a : Activity) (r : Bool) (h : P s) :
    P (changeActivity i a r s) := by
  unfold changeActivity; split
  · exact h
  · exact changeClass_heat hP _ _ _ _ _ _ (hP.view h rfl)

theorem loseSlot_heat (i : Fin 4) (h : P s) : P (loseSlot i s) := by
  have ha : P (accumulate i (now s) s) := accumulate_heat hP i _ h
  have freed : ∀ x : State, P x → P (match record i x with
      | some r => setRecord i (some { r with slot := none }) x | none => x) := by
    intro x hx; split
    · exact hP.view hx rfl
    · exact hx
  unfold loseSlot
  refine hP.told _ _ (evaluateConds_heat hP i (freed _ ?_))
  split
  · exact keeps_ite (changeActivity_heat hP _ _ _ ha) ha
  · exact ha

/-! ### Bunk rests (R127 to R133, R141, R150) -/

theorem reportQuiet_heat (h : P s) : P (reportQuiet s) := by
  unfold reportQuiet
  exact hP.lower (applyCaps_heat hP (hP.view h rfl))

theorem testWake_heat (b : Bunk) (h : P s) : P (testWake b s) := by
  unfold testWake; dsimp only; split
  · exact removeWarning_heat hP _ _ h
  · split
    · exact raiseWarning_heat hP _ _ _ h
    · exact keeps_ite (escalateWarning_heat hP _ _ h) h

theorem newPlannedEnd_heat (b : Bunk) (h : P s) : P (newPlannedEnd b s) :=
  testWake_heat hP b (removeWarning_heat hP _ _ h)

theorem reconcileSunrise_clear_heat (b : Bunk) (h : P s) : P (reconcileSunrise.clear b s) :=
  (hP.view (withdraw_heat hP (bunkZone b) .schedule h) rfl)

theorem reconcileSunrise_place_heat (b : Bunk) (r : GrantAsk) (p : RtcTime) (h : P s) :
    P (reconcileSunrise.place b r p s) :=
  (hP.view (judgeAsk_heat hP r h) rfl)

theorem reconcileSunrise_heat (b : Bunk) (h : P s) : P (reconcileSunrise b s) := by
  have hc := reconcileSunrise_clear_heat hP b h
  unfold reconcileSunrise; dsimp only; split
  · exact hc
  · refine keeps_ite hc (keeps_ite (hP.view h rfl) (keeps_ite h ?_))
    split
    · exact keeps_ite h (reconcileSunrise_place_heat hP _ _ _ h)
    · exact reconcileSunrise_place_heat hP _ _ _ h

theorem placePrewarm_heat (b : Bunk) (r : GrantAsk) (h : P s) : P (placePrewarm b r s) := by
  have hj := judgeAsk_heat hP r h
  unfold placePrewarm
  exact keeps_ite (setPrewarm_heat hP _ _ (hP.view (releaseEntryRest_heat hP _ hj) rfl)) (setPrewarm_heat hP _ _ hj)

theorem reconcilePrewarm_heat (h : P s) : P (reconcilePrewarm s) := by
  unfold reconcilePrewarm
  extract_lets holder s1 entry
  have h1 : P s1 := hP.view h rfl
  clear_value s1 entry
  split
  · exact keeps_ite h1 (keeps_ite (setPrewarm_heat hP _ _ h1) (placePrewarm_heat hP _ _ h1))
  · split
    · exact keeps_ite h1 (hP.view (withdraw_heat hP .heater .schedule h1) rfl)
    · exact h1

theorem prewarmRemoved_heat (c : Removal) (h : P s) : P (prewarmRemoved c s) := by
  unfold prewarmRemoved
  have he : P { s with rm.entryRest := none } := hP.view h rfl
  refine reconcilePrewarm_heat hP ?_
  split
  · exact keeps_ite he (setPrewarm_heat hP _ _ he)
  · exact he

theorem flashRemoved_heat (b : Bunk) (c : Removal) (h : P s) : P (flashRemoved b c s) := by
  unfold flashRemoved; split
  · exact reconsiderFlash_heat hP _ (hP.view h rfl)
  · exact reconsiderFlash_heat hP _ h
  · exact reconsiderFlash_heat hP _ h

/-! ### Removals and releases (R49, R133, R149, R152) -/

theorem placeCooling_heat (h : P s) : P (placeCooling s) :=
  mergeLoad_heat hP .fridge (hP.view h (by simp))

theorem reportRemoval_heat (l : Load) (p : Purpose) (c : Removal) (h : P s) :
    P (reportRemoval l p c s) := by
  unfold reportRemoval; split
  · exact prewarmRemoved_heat hP c h
  · exact hP.view h rfl
  · exact hP.view h rfl
  · exact flashRemoved_heat hP _ _ h
  · exact flashRemoved_heat hP _ _ h
  · exact keeps_ite (placeCooling_heat hP h) h
  · exact h

theorem removeEntry_heat (l : Load) (p : Purpose) (c : Removal) (h : P s) :
    P (removeEntry l p c s) := by
  unfold removeEntry; split
  · exact h
  · exact reportRemoval_heat hP l p c (mergeLoad_heat hP l (hP.view h (by simp)))

theorem releaseNonRestartable_heat (l : Load) (h : P s) : P (releaseNonRestartable l s) := by
  have e : ∀ gone : List Grant, heatView (gone.foldl (fun s g => dropGrant g.load g.purpose s) s) = heatView s := fun gone =>
    foldl_keeps heatView _ (fun s g => dropGrant_heatView g.load g.purpose s) gone s
  unfold releaseNonRestartable
  exact foldl_preserves P (fun _ g h => reportRemoval_heat hP g.load g.purpose _ h) _
    (mergeLoad_heat hP l (hP.view h (e _)))

theorem releaseSuspension_heat (e : Suspension) (h : P s) : P (releaseSuspension e s) := by
  unfold releaseSuspension
  exact keeps_ite (releaseRestartable_heat hP _ (hP.view h rfl)) (releaseNonRestartable_heat hP _ (hP.view h rfl))

/-! ### The end of a rest, acknowledgement, SNOOZE (R129, R130, R144) -/

theorem leavePrewarm_heat (b : Bunk) (h : P s) : P (leavePrewarm b s) := by
  unfold leavePrewarm; (repeat' split)
  · exact hP.view (withdraw_heat hP .heater .schedule h) rfl
  · exact hP.view h rfl
  · exact hP.view h rfl
  · exact h
  · exact h

theorem endRest_heat (b : Bunk) (h : P s) : P (endRest b s) := by
  unfold endRest; split
  · exact h
  · have hq := reportQuiet_heat hP (hP.view (leavePrewarm_heat hP b h) (setRest_heatView b none _))
    have hw := withdraw_heat hP (bunkZone b) .schedule (removeWarning_heat hP .wake (.bunk b) hq)
    exact hP.told _ _ (reconcilePrewarm_heat hP (hP.view hw (setSunrise_heatView b .done none _)))

theorem timeoutRest_heat (b : Bunk) (h : P s) : P (timeoutRest b s) := by
  unfold timeoutRest; split
  · exact h
  · exact keeps_ite (endRest_heat hP b h) h

theorem ackEntry_heat (k : WarnKind) (t : WarnTarget) (h : P s) : P (ackEntry k t s) := by
  have hm := markAcked_heat hP k t h
  unfold ackEntry; dsimp only; split
  · exact endRest_heat hP _ hm
  · exact hm

theorem bunkAck_heat (b : Bunk) (h : P s) : P (bunkAck b s).1 :=
  foldl_preserves P (fun _ w h => ackEntry_heat hP w.kind w.target h) _ h

theorem tellPlannedEnd_heat (b : Bunk) (m : Bool) (h : P s) : P (tellPlannedEnd b m s) := by
  have hw : P (if m then newPlannedEnd b s else testWake b s) :=
    keeps_ite (newPlannedEnd_heat hP b h) (testWake_heat hP b h)
  unfold tellPlannedEnd
  exact reconcilePrewarm_heat hP (reportQuiet_heat hP (reconcileSunrise_heat hP b hw))

theorem snoozeRest_heat (b : Bunk) (h : P s) : P (snoozeRest b s).1 := by
  have hr : ∀ r, P (tellPlannedEnd b true (setRest b r s)) := fun r =>
    tellPlannedEnd_heat hP b true (hP.view h (by simp))
  unfold snoozeRest; (repeat' split)
  · exact h
  · exact h
  · exact h
  · exact hP.told .b .account (hr _)

/-! ### The fridge's runs (R106 to R110) -/

theorem beginRun_heat (k : RunKind) (h : P s) : P (beginRun k s) :=
  setTarget_heat hP (by decide) _ (hP.view h rfl)

theorem endRun_heat (h : P s) : P (endRun s) := setTarget_heat hP (by decide) _ (hP.view h rfl)

theorem setWarm_heat (h : P s) : P (setWarm s) := raiseWarning_heat hP _ _ _ (hP.view h rfl)

theorem clearWarm_heat (h : P s) : P (clearWarm s) := removeWarning_heat hP _ _ (hP.view h rfl)

theorem completeRun_heat (k : RunKind) (h : P s) : P (completeRun k s) := by
  have he : P (endRun { s with cs.c := completedCredit k s.cs.c }) := endRun_heat hP (hP.view h rfl)
  unfold completeRun
  exact keeps_ite (setWarm_heat hP he) he

theorem setFridge_heat (on : Bool) (h : P s) : P (setFridge on s) := by
  unfold setFridge; dsimp only; (repeat' split)
  · exact h
  · exact placeCooling_heat hP (hP.view h rfl)
  · exact clearWarm_heat hP (withdraw_heat hP _ _ (hP.view (endRun_heat hP h) rfl))
  · exact clearWarm_heat hP (withdraw_heat hP _ _ (hP.view h rfl))

theorem cabinetTemp_heat (x : TempResult) (h : P s) : P (cabinetTemp x s) := by
  unfold cabinetTemp cabinetValue cabinetFailed; dsimp only; (repeat' split)
  · exact clearWarm_heat hP (hP.view h rfl)
  · exact hP.view h rfl
  · exact hP.view h rfl
  · exact takeFault_heat hP _ (clearWarm_heat hP (hP.view h rfl))

theorem runStart_heat (h : P s) : P (runStart s) := by
  unfold runStart; (repeat' split)
  · exact beginRun_heat hP _ h
  · exact h
  · exact h

theorem runExpiry_heat (h : P s) : P (runExpiry s) := by
  unfold runExpiry; split
  · exact completeRun_heat hP _ (hP.view h rfl)
  · exact h

/-! ### The conversion (R1 to R20) -/

theorem fullDetector_heat (i : Int) (v : Nat) (h : P s) : P (fullDetector i v s) := by
  have hc : ∀ y : ChargeMonitor, P { s with cm := y } := fun _ => hP.view h rfl
  unfold fullDetector fullFires
  exact keeps_ite (keeps_ite h (hc _)) (keeps_ite (notifyBoth_heat hP _ (hc _)) (hc _))

omit hP in
@[simp] theorem clearDetector_heatView (v : Nat) (s : State) : heatView (clearDetector v s) = heatView s := by
  unfold clearDetector; dsimp only; (repeat' split) <;> rfl

theorem floorDetector_heat (i : Int) (v : Nat) (h : P s) : P (floorDetector i v s) := by
  unfold floorDetector floorFires; dsimp only; (repeat' split)
  · exact hP.view h rfl
  · exact revalidate_heat hP (hP.view h rfl)
  · exact hP.view h rfl
  · exact hP.view h rfl

theorem goodSample_heat (i : Int) (v : Nat) (h : P s) : P (goodSample i v s) :=
  floorDetector_heat hP i v (fullDetector_heat hP i v (hP.view h rfl))

theorem passedCheck_heat (i : Int) (v : Nat) (h : P s) : P (passedCheck i v s) := by
  unfold passedCheck; dsimp only; (repeat' split)
  · exact hP.view h rfl
  · exact goodSample_heat hP i v (hP.view h rfl)
  · exact goodSample_heat hP i v (hP.view h rfl)

theorem failedCheck_heat (h : P s) : P (failedCheck s) := by
  unfold failedCheck; dsimp only; split
  · exact takeFault_heat hP _ (hP.view h rfl)
  · exact hP.view h rfl

theorem conversionAt_heat (t : Nat) (shunt volt : Int) (pass : Bool) (h : P s) :
    P (conversionAt t shunt volt pass s) := by
  unfold conversionAt; dsimp only
  refine hP.view ?_ (clearDetector_heatView _ _)
  exact keeps_ite (passedCheck_heat hP _ _ (hP.view h rfl)) (failedCheck_heat hP (hP.view h rfl))

theorem fullDetection_heat (shunt volt : Int) (h : P s) : P (fullDetection shunt volt s) := by
  unfold fullDetection; (repeat' split) <;> first | with_reducible exact h | exact conversionAt_heat hP _ _ _ _ h

theorem floorCorrection_heat (shunt volt : Int) (h : P s) : P (floorCorrection shunt volt s) := by
  unfold floorCorrection; (repeat' split) <;> first | with_reducible exact h | exact conversionAt_heat hP _ _ _ _ h

theorem floorClear_heat (shunt volt : Int) (pass : Bool) (h : P s) :
    P (floorClear shunt volt pass s) := by
  unfold floorClear; (repeat' split) <;> first | with_reducible exact h | exact conversionAt_heat hP _ _ _ _ h

theorem battTemp_heat (x : TempResult) (h : P s) : P (battTemp x s) := by
  unfold battTemp; dsimp only; split
  · exact hP.view h rfl
  · exact hP.view h rfl
  · exact takeFault_heat hP _ (hP.view h rfl)

/-! ### Keys, inputs and the receiver (R183 to R193) -/

theorem toggle_heat (r : GrantAsk) (h : P s) : P (toggle r s).1 := by
  unfold toggle; split
  · exact withdraw_heat hP _ _ h
  · exact grantAsk_heat hP r h

theorem lightToggle_heat (w : Requester) (b : Bunk) (h : P s) : P (lightToggle w b s).1 :=
  toggle_heat hP _ h

theorem lightStep_heat (up : Bool) (b : Bunk) (h : P s) : P (lightStep up b s).1 := by
  unfold lightStep; extract_lets base level; split
  · exact h
  · exact grantAsk_heat hP _ h

theorem heatStep_heat (up : Bool) (b : Bunk) (h : P s) : P (heatStep up b s).1 := by
  unfold heatStep; split
  · exact h
  · exact grantAsk_heat hP _ h

theorem keyAction_heat (b : Bunk) (k : Byte) (h : P s) : P (keyAction b k s).1 := by
  unfold keyAction; split
  · exact lightToggle_heat hP _ b h
  · exact lightStep_heat hP _ b h
  · exact lightStep_heat hP _ b h
  · exact toggle_heat hP _ h
  · exact toggle_heat hP _ h
  · exact heatStep_heat hP _ b h
  · exact heatStep_heat hP _ b h
  · exact snoozeRest_heat hP b h
  · exact bunkAck_heat hP b h
  · exact h

theorem buttonPress_heat (b : Bunk) (h : P s) : P (buttonPress b s).1 := by
  have ha := bunkAck_heat hP b h
  unfold buttonPress; dsimp only; split
  · exact lightToggle_heat hP _ b ha
  · exact ha

theorem applyKey_heat (b : Bunk) (i k : Byte) (h : P s) : P (applyKey b i k s) :=
  hP.told _ _ (hP.view (keyAction_heat hP b k h) rfl)

theorem takeFrame_heat (i k : Byte) (h : P s) : P (takeFrame i k s) := by
  unfold takeFrame ignoreFrame pairHandset; dsimp only; (repeat' split)
  · exact hP.view h rfl
  · exact hP.woken _ (hP.view (applyKey_heat hP _ i k h) rfl)
  · exact hP.woken _ (hP.told .b .paired (hP.view h rfl))
  · exact hP.view h rfl

theorem takeRepeat_heat (h : P s) : P (takeRepeat s) := by
  have hw : P (wake .handset s) := hP.woken _ h
  unfold takeRepeat; dsimp only; (repeat' split)
  · exact applyKey_heat hP _ _ _ (hP.view hw rfl)
  · exact hw
  · exact hw
  · exact h

theorem handsetFrame_heat (i k : Byte) (e : Nat) (h : P s) : P (handsetFrame i k e s) := by
  unfold handsetFrame; split
  · exact takeFrame_heat hP i k (hP.view h rfl)
  · exact h

theorem handsetRepeat_heat (e : Nat) (h : P s) : P (handsetRepeat e s) := by
  unfold handsetRepeat; split
  · exact takeRepeat_heat hP (hP.view h rfl)
  · exact h

/-! ### Stored times, the review and the clock source (R38 to R48, R170) -/

theorem expireGrant_heat (l : Load) (p : Purpose) (h : P s) : P (expireGrant l p s) := by
  unfold expireGrant; split
  · exact keeps_ite (removeEntry_heat hP l p _ h) h
  · exact h

theorem startGrant_heat (l : Load) (p : Purpose) (h : P s) : P (startGrant l p s) := by
  unfold startGrant; split
  · exact keeps_ite (mergeLoad_heat hP l (hP.view h rfl)) h
  · exact h

theorem passStoredTimes_heat (h : P s) : P (passStoredTimes s) := by
  unfold passStoredTimes
  exact foldl_preserves P (fun _ g h => startGrant_heat hP g.load g.purpose h) _
    (foldl_preserves P (fun _ g h => expireGrant_heat hP g.load g.purpose h) _ h)

theorem handReview_heat (h : P s) : P (handReview s) := by
  unfold handReview
  exact keeps_ite (raiseWarning_heat hP _ _ _ (hP.view h rfl)) (removeWarning_heat hP _ _ (hP.view h rfl))

theorem review_heat (h : P s) : P (review s) := by
  have close : ∀ x, P x →
      P (markReviewed (reconcileSunrise .upper (reconcileSunrise .lower x))) := fun _ hx =>
    hP.view (reconcileSunrise_heat hP .upper (reconcileSunrise_heat hP .lower hx)) (syncDoze_heatView _)
  have handed : ∀ x : State, P x → P (handReview (reviewAdmission x.cm.winMean x)) := fun _ hx =>
    handReview_heat hP (reviewAdmission_heat hP _ hx)
  have window : P (takeWindow { reach s.au.reviewDue s with
      au.reviewDue := (reach s.au.reviewDue s).tu.clock + secs 60 }) := hP.view h rfl
  unfold review
  exact close _ (keeps_ite (addCause_heat hP _ _ (handed _ window)) (handed _ window))

theorem reportDegraded_heat (h : P s) : P (reportDegraded s) := by
  unfold reportDegraded; exact takeFault_heat hP _ (markUncertain_heat hP _ (notifyBoth_heat hP _ h))

theorem stopCrystal_heat (h : P s) : P (stopCrystal s) := by
  unfold stopCrystal; split
  · exact unlessReset_keeps (fun _ hx => reportDegraded_heat hP hx) (hP.view h rfl)
  · exact hP.view h rfl

theorem restTimeSet_heat (h : P s) : P (restTimeSet s) := by
  unfold restTimeSet
  exact reconcilePrewarm_heat hP (timeoutRest_heat hP .upper (timeoutRest_heat hP .lower
    (reportQuiet_heat hP (markUncertain_heat hP _ (hP.view h rfl)))))

/-! ### Rests and warnings on their timers (R119, R131, R141 to R151) -/

theorem accountExpiry_heat (h : P s) : P (accountExpiry s) := by
  unfold accountExpiry
  exact reconcilePrewarm_heat hP (accumulateAll_heat hP _ (hP.view h rfl))

theorem quietEnds_heat (b : Bunk) (h : P s) : P (quietEnds b s) := by
  unfold quietEnds
  exact keeps_ite (reconcilePrewarm_heat hP (reportQuiet_heat hP h)) h

theorem wakeLead_heat (b : Bunk) (h : P s) : P (wakeLead b s) := by
  unfold wakeLead
  exact keeps_ite (testWake_heat hP b h) h

theorem plannedEndPassed_heat (b : Bunk) (h : P s) : P (plannedEndPassed b s) := by
  unfold plannedEndPassed; split
  · exact keeps_ite (testWake_heat hP b h) h
  · exact h

theorem escalation_heat (k : WarnKind) (t : WarnTarget) (h : P s) : P (escalation k t s) := by
  unfold escalation; split
  · exact keeps_ite (escalateWarning_heat hP k t (hP.view h rfl)) h
  · exact h

theorem flashPhase_heat (b : Bunk) (h : P s) : P (flashPhase b s) := by
  unfold flashPhase; split
  · exact mergeLoad_heat hP _ (hP.view h rfl)
  · exact h

theorem sunriseStep_heat (b : Bunk) (h : P s) : P (sunriseStep b s) := by
  unfold sunriseStep; split
  · exact keeps_ite (mergeLoad_heat hP _ h) h
  · exact h

/-! ### The policy's owners (R53, R136, R143) -/

omit hP in
@[simp] theorem applyCapacity_heatView (s : State) : heatView (applyCapacity s) = heatView s := by
  unfold applyCapacity; dsimp only; (repeat' split) <;> rfl

theorem applySettings_heat (old : Nat) (h : P s) : P (applySettings old s) := by
  unfold applySettings
  refine foldl_preserves P (fun x i hx => ?_) _ h
  split
  · exact hx
  · exact changeClass_heat hP _ _ _ _ _ _ hx

theorem applyEscalation_heat (h : P s) : P (applyEscalation s) := by
  unfold applyEscalation
  exact foldl_preserves P (fun _ w hx => keeps_ite (escalateWarning_heat hP w.kind w.target hx) hx) _ h

/-! ### Requests (R32, R47, R99, R115 to R130, R144, R161) -/

theorem requestGrant_heat (l : Link) (load : Load) (p : Purpose) (o : Origin) (v : Level) (e : Option RtcTime)
    (h : P s) : P (requestGrant l load p o v e s).state := by
  unfold requestGrant; split
  · exact h
  · rw [grantReply_state]; exact grantAsk_heat hP _ h

theorem revokeGrant_heat (l : Link) (load : Load) (p : Purpose) (h : P s) :
    P (revokeGrant l load p s).state := by
  unfold revokeGrant taken refuse; (repeat' split)
  · exact removeEntry_heat hP load p _ h
  · exact h
  · exact h

theorem ackWarning_heat (l : Link) (k : WarnKind) (t : WarnTarget) (h : P s) :
    P (ackWarning l k t s).state := by
  unfold ackWarning; (repeat' split)
  · exact h
  · exact h
  · exact ackEntry_heat hP k t h
  · exact h

theorem readAccount_heat (x : AccountSelector) (h : P s) : P (readAccount x s).state := by
  unfold readAccount; split
  · exact h
  · exact accumulate_heat hP _ _ h

theorem useRecord_heat (i : Fin 4) (k : DriverKey) (h : P s) : P (useRecord i k s) := by
  unfold useRecord; dsimp only
  refine evaluateConds_heat hP i (hP.view ?_ (setRecord_heatView _ _ _))
  split
  · exact endShort_heat hP _ _ h
  · exact h

theorem recordFor_heat {k : DriverKey} {t : State} {i : Fin 4} (h : P s) (e : recordFor k s = some (i, t)) :
    P t := by
  unfold recordFor at e
  split at e
  · cases e; exact accumulate_heat hP _ _ h
  · split at e
    · cases e; exact useRecord_heat hP _ _ h
    · obtain ⟨j, -, hj⟩ := Option.map_eq_some_iff.1 e
      cases hj; exact useRecord_heat hP _ _ h

theorem bindSlot_heat (i : Fin 4) (d : DriverSlot) (h : P s) : P (bindSlot i d s) := by
  have lost : P (match slotHolder d s with
      | some j => if j = i then s else loseSlot j s
      | none => s) := by
    split
    · exact keeps_ite h (loseSlot_heat hP _ h)
    · exact h
  unfold bindSlot
  refine hP.told _ _ (evaluateConds_heat hP i ?_)
  split
  · exact hP.view lost rfl
  · exact lost

theorem useCard_heat (d : DriverSlot) (k : DriverKey) (h : P s) : P (useCard d k s).state := by
  unfold useCard; (repeat' split)
  · exact loseSlot_heat hP _ h
  · exact h
  · exact h
  · next e => exact bindSlot_heat hP _ _ (recordFor_heat hP h e)

theorem reportActivity_heat (i : Fin 4) (a : Activity) (h : P s) : P (reportActivity i a s) := by
  unfold reportActivity leaveBunk; split
  · exact h
  · next r _ =>
    have hs : P (setRecord i (some { r with lastActivity := now s }) s) := hP.view h rfl
    have hc := fun left => changeActivity_heat hP i a left hs
    dsimp only; (repeat' split)
    · exact hs
    · exact endRest_heat hP _ (hc _)
    · exact hc _
    · exact hc _

theorem setActivity_heat (d : DriverSlot) (a : Activity) (h : P s) : P (setActivity d a s).state := by
  unfold setActivity; split
  · exact h
  · exact reportActivity_heat hP _ _ (accumulate_heat hP _ _ h)

theorem moveClass_heat (i : Fin 4) (a b : Bool) (h : P s) : P (moveClass i a b s) := by
  unfold moveClass; split
  · exact h
  · exact changeClass_heat hP _ _ _ _ _ _ h

theorem setMoving_heat (m : Bool) (h : P s) : P (setMoving m s) := by
  unfold setMoving
  exact foldl_preserves P (fun _ i h => moveClass_heat hP i _ _ h) _
    ((hP.view (accumulateAll_heat hP (now s) h) rfl))

theorem swapSlots_heat (h : P s) : P (swapSlots s) := by
  have hr : ∀ y : RestMonitor, P { s with rm := y } := fun _ => hP.view h rfl
  unfold swapSlots
  exact keeps_ite (hP.told _ _ (hr _)) (hr _)

theorem endBunkShort_heat (b : Bunk) (h : P s) : P (endBunkShort b s) := by
  unfold endBunkShort
  refine foldl_preserves P (fun x i hx => ?_) _ h
  (repeat' split)
  · exact endShort_heat hP _ _ (hP.view hx rfl)
  all_goals exact hx

theorem bunkRest_heat (b : Bunk) (d : DriverSlot) (p : Option RtcTime) (w : Bool) (h : P s) :
    P (bunkRest b d p w s).state := by
  have told : ∀ (m : Bool) (x : State), P x → P (notify .b .account (tellPlannedEnd b m x)) :=
    fun m _ hx => hP.told _ _ (tellPlannedEnd_heat hP b m hx)
  have begun : ∀ (i : Fin 4) (q : Option RtcTime), P (beginRest b i q w s) := fun i q =>
    told _ _ (endBunkShort_heat hP b (hP.view h (by simp)))
  have updated : ∀ (old : BunkRest) (q : Option RtcTime), P (updateRest b old q w s) := fun old q =>
    told _ _ (hP.view (setPrewarm_heat hP _ _ h) (setRest_heatView _ _ _))
  unfold bunkRest; dsimp only; (repeat' split)
  · exact h
  · exact h
  · exact begun _ _
  · exact updated _ _

theorem bunkWake_heat (b : Bunk) (h : P s) : P (bunkWake b s).state := by
  unfold bunkWake; split
  · exact h
  · exact endRest_heat hP b h

theorem releaseUntied_heat (l : Load) (f : FaultSource → Bool) (h : P s) : P (releaseUntied l f s) := by
  unfold releaseUntied; split
  · exact keeps_ite (releaseSuspension_heat hP _ h) h
  · exact h

theorem releaseTied_heat (r : FaultReport) (h : P s) : P (releaseTied r s) := by
  unfold releaseTied; (repeat' split)
  · exact h
  · exact releaseSuspension_heat hP _ h
  · exact hP.view h rfl
  · exact h

theorem handShort_heat (i : Fin 4) (h : P s) : P (handShort i s) := by
  unfold handShort; split
  · exact raiseWarning_heat hP _ _ _ h
  · exact h

theorem restartRests_heat (h : P s) : P (restartRests s) := by
  unfold restartRests
  refine reconcileSunrise_heat hP .upper (reconcileSunrise_heat hP .lower (testWake_heat hP .upper
    (testWake_heat hP .lower (foldl_preserves P (fun _ i hx => handShort_heat hP i
      (evaluateConds_heat hP i hx)) _ ?_))))
  exact reconcilePrewarm_heat hP (timeoutRest_heat hP .upper (timeoutRest_heat hP .lower
    (reportQuiet_heat hP (hP.view h rfl))))

/-! ### Event inputs, whose overheat reaches HS (R87, R190 to R193) -/

variable (ho : ∀ {x : State}, P x → P (heaterOverheats x))
include ho

theorem overheat_heat (h : P s) : P (overheat s) := takeFault_heat hP _ (ho h)

theorem fixedFunction_heat (n : Fin 8) (h : P s) : P (fixedFunction n s) := by
  unfold fixedFunction; split
  · exact hP.view h rfl
  · exact overheat_heat hP ho h
  · exact hP.view (grantAsk_heat hP (courtesyAsk s) h) rfl
  · exact hP.view (buttonPress_heat hP .lower h) rfl
  · exact hP.view (buttonPress_heat hP .upper h) rfl
  · exact h

theorem inputEvent_heat (n : Fin 8) (h : P s) : P (inputEvent n s) := by
  unfold inputEvent; dsimp only
  have noted : ∀ (c : Bool) (l : Link) (x : State), P x → P (if c then notify l .input x else x) := fun _ _ _ hx =>
    keeps_ite (hP.told _ _ hx) hx
  exact fixedFunction_heat hP ho n (inputWakes_heat hP n _ (noted _ _ _ (noted _ _ _ (hP.view h rfl))))

theorem takeRaw_heat (n : Fin 8) (h : P s) : P (takeRaw n s) := by
  unfold takeRaw; dsimp only; (repeat' split)
  · exact h
  · exact hP.view h rfl
  · exact inputEvent_heat hP ho n h

theorem restartInput_heat (n : Fin 8) (h : P s) : P (restartInput n s) := by
  unfold restartInput; dsimp only; split
  · exact hP.view h rfl
  · exact takeRaw_heat hP ho n (hP.view h rfl)

theorem rawChange_heat (n : Fin 8) (x : Bool) (h : P s) : P (rawChange n x s) := by
  have hp : P (setPin n x s) := hP.view h rfl
  unfold rawChange; dsimp only; (repeat' split)
  · exact h
  · exact hp
  · exact hP.view hp rfl
  · exact takeRaw_heat hP ho n hp

theorem debounceExpiry_heat (n : Fin 8) (h : P s) : P (debounceExpiry n s) := by
  unfold debounceExpiry; dsimp only; split
  · exact takeRaw_heat hP ho n (hP.view h rfl)
  · exact h

theorem configureInput_heat (n : Nat) (x : InputConfig) (h : P s) :
    P (configureInput n x s).state := by
  unfold configureInput; dsimp only; (repeat' split)
  · exact h
  · exact restartInput_heat hP ho _ (hP.view h rfl)
  · exact h

end

end Sys2Proof.Machine

namespace Sys2Proof.Machine

/-! ## O56: what keeps purge-owed settled and the fuel pump gated (R79, R85) -/

/-- The channel has no target and does not drive for one. -/
def Quiet (c : Channel) : Prop := c.target = 0 ∧ c.state ≠ .starting ∧ c.state ≠ .on

theorem pumpGated_iff (s : State) :
    PumpGated s ↔ (s.hs.phase ≠ .ignite → s.hs.phase ≠ .run → Quiet (chan 2 s)) := Iff.rfl

/-- What the two halves of O56 share: the predicate reads the phase, purge-owed, the fuel pump and the main reset's hold, holds
where both halves do, and lasts through OFF and STANDBY and through the end of a purge. -/
structure HeatSafe (P : State → Prop) : Prop where
  same : ∀ {s t : State}, P s → t.hs.phase = s.hs.phase → t.hs.purgeOwed = s.hs.purgeOwed →
    t.tu.resetHold = s.tu.resetHold → (Quiet (chan 2 s) → Quiet (chan 2 t)) → P t
  both : ∀ {s : State}, PurgeSettled s → PumpGated s → P s
  rest : ∀ {s t : State}, P s → s.hs.phase = .off ∨ s.hs.phase = .standby → t.hs.purgeOwed = s.hs.purgeOwed →
    t.tu.resetHold = s.tu.resetHold → Quiet (chan 2 t) → P t
  paid : ∀ {s : State}, P s → P { s with hs.purgeOwed := false }

theorem purgeSettled_heatSafe : HeatSafe PurgeSettled where
  same h hp ho hr _ := by unfold PurgeSettled Running at h ⊢; rw [hp, ho, hr]; exact h
  both h _ := h
  rest h hp ho hr _ := fun running _ => ho.trans (h (hr.symm.trans running) hp)
  paid _ := fun _ _ => rfl

theorem pumpGated_heatSafe : HeatSafe PumpGated where
  same h hp _ _ hq := by rw [pumpGated_iff] at h ⊢; rw [hp]; exact fun hi hr => hq (h hi hr)
  both _ h := h
  rest _ _ _ _ hq := fun _ _ => hq
  paid h := h

/-! ### The fuel pump's channel under targets (R57, R58) -/

theorem targetChannel_zero_quiet (n : Fin 12) (t : Nat) (c : Channel) : Quiet (targetChannel n 0 t c) := by
  unfold targetChannel; split <;> simp_all [Quiet, enterOff]

@[simp] theorem chan_setTarget_ne {m n : Fin 12} (h : m ≠ n) (k : Nat) (s : State) : chan m (setTarget n k s) = chan m s :=
  chan_setChan_ne h _ s

@[simp] theorem chan_setTarget_self (n : Fin 12) (k : Nat) (s : State) :
    chan n (setTarget n k s) = targetChannel n k s.tu.clock (chan n s) :=
  chan_setChan_self n _ s

theorem heaterTargets_pump_zero (glow : Bool) (fan : Nat) (s : State) : Quiet (chan 2 (heaterTargets glow fan 0 s)) := by
  unfold heaterTargets
  rw [chan_setTarget_ne (by decide), chan_setTarget_ne (by decide), chan_setTarget_self]
  exact targetChannel_zero_quiet _ _ _

@[simp] theorem toPhase_chan (n : Fin 12) (p : HeaterPhase) (s : State) : chan n (toPhase p s) = chan n s := rfl

theorem startFromTarget_quiet {c : Channel} (n : Fin 12) (t : Nat) (h : c.target = 0) : startFromTarget n t c = c := by
  simp [startFromTarget, h]

@[simp] theorem enterPreheat_phase (s : State) : (enterPreheat s).hs.phase = .preheat := by
  unfold enterPreheat; dsimp only; rw [heaterTargets_hs]; dsimp only; split <;> rfl

/-! ### What HS's operations leave of purge-owed -/

@[simp] theorem setFollowOn_purgeOwed (f : FollowOn) (s : State) : (setFollowOn f s).hs.purgeOwed = s.hs.purgeOwed := by
  unfold setFollowOn; split <;> rfl

@[simp] theorem internalRequest_hs (l : Load) (p : Purpose) (o : Origin) (e : Option RtcTime) (s : State) :
    (internalRequest l p o e s).hs = s.hs := by
  unfold internalRequest; split <;> rfl

@[simp] theorem enterPurge_purgeOwed (f : FollowOn) (b : Bool) (c : Option LockCause) (s : State) :
    (enterPurge f b c s).hs.purgeOwed = s.hs.purgeOwed := by
  unfold enterPurge; simp [toPhase, clearPhase]

@[simp] theorem enterPreheat_purgeOwed (s : State) : (enterPreheat s).hs.purgeOwed = s.hs.purgeOwed := by
  unfold enterPreheat; dsimp only; rw [heaterTargets_hs]; dsimp only; split <;> rfl

@[simp] theorem lowerStage_purgeOwed (s : State) : (lowerStage s).hs.purgeOwed = s.hs.purgeOwed := by
  unfold lowerStage; (repeat' split) <;> rfl

@[simp] theorem standbyRestart_purgeOwed (s : State) : (standbyRestart s).hs.purgeOwed = s.hs.purgeOwed := by
  unfold standbyRestart; (repeat' split) <;> simp

/-- No change of the merged heater grant settles or owes a purge. -/
@[simp] theorem handHeat_purgeOwed (s : State) : (handHeat s).hs.purgeOwed = s.hs.purgeOwed := by
  unfold handHeat heatAppears heatVanishes heatChanges; dsimp only; (repeat' split) <;> simp [enterHeaterOff, toPhase, clearPhase]

@[simp] theorem mergeHeater_purgeOwed (s : State) : (mergeHeater s).hs.purgeOwed = s.hs.purgeOwed := by
  simp [mergeHeater]

@[simp] theorem dropGrant_hs (l : Load) (p : Purpose) (s : State) : (dropGrant l p s).hs = s.hs := by
  unfold dropGrant; split <;> rfl

section
variable {P : State → Prop} {s : State} (hS : HeatSafe P)
include hS

/-! ### The phases (R75 to R89) -/

/-- IGNITE and RUN are free of both halves. -/
theorem burning_safe (h : s.hs.phase = .ignite ∨ s.hs.phase = .run) : P s := by
  refine hS.both (fun _ hp => ?_) (fun hi hr => ?_)
  · rcases h with h | h <;> simp [h] at hp
  · exact absurd h (by simp [hi, hr])

/-- A phase that is neither OFF nor STANDBY asks for a quiet pump alone. -/
theorem quiet_safe (ho : s.hs.phase ≠ .off) (hb : s.hs.phase ≠ .standby) (hq : Quiet (chan 2 s)) : P s :=
  hS.both (fun _ hp => absurd hp (by simp [ho, hb])) (fun _ _ => hq)

/-- With purge-owed clear a quiet pump is enough. -/
theorem paid_safe (ho : s.hs.purgeOwed = false) (hq : Quiet (chan 2 s)) : P s :=
  hS.both (fun _ _ => ho) (fun _ _ => hq)

theorem enterPreheat_safe : P (enterPreheat s) :=
  quiet_safe hS (by simp) (by simp) (heaterTargets_pump_zero _ _ _)

theorem enterIgnite_safe : P (enterIgnite s) := burning_safe hS (.inl rfl)

theorem setStage_safe (k : Nat) (h : s.hs.phase = .run) : P (setStage k s) := burning_safe hS (.inr h)

theorem chooseStage_safe (h : s.hs.phase = .run) : P (chooseStage s) := setStage_safe hS _ h

theorem enterRun_safe : P (enterRun s) := chooseStage_safe hS rfl

theorem lowerStage_safe (h : P s) : P (lowerStage s) := by
  unfold lowerStage; (repeat' split)
  · next hp _ _ => exact setStage_safe hS _ hp
  all_goals exact h

theorem enterPurge_safe (f : FollowOn) (force : Bool) (c : Option LockCause) : P (enterPurge f force c s) := by
  have e := fun d x => heaterView_of_heatView (internalRequest_heatView .heater .purge .cab d x)
  unfold heaterView at e
  simp only [Prod.mk.injEq] at e
  unfold enterPurge; dsimp only
  refine quiet_safe hS ?_ ?_ ?_
  · rw [(e _ _).1]; simp [toPhase]
  · rw [(e _ _).1]; simp [toPhase]
  · rw [(e _ _).2.2.2.1]; exact heaterTargets_pump_zero _ _ _

theorem enterLockout_safe (c : LockCause) : P (enterLockout c s) :=
  quiet_safe hS (by simp [enterLockout, toPhase]) (by simp [enterLockout, toPhase]) (heaterTargets_pump_zero _ _ _)

theorem enterHeaterOff_safe (ho : s.hs.purgeOwed = false) : P (enterHeaterOff s) :=
  paid_safe hS ho (heaterTargets_pump_zero _ _ _)

theorem enterStandby_safe (ho : s.hs.purgeOwed = false) : P (enterStandby s) := by
  unfold enterStandby; dsimp only; split
  · exact enterPreheat_safe hS
  · exact paid_safe hS ho (heaterTargets_pump_zero _ _ _)

/-! ### The merged heater grant (R77, R82, R84, R86) -/

/-- Changes of HS that leave the phase and purge-owed, on the same channels. -/
theorem heater_safe (h : P s) (x : Heater) (hp : x.phase = s.hs.phase) (ho : x.purgeOwed = s.hs.purgeOwed) :
    P { s with hs := x } := hS.same h hp ho rfl id

theorem setFollowOn_safe (f : FollowOn) (h : P s) : P (setFollowOn f s) := by
  unfold setFollowOn; split
  · exact h
  · exact heater_safe hS h _ rfl rfl

theorem setPending_safe (c : LockCause) (h : P s) : P (setPending c s) := by
  unfold setPending; split
  · exact h
  · exact heater_safe hS h _ rfl rfl

theorem standbyRestart_safe (h : P s) : P (standbyRestart s) := by
  unfold standbyRestart; (repeat' split)
  · exact enterPreheat_safe hS
  all_goals exact h

theorem heatAppears_safe (h : P s) : P (heatAppears s) := by
  unfold heatAppears; split
  case h_1 | h_2 => exact keeps_ite (enterPreheat_safe hS) h
  case h_3 => exact setFollowOn_safe hS _ h
  all_goals exact h

theorem heatVanishes_safe (h : P s) : P (heatVanishes s) := by
  unfold heatVanishes; split
  case h_4 => exact setFollowOn_safe hS _ (keeps_ite (heater_safe hS h _ rfl rfl) h)
  case h_5 hp => exact hS.rest h (.inr hp) rfl rfl (heaterTargets_pump_zero _ _ _)
  case h_6 | h_7 => exact h
  all_goals exact enterPurge_safe hS _ _ _

theorem heatChanges_safe (old : MergedHeat) (h : P s) : P (heatChanges old s) := by
  unfold heatChanges; split
  case h_1 => exact lowerStage_safe hS h
  case h_2 => exact keeps_ite h (standbyRestart_safe hS h)
  all_goals exact h

theorem handHeat_safe (h : P s) : P (handHeat s) := by
  have hm : P { s with hs.merged := mergedHeat s } := heater_safe hS h _ rfl rfl
  unfold handHeat; dsimp only; (repeat' split)
  · exact h
  · exact heatAppears_safe hS hm
  · exact heatVanishes_safe hS hm
  · exact heatChanges_safe hS _ hm
  · exact hm

theorem heaterHoldEntry_safe (x : Bool) (h : P s) : P (heaterHoldEntry x s) := by
  unfold heaterHoldEntry; split
  case h_1 => exact keeps_ite (enterPurge_safe hS _ _ _) (lowerStage_safe hS (heater_safe hS h _ rfl rfl))
  case h_2 | h_3 => exact keeps_ite (enterPurge_safe hS _ _ _) h
  all_goals exact h

/-- Both halves of O56 read of the part what HS shows of itself. -/
theorem HeatSafe.view {t : State} (h : P s) (e : heaterView t = heaterView s) : P t := by
  simp only [heaterView, Prod.mk.injEq] at e
  obtain ⟨hs, -, -, pump, hold⟩ := e
  exact hS.same h (by rw [hs]) (by rw [hs]) hold (by rw [pump]; exact id)

/-- Both halves of O56 outlast the work of the other blocks. -/
theorem HeatSafe.kept : HeatKept P where
  view h e := hS.view h (heaterView_of_heatView e)
  told l _ h := hS.view h (mapPort_heaterView l _ _)
  woken c h := hS.view h (wake_heaterView c _)
  hand := handHeat_safe hS
  lower := lowerStage_safe hS
  hold := heaterHoldEntry_safe hS

theorem completePurge_safe (h : P s) : P (completePurge s) := by
  have hm : P (mergeHeater (dropGrant .heater .purge { s with hs.purgeOwed := false })) :=
    mergeHeater_heat hS.kept (hS.kept.view (hS.paid h) (dropGrant_heatView _ _ _))
  have paid : (mergeHeater (dropGrant .heater .purge { s with hs.purgeOwed := false })).hs.purgeOwed = false := by simp
  unfold completePurge; dsimp only; (repeat' split)
  · exact enterLockout_safe hS _
  · exact enterHeaterOff_safe hS paid
  · exact enterStandby_safe hS paid
  · exact enterPreheat_safe hS
  · exact enterHeaterOff_safe hS paid
  · exact hm

/-! ### Locked channels, the flame sensor, overheat (R87 to R93) -/

theorem heaterChannelLocked_safe (c : LockCause) (h : P s) : P (heaterChannelLocked c s) := by
  unfold heaterChannelLocked; split
  case h_1 | h_2 | h_3 => exact enterPurge_safe hS _ _ _
  case h_4 => exact setPending_safe hS _ h
  all_goals exact h

theorem fanLocked_safe (h : P s) : P (fanLocked s) := by
  unfold fanLocked; split
  case h_1 => exact h
  all_goals exact mergeHeater_heat hS.kept (hS.kept.view (enterLockout_safe hS _) (dropGrant_heatView _ _ _))

theorem heaterLocked_safe (n : Fin 12) (h : P s) : P (heaterLocked n s) := by
  unfold heaterLocked; split
  · exact heaterChannelLocked_safe hS _ h
  · exact fanLocked_safe hS h
  · exact heaterChannelLocked_safe hS _ h
  · exact h

theorem fanUnlocked_safe (h : P s) : P (fanUnlocked s) := by
  unfold fanUnlocked; (repeat' split)
  · exact mergeHeater_heat hS.kept (enterPurge_safe hS _ _ _)
  all_goals exact h

theorem flameFailed_safe (h : P s) : P (flameFailed s) := by
  unfold flameFailed; split
  case h_1 | h_2 | h_3 => exact enterPurge_safe hS _ _ _
  case h_4 => exact setPending_safe hS _ h
  case h_5 | h_6 => exact enterLockout_safe hS _
  case h_7 => exact h

theorem lengthenPurge_safe (h : P s) : P (lengthenPurge s) := by
  have hp : ∀ r : PurgeRun, P { s with hs.purge := some r } := fun _ => heater_safe hS h _ rfl rfl
  unfold lengthenPurge; (repeat' split)
  · exact h
  · exact h
  · dsimp only
    refine hS.kept.view (keeps_ite ?_ (hp _)) (updateGrant_heatView _ _ _ _)
    exact hS.same (hp _) rfl rfl rfl (by rw [chan_setTarget_ne (by decide)]; exact id)

theorem heaterOverheats_safe (h : P s) : P (heaterOverheats s) := by
  unfold heaterOverheats; split
  case h_1 | h_2 | h_3 => exact enterPurge_safe hS _ _ _
  case h_4 => exact setPending_safe hS _ (lengthenPurge_safe hS h)
  case h_5 | h_6 => exact enterLockout_safe hS _
  case h_7 => exact h

theorem clearLockoutPhase_safe (h : P s) : P (clearLockoutPhase s) := by
  unfold clearLockoutPhase
  extract_lets heater cleared follow
  have hc : P cleared := hS.same h rfl rfl rfl id
  clear_value cleared follow
  split
  case h_1 =>
    split
    · have hp : P (mergeHeater (enterPurge follow true none cleared)) :=
        mergeHeater_heat hS.kept (enterPurge_safe hS _ _ _)
      exact keeps_ite (setPending_safe hS _ hp) hp
    · next owed =>
      have ho : P (enterHeaterOff cleared) := enterHeaterOff_safe hS (by simpa using owed)
      exact keeps_ite (enterLockout_safe hS _) (keeps_ite (enterPreheat_safe hS) ho)
  case h_2 =>
    have hf : P (setFollowOn follow { cleared with hs.pending := none }) :=
      setFollowOn_safe hS _ (heater_safe hS hc _ rfl rfl)
    exact keeps_ite (setPending_safe hS _ hf) hf
  all_goals exact hc

theorem clearLockout_safe (h : P s) : P (clearLockout s).state := by
  unfold clearLockout; split
  · exact h
  · exact releaseUntied_heat hS.kept _ _ (clearLockoutPhase_safe hS h)

/-! ### The heater's sensors and timers (R76 to R85) -/

theorem judgeFlame_safe (t : Int) (h : P s) : P (judgeFlame t s) := heater_safe hS h _ rfl rfl

theorem flameKept_safe (h : P s) : P (flameKept s) := by
  unfold flameKept; split
  · exact keeps_ite h (judgeFlame_safe hS _ h)
  · exact h

theorem flameWatch_safe (t : Int) (h : P s) : P (flameWatch t s) :=
  judgeFlame_safe hS t (heater_safe hS h _ rfl rfl)

theorem overheat_safe (h : P s) : P (overheat s) := overheat_heat hS.kept (heaterOverheats_safe hS) h

theorem flameValue_safe (t : Int) (h : P s) : P (flameValue t s) := by
  unfold flameValue
  extract_lets hot rises heater read acted
  have hr : P read := heater_safe hS h _ rfl rfl
  have ha : P acted := by
    unfold acted; split
    case h_1 => exact keeps_ite (enterRun_safe hS) hr
    case h_2 => exact flameWatch_safe hS t hr
    all_goals exact hr
  exact keeps_ite (overheat_safe hS ha) ha

theorem flameTemp_safe (x : TempResult) (h : P s) : P (flameTemp x s) := by
  have read : ∀ (d : Nat) (y : Sensor), P { reach s.hs.flameDue s with hs.flameDue := d, hs.flame := y } :=
    fun _ _ => hS.same h rfl rfl rfl id
  unfold flameTemp; dsimp only; split
  · exact flameValue_safe hS _ (read _ _)
  · exact flameKept_safe hS (read _ _)
  · exact takeFault_heat hS.kept _ (flameFailed_safe hS (read _ _))

theorem phaseExpiry_safe {p : HeaterPhase} {due : Option Nat} {act : State → State}
    (hact : ∀ x, P x → x.hs.phase = p → P (act x)) (h : P s) : P (phaseExpiry p due act s) := by
  unfold phaseExpiry; (repeat' split)
  · next hp => exact hact _ (hS.same h rfl rfl rfl id) hp
  · exact h
  · exact h

theorem purgeAndMerge_safe (f : FollowOn) (c : Option LockCause) : P (purgeAndMerge f c s) :=
  mergeHeater_heat hS.kept (enterPurge_safe hS _ _ _)

theorem ignitionFails_safe : P (ignitionFails s) := by
  unfold ignitionFails
  exact keeps_ite (purgeAndMerge_safe hS _ _) (takeFault_heat hS.kept _ (purgeAndMerge_safe hS _ _))

theorem flameGone_safe : P (flameGone s) := by
  unfold flameGone
  exact keeps_ite (purgeAndMerge_safe hS _ _) (takeFault_heat hS.kept _ (purgeAndMerge_safe hS _ _))

theorem glowOff_safe (h : P s) : P (glowOff s) := by
  unfold glowOff; (repeat' split)
  · exact hS.same h rfl rfl rfl (by rw [chan_setTarget_ne (by decide)]; exact id)
  · exact h
  · exact h

theorem purgeExpiry_safe (h : P s) : P (purgeExpiry s) := by
  unfold purgeExpiry; split
  · exact completePurge_safe hS (hS.same h rfl rfl rfl id)
  · exact h

end
end Sys2Proof.Machine

namespace Sys2Proof.Machine

/-! ## O56: the fuel pump's channel under its own commands (R57 to R73) -/

section
variable {P : State → Prop} {s : State} (hS : HeatSafe P)
include hS

/-- A change of channels alone is safe where it leaves a quiet pump quiet. -/
theorem pump_safe {t : State} (h : P s) (hs : t.hs = s.hs) (hr : t.tu.resetHold = s.tu.resetHold)
    (hq : Quiet (chan 2 s) → Quiet (chan 2 t)) : P t :=
  hS.same h (by rw [hs]) (by rw [hs]) hr hq

theorem reach_safe (d : Nat) (h : P s) : P (reach d s) := pump_safe hS h rfl rfl id

theorem setChan_safe (h : P s) (n : Fin 12) (c : Channel) (hq : Quiet (chan n s) → Quiet c) : P (setChan n c s) := by
  refine pump_safe hS h rfl rfl fun q => ?_
  by_cases e : (2 : Fin 12) = n
  · subst e; rw [chan_setChan_self]; exact hq q
  · rwa [chan_setChan_ne e]

/-! ### The wiring check (R68 to R71) -/

theorem beginStep_safe (n : Fin 12) (t : RtcTime) (v : Vector WiringResult 12) (h : P s) : P (beginStep n t v s) :=
  pump_safe hS h rfl rfl fun q => by
    unfold beginStep; dsimp only; rw [chan_testChannels]; exact ⟨q.1, by simp, by simp⟩

theorem startAllFromTargets_safe (h : P s) : P (startAllFromTargets s) :=
  pump_safe hS h rfl rfl fun q => by rw [chan_startAllFromTargets, startFromTarget_quiet 2 _ q.1]; exact q

theorem finishCheck_safe (c : Bool) (r : WiringRun) (v : Vector WiringResult 12) (h : P s) : P (finishCheck c r v s) := by
  have hv := hS.kept
  have closed : P (endTest { s with ca.check := none, ca.results := some ⟨c, r.startTime, now s, v⟩ }) :=
    pump_safe hS h rfl rfl fun q => by rw [chan_endTest]; exact ⟨q.1, by simp, by simp⟩
  have done := revalidate_heat hv (notifyBoth_heat hv .checkDone closed)
  unfold finishCheck
  exact hv.view (startAllFromTargets_safe hS (keeps_ite (enterPreheat_safe hS) done)) (syncDoze_heatView _)

theorem abortCheck_safe (h : P s) : P (abortCheck s) := by
  unfold abortCheck; split
  · exact h
  · exact finishCheck_safe hS _ _ _ h

theorem startCheck_safe (h : P s) : P (startCheck s).state := by
  unfold startCheck; split
  · have empty : P { s with ca.results := none } := pump_safe hS h rfl rfl id
    exact hS.kept.view (beginStep_safe hS 0 (now s) notTested empty) (syncDoze_heatView _)
  · exact h

theorem endStep_safe (c : WiringClass) (k : Nat) (r : WiringRun) (h : P s) : P (endStep c k r s) := by
  have sensed : ∀ n : Fin 12, P (setChan n { chan n s with lastCurrent := k } s) := fun n =>
    setChan_safe hS h n _ fun q => q
  unfold endStep; dsimp only; split
  · exact beginStep_safe hS _ _ _ (sensed _)
  · exact finishCheck_safe hS _ _ _ (sensed _)

theorem tripStep_safe (n : Fin 12) (k : Nat) (h : P s) : P (tripStep n k s) := by
  unfold tripStep; split
  · exact keeps_ite (endStep_safe hS _ _ _ h) h
  · exact h

theorem wiringStepEnd_safe (x : Bool) (k : Nat) (h : P s) : P (wiringStepEnd x k s) := by
  have reached : ∀ d, P (reach d s) := fun d => reach_safe hS d h
  unfold wiringStepEnd; split
  · exact h
  · exact keeps_ite (keeps_ite (endStep_safe hS _ _ _ h) h) (keeps_ite (endStep_safe hS _ _ _ (reached _)) h)

/-! ### Trips and timers (R58 to R64) -/

theorem fridgeLocked_safe (h : P s) : P (fridgeLocked s) := fridgeLocked_heat hS.kept h

theorem tripOn_safe (n : Fin 12) (c : FaultCode) (k : Nat) (h : P s) : P (tripOn n c k s) := by
  have tripped : P (setChan n (tripChannel s.tu.clock k (chan n s)) s) :=
    setChan_safe hS h n _ fun q => ⟨q.1, by simp [tripChannel], by simp [tripChannel]⟩
  have locked : P (setChan n (lockChannel k (chan n s)) s) :=
    setChan_safe hS h n _ fun q => ⟨q.1, by simp [lockChannel], by simp [lockChannel]⟩
  have heard := heaterLocked_safe hS n locked
  unfold tripOn; dsimp only; split
  · exact notifyBoth_heat hS.kept _ tripped
  · exact takeFault_heat hS.kept _ (keeps_ite (fridgeLocked_safe hS heard) heard)

theorem channelShort_safe (n : Fin 12) (k : Nat) (h : P s) : P (channelShort n k s) := by
  have trips := tripOn_safe hS n .short (senseReading k) h
  unfold channelShort; dsimp only; (repeat' split)
  · exact trips
  · exact trips
  · exact tripStep_safe hS n _ h
  all_goals exact h

theorem channelOvercurrent_safe (n : Fin 12) (k : Nat) (h : P s) : P (channelOvercurrent n k s) := by
  have trips := tripOn_safe hS n .overcurrent (senseReading k) h
  unfold channelOvercurrent; dsimp only; split
  · split
    · exact keeps_ite trips h
    · exact keeps_ite trips h
    · exact keeps_ite (tripStep_safe hS n _ h) h
    all_goals exact h
  · exact h

theorem inrushEnd_safe (n : Fin 12) (h : P s) : P (inrushEnd n s) := by
  unfold inrushEnd; dsimp only; split
  · next due hs _ => exact setChan_safe hS (reach_safe hS due h) n _ fun q => absurd hs q.2.1
  · exact h

/-- A TRIPPED pump without target returns to OFF at its retry (R63). -/
theorem retryExpiry_safe (n : Fin 12) (h : P s) : P (retryExpiry n s) := by
  unfold retryExpiry; dsimp only; split
  · next due _ _ =>
    refine setChan_safe hS (reach_safe hS due h) n _ fun q => ?_
    have hq : Quiet (chan n s) := q
    rw [if_pos hq.1]; exact ⟨hq.1, by simp, by simp⟩
  · exact h

/-! ### Open loads, fades and pulses (R60, R65) -/

theorem openLoadFires_safe (n : Fin 12) (h : P s) : P (openLoadFires n s) := by
  have flagged : P (setChan n { chan n s with openLoad := true } s) := setChan_safe hS h n _ fun q => q
  unfold openLoadFires
  exact keeps_ite h (notifyBoth_heat hS.kept _ flagged)

theorem fade_safe (n : Fin 12) (k : Nat) (h : P s) : P (fade n k s) := by
  unfold fade; dsimp only; split
  · exact setChan_safe hS (reach_safe hS _ h) n _ fun q => q
  · exact h

theorem fuelPumpPulse_safe (k : Nat) (h : P s) : P (fuelPumpPulse k s) := by
  unfold fuelPumpPulse; extract_lets c
  split
  · have pulsed : ∀ (t : Nat) (x : Channel), x.target = c.target → x.state = c.state → P (setChan 2 x (reach t s)) :=
      fun t x ht hs => setChan_safe hS (reach_safe hS t h) 2 _ fun q => by
        unfold Quiet at q ⊢; rw [ht, hs]; exact q
    exact keeps_ite (openLoadFires_safe hS 2 (pulsed _ _ rfl rfl)) (pulsed _ _ rfl rfl)
  · exact h

theorem openLoad_safe (n : Fin 12) (k : Nat) (h : P s) : P (openLoad n k s) := by
  have sensed : P (setChan n { chan n s with lastCurrent := k } s) := setChan_safe hS h n _ fun q => q
  unfold openLoad
  exact keeps_ite (keeps_ite (keeps_ite (fuelPumpPulse_safe hS k h) h) (openLoadFires_safe hS n sensed)) h

/-! ### The return of a LOCKED channel (R66, R67, R161) -/

theorem returnChannel_safe (n : Fin 12) (h : P s) : P (returnChannel n s) := by
  have freed : P (setChan n (unlockChannel n s.tu.clock (chan n s)) s) := setChan_safe hS h n _ fun q => by
    have e := startFromTarget_quiet (c := { chan n s with state := .off, output := 0, tripCount := 0, openLoad := false })
      n s.tu.clock q.1
    unfold unlockChannel; rw [e]; exact ⟨q.1, by simp, by simp⟩
  unfold returnChannel
  exact keeps_ite (fanUnlocked_safe hS freed) freed

theorem releaseChannel_safe (r : FaultReport) (h : P s) : P (releaseChannel r s) := by
  unfold releaseChannel; split
  · exact keeps_ite (returnChannel_safe hS _ h) h
  all_goals exact h

theorem clearChannel_safe (n : Nat) (h : P s) : P (clearChannel n s).state := by
  unfold clearChannel; dsimp only; (repeat' split)
  · exact h
  · exact releaseUntied_heat hS.kept (channelLoad _) (fun _ => true) (returnChannel_safe hS _ h)
  · exact h

theorem ackFault_safe (f : FaultSource) (t : RtcTime) (h : P s) : P (ackFault f t s).state := by
  unfold ackFault; dsimp only; (repeat' split)
  · exact h
  · exact h
  · exact notifyBoth_heat hS.kept _ (hS.view (releaseTied_heat hS.kept _ (releaseChannel_safe hS _ h)) rfl)

/-! ### The fridge's slots, its rate and the cabin sensor (R71, R76, R82, R101 to R104) -/

theorem decideRun_safe (h : P s) : P (decideRun s) := by
  have pending : P { s with cs.slotPending := true } := hS.kept.view h rfl
  unfold decideRun; dsimp only
  exact hS.kept.view (keeps_ite (abortCheck_safe hS pending) pending) (cutPending_heatView _)

theorem slotFallsDue_safe (t u : RtcTime) (h : P s) : P (slotFallsDue t u s) := by
  have hc : ∀ x : ColdStore, P { s with cs := x } := fun _ => hS.kept.view h rfl
  unfold slotFallsDue decideSlot
  exact keeps_ite (hc _) (keeps_ite (hc _) (keeps_ite (hc _) (decideRun_safe hS (hc _))))

theorem slotAtOnce_safe (h : P s) : P (slotAtOnce s) := slotFallsDue_safe hS _ _ h

theorem slotDue_safe (h : P s) : P (slotDue s) := by
  unfold slotDue
  exact keeps_ite (slotFallsDue_safe hS _ _ h) h

theorem reformDue_safe (h : P s) : P (reformDue s) := by
  unfold reformDue
  exact keeps_ite (keeps_ite (slotAtOnce_safe hS h) (hS.kept.view h rfl)) h

theorem setMode_safe (m : RateMode) (h : P s) : P (setMode m s) := by
  unfold setMode
  exact keeps_ite h (reformDue_safe hS (hS.kept.view h rfl))

theorem cabinToFridge_safe (t : Int) (h : P s) : P (cabinToFridge t s) := by
  unfold cabinToFridge; split
  · exact h
  · exact setMode_safe hS _ h

theorem satisfiedTest_safe (t : Int) (h : P s) : P (satisfiedTest t s) := heater_safe hS h _ rfl rfl

theorem cabinValue_safe (t : Int) (h : P s) : P (cabinValue t s) := by
  have read : P { s with hs.tc := some t } := heater_safe hS h _ rfl rfl
  unfold cabinValue; dsimp only
  refine cabinToFridge_safe hS t ?_
  split
  case h_1 => exact standbyRestart_safe hS read
  case h_2 => exact satisfiedTest_safe hS t read
  all_goals exact read

theorem cabinFailed_safe (c : FaultCode) (h : P s) : P (cabinFailed c s) := by
  have lost : P { s with hs.tc := none, hs.satisfiedDue := none } := heater_safe hS h _ rfl rfl
  unfold cabinFailed; dsimp only
  refine takeFault_heat hS.kept _ ?_
  split
  case h_1 => exact enterPreheat_safe hS
  all_goals exact lost

theorem cabinTemp_safe (x : TempResult) (h : P s) : P (cabinTemp x s) := by
  have read : ∀ (d : Nat) (y : Sensor), P { reach s.hs.cabinDue s with hs.cabinDue := d, hs.cabin := y } :=
    fun _ _ => hS.same h rfl rfl rfl id
  unfold cabinTemp; dsimp only; split
  · exact cabinValue_safe hS _ (read _ _)
  · exact read _ _
  · exact cabinFailed_safe hS _ (read _ _)

/-! ### TIME_SET and the policy (R172, R203 to R206) -/

theorem setTime_safe (t : RtcTime) (h : P s) : P (setTime t s) := by
  have hv := hS.kept
  have hr : P (restTimeSet (accumulateAll (now s) { s with tu.rtc := t, tu.subSecond := 0, tu.timeSet := true })) :=
    restTimeSet_heat hv (accumulateAll_heat hv _ (hv.view h rfl))
  have passed : ∀ (f : Bool) (x : State), P x → P (if f then passStoredTimes x else x) := fun _ _ hx =>
    keeps_ite (passStoredTimes_heat hv hx) hx
  have due : ∀ (f : Bool) (x : State), P x → P (if f && slotReached x then slotAtOnce x else x) := fun _ _ hx =>
    keeps_ite (slotAtOnce_safe hS hx) hx
  unfold setTime
  exact testWake_heat hv .upper (testWake_heat hv .lower (due _ _ (passed _ _ hr)))

theorem applyRate_safe (id : Nat) (h : P s) : P (applyRate id s) := by
  unfold applyRate; (repeat' split)
  · exact setMode_safe hS _ h
  · exact h
  · exact reformDue_safe hS h
  · exact reformDue_safe hS h
  · exact reformDue_safe hS h
  · exact h

theorem applyItem_safe (id old : Nat) (h : P s) : P (applyItem id old s) := by
  have hv := hS.kept
  have valid := revalidate_heat hv h
  have capped := applyCaps_heat hv h
  have rated := applyRate_safe hS id h
  unfold applyItem; split
  case h_1 => exact revalidate_heat hv (hv.view h (applyCapacity_heatView s))
  case h_17 | h_18 => exact capped
  case h_19 => exact lowerStage_safe hS h
  case h_20 => exact reconcilePrewarm_heat hv (reportQuiet_heat hv h)
  case h_21 | h_22 | h_23 | h_24 => exact rated
  case h_25 | h_26 => exact hv.view h rfl
  case h_27 => exact applySettings_heat hv old h
  case h_28 => exact applyEscalation_heat hv h
  case h_29 => exact testWake_heat hv .upper (testWake_heat hv .lower h)
  case h_30 => exact reconcileSunrise_heat hv .upper (reconcileSunrise_heat hv .lower h)
  case h_31 => exact h
  all_goals exact valid

theorem setPolicy_safe (id v : Nat) (h : P s) : P (setPolicy id v s).state := by
  have counted : P (if id = 59 then accumulateAll (now s) s else s) := keeps_ite (accumulateAll_heat hS.kept _ h) h
  unfold setPolicy; split
  · exact h
  · dsimp only; (repeat' split)
    · exact h
    · exact h
    · exact applyItem_safe hS _ _ (hS.kept.view counted rfl)

end

/-! ## O56: the ports, the resets and the whole step (R173, R174, R195) -/

/-! ### The ports leave the heater alone (R195 to R208) -/

theorem syncDoze_heaterView (s : State) : heaterView (syncDoze s) = heaterView s :=
  heaterView_of_heatView (syncDoze_heatView s)

@[simp] theorem beginTransfer_heaterView (l : Link) (s : State) : heaterView (beginTransfer l s) = heaterView s := by
  unfold beginTransfer; dsimp only; (repeat' split)
  · exact mapPort_heaterView l _ s
  · exact (wake_heaterView _ _).trans (mapPort_heaterView l _ s)
  · exact mapPort_heaterView l _ s

@[simp] theorem openTransfer_heaterView (l : Link) (s : State) : heaterView (openTransfer l s) = heaterView s := by
  unfold openTransfer; split <;> simp

@[simp] theorem endTransfer_heaterView (l : Link) (s : State) : heaterView (endTransfer l s) = heaterView s := by
  simp [endTransfer, syncDoze_heaterView, mapPort_heaterView]

@[simp] theorem answer_heaterView (l : Link) (k : Byte) (r : Reply) : heaterView (answer l k r) = heaterView r.state := by
  simp [answer, placeResponse, mapPort_heaterView]

@[simp] theorem clearReleased_heaterView (l : Link) (s : State) : heaterView (clearReleased l s) = heaterView s :=
  mapPort_heaterView l _ s

@[simp] theorem dropTransfer_heaterView (l : Link) (s : State) : heaterView (dropTransfer l s) = heaterView s :=
  mapPort_heaterView l _ s

theorem transferStart_heaterView (l : Link) (s : State) : heaterView (transferStart l s) = heaterView s := by
  unfold transferStart; split <;> simp

theorem emptyTransfer_heaterView (l : Link) (s : State) : heaterView (emptyTransfer l s) = heaterView s := by
  unfold emptyTransfer; dsimp only; split <;> simp [mapPort_heaterView]

theorem answerPort_heaterView (l : Link) (k : Byte) (st : Status) (s : State) :
    heaterView (answerPort l k st s) = heaterView s := by
  unfold answerPort; dsimp only; split <;> simp [refuse]

theorem fetch_heaterView (l : Link) (n : Nat) (s : State) : heaterView (fetch l n s) = heaterView s := by
  unfold fetch; dsimp only; (repeat' split) <;> simp [mapPort_heaterView]

theorem readNotices_heaterView (l : Link) (s : State) : heaterView (readNotices l s).state = heaterView s := by
  unfold readNotices; dsimp only; split
  · exact (mapPort_heaterView l _ _).trans (mapPort_heaterView l _ s)
  · exact mapPort_heaterView l _ s

theorem readStatus_heaterView (n : Nat) (s : State) : heaterView (readStatus n s).state = heaterView s := by
  unfold readStatus; (repeat' split) <;> rfl

theorem releaseHold_heaterView (s : State) : heaterView (releaseHold s).state = heaterView s := by
  unfold releaseHold; split <;> rfl

theorem serve_heat {P : State → Prop} (hP : HeatSafe P) {l : Link} {k : Byte} {perform : State → Reply} {s : State}
    (hp : ∀ x, P x → P (perform x).state) (h : P s) : P (serve l k perform s) := by
  have ho : P (clearReleased l (openTransfer l s)) := hP.view h (by simp)
  unfold serve; dsimp only; (repeat' split)
  · exact hP.view ho (answer_heaterView _ _ _)
  · exact hP.view (hp _ ho) (answer_heaterView _ _ _)
  · exact hP.view ho (answer_heaterView _ _ _)
  · exact hP.view h (by simp [mapPort_heaterView])

/-! ### Events that leave the heater alone -/

theorem returnCrystal_heaterView (s : State) : heaterView (returnCrystal s) = heaterView s := by
  unfold returnCrystal unlessReset; dsimp only; (repeat' split) <;> rfl

theorem startStable_heaterView (s : State) : heaterView (startStable s) = heaterView s := by
  unfold startStable; split <;> rfl

theorem enterDoze_heaterView (s : State) : heaterView (enterDoze s) = heaterView s := by
  unfold enterDoze; dsimp only; (repeat' split) <;> rfl

theorem leaveDoze_heaterView (s : State) : heaterView (leaveDoze s) = heaterView s := by
  unfold leaveDoze; dsimp only; split
  · exact syncDoze_heaterView _
  · rfl

theorem minOffExpiry_heaterView (s : State) : heaterView (minOffExpiry s) = heaterView s := by
  unfold minOffExpiry; split <;> rfl

theorem chimeStart_heaterView (s : State) : heaterView (chimeStart s) = heaterView s := by
  unfold chimeStart; dsimp only; (repeat' split) <;> rfl

theorem chimeEnd_heaterView (s : State) : heaterView (chimeEnd s) = heaterView s := by
  unfold chimeEnd; split <;> rfl

theorem repeatTimeout_heaterView (s : State) : heaterView (repeatTimeout s) = heaterView s := by
  unfold repeatTimeout; split <;> rfl

theorem closeWindow_heaterView (s : State) : heaterView (closeWindow s) = heaterView s := by
  unfold closeWindow; split <;> rfl

theorem checkError_heaterView (k : Nat) (s : State) : heaterView (checkError k s) = heaterView s := by
  unfold checkError; split <;> rfl

section
variable {P : State → Prop} {s t : State} (hS : HeatSafe P)
include hS

/-! ### The resets (R173, R174) -/

omit hS in
/-- A main reset leaves every channel without target and OFF (R174). -/
theorem resetMainDomain_quiet (n : Fin 12) (s : State) : Quiet (chan n (resetMainDomain s)) := by
  simp [Quiet, chan, resetMainDomain, resetPorts]

/-- While a main reset is held, PURGE may be owed with the heater in OFF. -/
theorem held_safe {x : ResetHold} (e : s.tu.resetHold = some x) : P (resetMainDomain s) :=
  hS.both (fun running => by simp [Running, resetMainDomain, resetPorts, e] at running)
    fun _ _ => resetMainDomain_quiet 2 s

theorem powerOnReset_safe : P (powerOnReset s) := held_safe hS rfl

theorem mainReset_safe (c : ResetCause) : P (mainReset c s) := held_safe hS rfl

theorem restartPart_safe (l : Link) (h : P s) : P (restartPart l s) := by
  have ho : P (openTransfer l s) := hS.view h (openTransfer_heaterView l s)
  have hs : P (serve l 0x5F#8 taken (openTransfer l s)) := serve_heat hS (fun _ hx => hx) ho
  unfold restartPart; dsimp only; (repeat' split)
  · exact mainReset_safe hS _
  all_goals exact hs

theorem restartFridge_safe (h : P s) : P (restartFridge s) := by
  have placed : ∀ x : State, P x → P (if x.cs.enable then placeCooling x else x) := fun _ hx =>
    keeps_ite (placeCooling_heat hS.kept hx) hx
  have due : ∀ x : State, P x → P (if slotReached x then slotAtOnce x else x) := fun _ hx =>
    keeps_ite (slotAtOnce_safe hS hx) hx
  unfold restartFridge
  exact due _ (placed _ (hS.view h rfl))

/-- An owed purge runs, and with none owed the quiet pump of the reset is safe (R84, R97). -/
theorem restartHeater_safe (h : Quiet (chan 2 s)) : P (restartHeater s) := by
  unfold restartHeater; split
  · exact enterPurge_safe hS _ _ _
  · next owed =>
    have ho : s.hs.purgeOwed = false := by simpa using owed
    exact keeps_ite (paid_safe hS ho h) (paid_safe hS ho h)

theorem endMainReset_safe (x : ResetHold) (s : State) : P (endMainReset x s) := by
  have hv := hS.kept
  have restarted : ∀ y, Quiet (chan 2 y) →
      P (restartInputs (restartRests (restartFridge (resetPorts (restartHeater y))))) := fun y hy =>
    have hh : P (resetPorts (restartHeater y)) := hS.view (restartHeater_safe hS hy) rfl
    foldl_preserves P (fun _ n h => restartInput_heat hv (heaterOverheats_safe hS) n h) _
      (restartRests_heat hv (restartFridge_safe hS hh))
  have reported : ∀ y, P y → P (if y.tu.degraded then reportDegraded y else y) := fun _ hy =>
    keeps_ite (reportDegraded_heat hv hy) hy
  unfold endMainReset
  exact reported _ (restarted _ (resetMainDomain_quiet 2 _))

theorem mainResetEnd_safe (h : P s) : P (mainResetEnd s) := by
  unfold mainResetEnd; split
  · exact endMainReset_safe hS _ _
  · exact h

/-! ### Every command -/

theorem performRequest_safe {c : Instr} (h : P s) (e : performRequest c s = .next t) : P t := by
  have hv := hS.kept
  have served : ∀ {l : Link} {k : Byte} {perform : State → Reply},
      (∀ x, P x → P (perform x).state) → P (serve l k perform s) := fun hp => serve_heat hS hp h
  have framed : ∀ {l : Link} {k : Byte} {perform : State → Reply},
      (∀ x, heaterView (perform x).state = heaterView x) → P (serve l k perform s) := fun hp =>
    served fun x hx => hS.view hx (hp x)
  have acted : ∀ {l : Link} {k : Byte} {f : State → State},
      (∀ x, P x → P (f x)) → P (serve l k (fun x => taken (f x)) s) := fun hf => served hf
  cases c <;> cases e
  case notices => exact framed (readNotices_heaterView _)
  case noticeEnable => exact framed (mapPort_heaterView _ _)
  case release => exact framed (mapPort_heaterView _ _)
  case statusRead => exact framed (readStatus_heaterView _)
  case budgetRead => exact framed fun _ => rfl
  case grantRequest => exact served fun _ hx => requestGrant_heat hv _ _ _ _ _ _ hx
  case grantProbe => exact framed fun x => by rw [probeGrant_state]
  case grantRevoke => exact served fun _ hx => revokeGrant_heat hv _ _ _ hx
  case ackWarning => exact served fun _ hx => ackWarning_heat hv _ _ _ hx
  case warningList => exact framed fun _ => rfl
  case ackFault => exact served fun _ hx => ackFault_safe hS _ _ hx
  case faultRead => exact framed fun _ => rfl
  case accountRead => exact served fun _ hx => readAccount_heat hv _ hx
  case fridgeSet => exact acted fun _ hx => setFridge_heat hv _ hx
  case policySet => exact served fun _ hx => setPolicy_safe hS _ _ hx
  case policyGet => exact framed fun x => by rw [getPolicy_state]
  case policyLock => exact framed fun _ => rfl
  case seedCharge => exact acted fun _ hx => revalidate_heat hv (hS.view hx rfl)
  case timeSet => exact served fun _ hx => setTime_safe hS _ hx
  case card => exact served fun _ hx => useCard_heat hv _ _ hx
  case activity => exact served fun _ hx => setActivity_heat hv _ _ hx
  case motion => exact acted fun _ hx => setMoving_heat hv _ hx
  case slotSwap => exact acted fun _ hx => swapSlots_heat hv hx
  case inputConfig => exact served fun _ hx => configureInput_heat hv (heaterOverheats_safe hS) _ _ hx
  case hold => exact acted fun _ hx => addCause_heat hv _ _ hx
  case releaseHold => exact framed releaseHold_heaterView
  case clearLockout => exact served fun _ hx => clearLockout_safe hS hx
  case clearChannel => exact served fun _ hx => clearChannel_safe hS _ hx
  case wiringCheck => exact served fun _ hx => startCheck_safe hS hx
  case checkRead => exact framed fun x => by rw [readCheck_state]
  case restart => exact restartPart_safe hS _ h
  case bunkRest => exact served fun _ hx => bunkRest_heat hv _ _ _ _ hx
  case bunkWake => exact served fun _ hx => bunkWake_heat hv _ hx
  case snooze => exact served fun _ hx => snoozeRest_heat hv _ hx
  case pairHandset => exact framed fun _ => rfl
  all_goals exact h

theorem undefinedRequest_safe {l : Link} {bytes : List Byte} (h : P s)
    (e : execUndefinedRequest l bytes s = .next t) : P t := by
  have hv := hS.kept
  unfold execUndefinedRequest at e
  dsimp only at e
  split at e
  case h_6 => exact performRequest_safe hS h e
  all_goals cases e
  · exact hS.view h (emptyTransfer_heaterView _ _)
  · exact hS.view h (answerPort_heaterView _ _ _ _)
  · exact hS.view h (answerPort_heaterView _ _ _ _)
  · exact hS.view h (answerPort_heaterView _ _ _ _)
  · exact hS.view h (fetch_heaterView _ _ _)

theorem exec_safe {c : Instr} (h : P s) (e : exec c s = .next t) : P t := by
  have hv := hS.kept
  have event : ∀ {f : State → State}, (∀ x, P x → P (f x)) → P (unlessReset f s) := fun hf => unlessReset_keeps hf h
  have framed : ∀ {f : State → State}, (∀ x, heaterView (f x) = heaterView x) → P (unlessReset f s) :=
    fun hf => event fun x hx => hS.view hx (hf x)
  cases hk : requestKind c
  case some lk =>
    rw [exec_request hk] at e
    exact performRequest_safe hS h e
  cases c
  case undefinedRequest => exact undefinedRequest_safe hS h e
  case transferStart => cases e; exact hS.view h (transferStart_heaterView _ _)
  case fetch => cases e; exact hS.view h (fetch_heaterView _ _ _)
  case kpor => cases e; exact powerOnReset_safe hS
  case mainReset => cases e; exact mainReset_safe hS _
  case mainResetEnd => cases e; exact mainResetEnd_safe hS h
  case crystalStop => cases e; exact stopCrystal_heat hv h
  case crystalReturn => cases e; exact hS.view h (returnCrystal_heaterView s)
  case crystalEdgesResume => cases e; exact hS.view h (startStable_heaterView s)
  case rtcSecond => cases e; exact hS.view h rfl
  case inputRawChange => cases e; exact rawChange_heat hv (heaterOverheats_safe hS) _ _ h
  case conversion => cases e; exact event fun _ hx => conversionAt_heat hv _ _ _ _ hx
  case fullDetection => cases e; exact event fun _ hx => fullDetection_heat hv _ _ hx
  case floorCorrection => cases e; exact event fun _ hx => floorCorrection_heat hv _ _ hx
  case voltageFloorClear => cases e; exact event fun _ hx => floorClear_heat hv _ _ _ hx
  case battTempConversion => cases e; exact event fun _ hx => battTemp_heat hv _ hx
  case review => cases e; exact event fun _ hx => review_heat hv hx
  case grantEndReached => cases e; exact event fun _ hx => expireGrant_heat hv _ _ hx
  case grantStartReached => cases e; exact event fun _ hx => startGrant_heat hv _ _ hx
  case inrushWindowEnd => cases e; exact event fun _ hx => inrushEnd_safe hS _ hx
  case channelShort => cases e; exact event fun _ hx => channelShort_safe hS _ _ hx
  case channelOvercurrent => cases e; exact event fun _ hx => channelOvercurrent_safe hS _ _ hx
  case retryTimerExpiry => cases e; exact event fun _ hx => retryExpiry_safe hS _ hx
  case openLoadDetected => cases e; exact event fun _ hx => openLoad_safe hS _ _ hx
  case wiringStepEnd => cases e; exact event fun _ hx => wiringStepEnd_safe hS _ _ hx
  case cabinTempConversion => cases e; exact event fun _ hx => cabinTemp_safe hS _ hx
  case flameTempConversion => cases e; exact event fun _ hx => flameTemp_safe hS _ hx
  case preheatTimerExpiry =>
    cases e; exact event fun _ hx => phaseExpiry_safe hS (fun _ _ _ => enterIgnite_safe hS) hx
  case ignitionTimerExpiry =>
    cases e; exact event fun _ hx => phaseExpiry_safe hS (fun _ _ _ => ignitionFails_safe hS) hx
  case regulationTimerExpiry =>
    cases e; exact event fun _ hx => phaseExpiry_safe hS (fun _ _ hp => chooseStage_safe hS hp) hx
  case flameProvenTimeout =>
    cases e; exact event fun _ hx => phaseExpiry_safe hS (fun _ hy _ => heater_safe hS hy _ rfl rfl) hx
  case satisfiedTimeout =>
    cases e; exact event fun _ hx => phaseExpiry_safe hS (fun _ _ _ => purgeAndMerge_safe hS _ _) hx
  case flameOut => cases e; exact event fun _ hx => phaseExpiry_safe hS (fun _ _ _ => flameGone_safe hS) hx
  case purgeGlowOff => cases e; exact event fun _ hx => glowOff_safe hS hx
  case purgeComplete => cases e; exact event fun _ hx => purgeExpiry_safe hS hx
  case cabinetTempConversion => cases e; exact event fun _ hx => cabinetTemp_heat hv _ hx
  case slotDue => cases e; exact event fun _ hx => slotDue_safe hS hx
  case runStart => cases e; exact event fun _ hx => runStart_heat hv hx
  case runComplete => cases e; exact event fun _ hx => runExpiry_heat hv hx
  case minOffExpiry => cases e; exact framed minOffExpiry_heaterView
  case accountTimer => cases e; exact event fun _ hx => accountExpiry_heat hv hx
  case quietHoursEnd => cases e; exact event fun _ hx => quietEnds_heat hv _ hx
  case wakeTimeout => cases e; exact event fun _ hx => timeoutRest_heat hv _ hx
  case wakeLeadReached => cases e; exact event fun _ hx => wakeLead_heat hv _ hx
  case plannedEndReached => cases e; exact event fun _ hx => plannedEndPassed_heat hv _ hx
  case escalation => cases e; exact event fun _ hx => escalation_heat hv _ _ hx
  case flashPhaseChange => cases e; exact event fun _ hx => flashPhase_heat hv _ hx
  case sunriseStep => cases e; exact event fun _ hx => sunriseStep_heat hv _ hx
  case chimePatternStart => cases e; exact framed chimeStart_heaterView
  case chimePatternEnd => cases e; exact framed chimeEnd_heaterView
  case dozeTimerExpiry => cases e; exact framed enterDoze_heaterView
  case dozeExitComplete => cases e; exact framed leaveDoze_heaterView
  case handsetFrame => cases e; exact event fun _ hx => handsetFrame_heat hv _ _ _ hx
  case handsetRepeat => cases e; exact event fun _ hx => handsetRepeat_heat hv _ hx
  case repeatWindowTimeout => cases e; exact framed repeatTimeout_heaterView
  case pairingWindowClose => cases e; exact framed closeWindow_heaterView
  case debounceExpiry => cases e; exact event fun _ hx => debounceExpiry_heat hv (heaterOverheats_safe hS) _ hx
  case infraredMarkEdge => cases e; exact framed fun _ => rfl
  case timingError => cases e; exact framed fun _ => rfl
  case checkError => cases e; exact framed (checkError_heaterView _)
  case fade => cases e; exact event fun _ hx => fade_safe hS _ _ hx
  case fuelPumpPulse => cases e; exact event fun _ hx => fuelPumpPulse_safe hS _ hx
  all_goals cases hk

end

/-- Settles O56, both halves at once for what they share: a phase that HS enters leaves the pump quiet unless it burns, OFF and
STANDBY are entered with purge-owed clear, and the work of every other block leaves both or hands HS the merged grant. -/
theorem heaterStaysSafe : Obligations.HeaterStaysSafe :=
  ⟨fun _ _ h e => step_keeps (exec_safe purgeSettled_heatSafe) (fun _ _ h => h) h e,
    fun _ _ h e => step_keeps (exec_safe pumpGated_heatSafe) (fun _ _ h => h) h e⟩

end Sys2Proof.Machine

namespace Sys2Proof.Machine

/-! ## What a phase writes of HS (R75, R84 to R90) -/

theorem enterPurge_hs (f : FollowOn) (force : Bool) (c : Option LockCause) (s : State) :
    (enterPurge f force c s).hs =
      let pending := match s.hs.pending with | some c => some c | none => c
      { clearPhase s.hs with
        phase := .purge, pending := pending
        purge := some
          { full := force || s.hs.purgeOwed, entryClock := s.tu.clock, entryRtc := s.tu.rtc
            due := s.tu.clock + secs (purgeSeconds (force || s.hs.purgeOwed))
            glowDue := if force || s.hs.purgeOwed then some (s.tu.clock + secs 30) else none
            followOn := if pending.isSome then .lockout else f } } := by
  simp only [enterPurge, internalRequest_hs]
  rfl

theorem enterLockout_hs (c : LockCause) (s : State) :
    (enterLockout c s).hs =
      { clearPhase s.hs with phase := .lockout, lockout := some c, pending := none, activation := false } := rfl

/-! ### Notices and exits from DOZE outlast the work of every block (R179, R200) -/

/-- The notices that stand in `s` stand in `t`. -/
def NoticesGrow (s t : State) : Prop := ∀ l n, hasNotice n (port l s) = true → hasNotice n (port l t) = true

theorem NoticesGrow.of_ports {s t : State} (hv : t.portV = s.portV) (hb : t.portB = s.portB) : NoticesGrow s t :=
  fun l n h => by cases l <;> simpa [port, hv, hb] using h

theorem NoticesGrow.refl (s : State) : NoticesGrow s s := fun _ _ h => h

theorem NoticesGrow.trans {s t u : State} (h : NoticesGrow s t) (k : NoticesGrow t u) : NoticesGrow s u :=
  fun l n e => k l n (h l n e)

theorem NoticesGrow.ite {s t u : State} {c : Prop} [Decidable c] (h : NoticesGrow s t) (k : NoticesGrow s u) :
    NoticesGrow s (if c then t else u) := keeps_ite (P := NoticesGrow s) h k

theorem notify_grow (l : Link) (m : Notice) (s : State) : NoticesGrow s (notify l m s) := fun k n h => by
  cases l <;> cases k
  · exact hasNotice_setNotice m h
  · exact h
  · exact h
  · exact hasNotice_setNotice m h

theorem toPhase_grow (p : HeaterPhase) (s : State) : NoticesGrow s (toPhase p s) :=
  (NoticesGrow.of_ports rfl rfl).trans ((notify_grow .v .heaterPhase _).trans (notify_grow .b .heaterPhase _))

theorem enterHeaterOff_grow (s : State) : NoticesGrow s (enterHeaterOff s) :=
  (toPhase_grow .off s).trans (.of_ports rfl rfl)

theorem enterPreheat_grow (s : State) : NoticesGrow s (enterPreheat s) :=
  (toPhase_grow .preheat s).trans (.of_ports rfl rfl)

theorem internalRequest_grow (l : Load) (p : Purpose) (o : Origin) (e : Option RtcTime) (s : State) :
    NoticesGrow s (internalRequest l p o e s) := by
  unfold internalRequest; split <;> exact .of_ports rfl rfl

theorem enterPurge_grow (f : FollowOn) (b : Bool) (c : Option LockCause) (s : State) :
    NoticesGrow s (enterPurge f b c s) := by
  unfold enterPurge; dsimp only
  exact ((toPhase_grow .purge s).trans (.of_ports (by rw [heaterTargets_portV]) (by rw [heaterTargets_portB]))).trans
    (internalRequest_grow _ _ _ _ _)

/-- A change of HS alone leaves the notices. -/
theorem withHs_grow (x : Heater) (s : State) : NoticesGrow s { s with hs := x } := .of_ports rfl rfl

theorem setFollowOn_grow (f : FollowOn) (s : State) : NoticesGrow s (setFollowOn f s) := by
  unfold setFollowOn; split <;> exact .of_ports rfl rfl

theorem lowerStage_grow (s : State) : NoticesGrow s (lowerStage s) := by
  unfold lowerStage; (repeat' split) <;> exact .of_ports rfl rfl

theorem standbyRestart_grow (s : State) : NoticesGrow s (standbyRestart s) := by
  unfold standbyRestart; split
  · exact .ite (enterPreheat_grow s) (.refl s)
  · exact .refl s

theorem heatAppears_grow (s : State) : NoticesGrow s (heatAppears s) := by
  unfold heatAppears; split
  case h_1 | h_2 => exact .ite (enterPreheat_grow s) (.refl s)
  case h_3 => exact setFollowOn_grow _ s
  all_goals exact .refl s

theorem heatVanishes_grow (s : State) : NoticesGrow s (heatVanishes s) := by
  unfold heatVanishes; split
  case h_1 | h_2 | h_3 => exact (withHs_grow _ s).trans (enterPurge_grow _ _ _ _)
  case h_4 => exact (NoticesGrow.ite (withHs_grow _ s) (.refl s)).trans (setFollowOn_grow _ _)
  case h_5 => exact enterHeaterOff_grow s
  all_goals exact .refl s

theorem heatChanges_grow (old : MergedHeat) (s : State) : NoticesGrow s (heatChanges old s) := by
  unfold heatChanges; split
  case h_1 => exact lowerStage_grow s
  case h_2 => exact .ite (.refl s) (standbyRestart_grow s)
  all_goals exact .refl s

theorem handHeat_grow (s : State) : NoticesGrow s (handHeat s) := by
  have hm := withHs_grow { s.hs with merged := mergedHeat s } s
  unfold handHeat; dsimp only; (repeat' split)
  · exact .refl s
  · exact hm.trans (heatAppears_grow _)
  · exact hm.trans (heatVanishes_grow _)
  · exact hm.trans (heatChanges_grow _ _)
  · exact hm

theorem heaterHoldEntry_grow (x : Bool) (s : State) : NoticesGrow s (heaterHoldEntry x s) := by
  unfold heaterHoldEntry; split
  case h_1 => exact .ite (enterPurge_grow _ _ _ s) ((withHs_grow _ s).trans (lowerStage_grow _))
  case h_2 | h_3 => exact .ite (enterPurge_grow _ _ _ s) (.refl s)
  all_goals exact .refl s

/-- A notice that stands outlasts the work of the other blocks. -/
theorem hasNotice_kept (l : Link) (n : Notice) : HeatKept (fun s => hasNotice n (port l s) = true) where
  view {s t} h e := by
    simp only [heatView, Prod.mk.injEq] at e
    obtain ⟨-, hv, hb, -⟩ := e
    unfold hasNotice at h ⊢
    cases l
    · exact hv ▸ h
    · exact hb ▸ h
  told k m h := notify_grow k m _ l n h
  woken c h := by cases l <;> simpa [port] using h
  hand h := handHeat_grow _ l n h
  lower h := lowerStage_grow _ l n h
  hold x h := heaterHoldEntry_grow x _ l n h

/-- An exit from DOZE in progress outlasts the work of the other blocks. -/
theorem exitDue_kept : HeatKept (fun s => s.tu.exitDue.isSome = true) where
  view h e := by
    simp only [heatView, Prod.mk.injEq] at e
    rw [e.2.2.2]; exact h
  told l n h := by simpa using h
  woken c h := by unfold wake; split <;> simp [h]
  hand h := by rw [besideGrants_tu (handHeat_besideGrants _)]; exact h
  lower h := by rw [besideGrants_tu (lowerStage_besideGrants _)]; exact h
  hold x h := by rw [besideGrants_tu (heaterHoldEntry_besideGrants _ _)]; exact h

/-! ### HS under the work of other blocks where a lockout stands (R77, R84, R86, R93) -/

/-- HS stands as in `s` but for the merged heater grant, with its channels. -/
structure HeatAt (s t : State) : Prop where
  heater : t.hs = { s.hs with merged := t.hs.merged }
  glow : chan 0 t = chan 0 s
  fan : chan 1 t = chan 1 s
  pump : chan 2 t = chan 2 s
  hold : t.tu.resetHold = s.tu.resetHold

theorem HeatAt.refl (s : State) : HeatAt s s := ⟨rfl, rfl, rfl, rfl, rfl⟩

theorem HeatAt.of_view {s t u : State} (e : HeatAt s t) (ev : heaterView u = heaterView t) : HeatAt s u := by
  simp only [heaterView, Prod.mk.injEq] at ev
  obtain ⟨hs, glow, fan, pump, hold⟩ := ev
  exact ⟨by rw [hs]; exact e.heater, glow.trans e.glow, fan.trans e.fan, pump.trans e.pump, hold.trans e.hold⟩

/-- HS is in LOCKOUT, or in PURGE with lockout pending. -/
def LockedOut (s : State) : Prop := s.hs.phase = .lockout ∨ s.hs.phase = .purge ∧ s.hs.pending.isSome = true

theorem setFollowOn_pending {s : State} (h : s.hs.pending.isSome = true) (f : FollowOn) : setFollowOn f s = s := by
  obtain ⟨c, hc⟩ := Option.isSome_iff_exists.1 h
  simp [setFollowOn, hc]

theorem setPending_pending {s : State} (h : s.hs.pending.isSome = true) (c : LockCause) : setPending c s = s := by
  obtain ⟨d, hd⟩ := Option.isSome_iff_exists.1 h
  simp [setPending, hd]

theorem heatAppears_lockedOut {s : State} (h : LockedOut s) : heatAppears s = s := by
  obtain hp | ⟨hp, hc⟩ := h
  · simp only [heatAppears, hp]
  · simp only [heatAppears, hp, setFollowOn_pending hc]

theorem heatVanishes_lockedOut {s : State} (h : LockedOut s) : heatVanishes s = s := by
  obtain hp | ⟨hp, hc⟩ := h
  · simp only [heatVanishes, hp]
  · have stands : ¬s.hs.pending.isNone = true := by simpa [Option.isSome_iff_ne_none] using hc
    simp only [heatVanishes, hp, if_neg stands, setFollowOn_pending hc]

theorem heatChanges_lockedOut {s : State} (h : LockedOut s) (old : MergedHeat) : heatChanges old s = s := by
  obtain hp | ⟨hp, -⟩ := h <;> simp only [heatChanges, hp]

theorem handHeat_lockedOut {s : State} (h : LockedOut s) : ∃ m, handHeat s = { s with hs.merged := m } := by
  have hm : LockedOut { s with hs.merged := mergedHeat s } := h
  unfold handHeat; dsimp only
  split
  · exact ⟨s.hs.merged, rfl⟩
  · refine ⟨mergedHeat s, ?_⟩
    split
    · exact heatAppears_lockedOut hm
    · exact heatVanishes_lockedOut hm
    · exact heatChanges_lockedOut hm _
    · rfl

theorem HeatAt.lockedOut {s t : State} (e : HeatAt s t) (h : LockedOut s) : LockedOut t := by
  unfold LockedOut at h ⊢; rw [e.heater]; exact h

theorem lowerStage_idle {s : State} (h : s.hs.phase ≠ .run) : lowerStage s = s := by
  unfold lowerStage; split
  · next hp _ => exact absurd hp h
  · rfl

theorem heaterHoldEntry_lockedOut {s : State} (h : LockedOut s) (x : Bool) : heaterHoldEntry x s = s := by
  obtain hp | ⟨hp, -⟩ := h <;> simp [heaterHoldEntry, hp]

/-- While a lockout stands or is pending, the work of other blocks changes of HS the merged grant alone. -/
theorem heatAt_kept {s : State} (h : LockedOut s) : HeatKept (HeatAt s) where
  view e ev := e.of_view (heaterView_of_heatView ev)
  told l _ e := e.of_view (mapPort_heaterView l _ _)
  woken c e := e.of_view (wake_heaterView c _)
  hand {t} e := by
    obtain ⟨m, hm⟩ := handHeat_lockedOut (e.lockedOut h)
    rw [hm]
    exact ⟨by dsimp only; rw [e.heater], e.glow, e.fan, e.pump, e.hold⟩
  lower {t} e := by
    rw [lowerStage_idle]
    · exact e
    · obtain hp | ⟨hp, -⟩ := e.lockedOut h <;> simp [hp]
  hold x e := by rw [heaterHoldEntry_lockedOut (e.lockedOut h)]; exact e

theorem takeFault_heatAt {s : State} (h : LockedOut s) (r : FaultReport) : HeatAt s (takeFault r s) :=
  takeFault_heat (heatAt_kept h) r (.refl s)

/-! ### What a fault leaves of FU (R157 to R164) -/

theorem suspendFor_record (r : FaultReport) (t : Bool) (s : State) : (suspendFor r t s).fu.record = s.fu.record := by
  unfold suspendFor suspend; dsimp only; (repeat' split)
  · rfl
  · rfl
  · rw [besideGrants_fu (suspendLoad_besideGrants _ _)]

theorem chargePathHold_record (r : FaultReport) (s : State) : (chargePathHold r s).fu.record = s.fu.record := by
  unfold chargePathHold; split
  · exact addCause_record _ _ _
  · rfl

/-- The first fault is captured, at the RTC as it stands (R158). -/
theorem takeFault_record {s : State} (h : s.fu.record = none) (r : FaultReport) :
    (takeFault r s).fu.record = some ⟨r, now s⟩ := by
  unfold takeFault; rw [h]; dsimp only
  unfold capture; rw [chargePathHold_record, suspendFor_record, wake_fu]; rfl

theorem addCause_susp (c : HoldCause) (x : Bool) (s : State) : (addCause c x s).fu.susp = s.fu.susp := by
  unfold addCause; (repeat' split)
  · rfl
  · cases c <;> rfl
  · rw [enterHold_fu]; cases c <;> rfl

theorem chargePathHold_susp (r : FaultReport) (s : State) : (chargePathHold r s).fu.susp = s.fu.susp := by
  unfold chargePathHold; split
  · exact addCause_susp _ _ _
  · rfl

theorem suspendFor_isSuspended {r : FaultReport} {l : Load} (h : sourceLoad r.source = some l) (t : Bool) (s : State) :
    isSuspended l (suspendFor r t s) = true := by
  unfold suspendFor suspend; rw [h]; dsimp only
  split
  · next already =>
    obtain ⟨e, he, hl⟩ := List.any_eq_true.1 already
    have hl' : e.load = l := by simpa using hl
    exact List.any_eq_true.2 ⟨joinSuspension r t e, List.mem_map.2 ⟨e, he, by simp [hl']⟩, by simp [joinSuspension, hl']⟩
  · unfold isSuspended
    rw [besideGrants_fu (suspendLoad_besideGrants _ _)]
    simp

/-- A fault of a source that serves a load suspends the load, whatever else FU does with it (R157, R159). -/
theorem takeFault_isSuspended {r : FaultReport} {l : Load} (h : sourceLoad r.source = some l) (s : State) :
    isSuspended l (takeFault r s) = true := by
  have of_susp : ∀ {x y : State}, y.fu.susp = x.fu.susp → isSuspended l x = true → isSuspended l y = true := fun e hx => by
    unfold isSuspended; rw [e]; exact hx
  unfold takeFault; (repeat' split)
  · exact of_susp (chargePathHold_susp _ _) (suspendFor_isSuspended h _ _)
  · exact of_susp (chargePathHold_susp _ _) (suspendFor_isSuspended h _ _)
  · exact of_susp ((chargePathHold_susp _ _).trans (addCause_susp _ _ _)) (suspendFor_isSuspended h _ _)

/-! ## O35: a failing flame sensor (R88) -/

/-- A flame result has been taken at its time, leaving the sensor `x`. -/
def flameRead (x : Sensor) (s : State) : State :=
  { s with
    tu.clock := max s.tu.clock s.hs.flameDue
    hs.flameDue := max s.tu.clock s.hs.flameDue + 1000000
    hs.flame := x }

theorem flameTemp_eq (r : TempResult) (s : State) :
    flameTemp r s =
      let x := sensorStep (-40) 400 s.hs.flame r
      match x.2 with
      | .value t => flameValue t (flameRead x.1 s)
      | .keep => flameKept (flameRead x.1 s)
      | .failed code => takeFault (sensorReport .flameTemp code (.heater s.hs.phase) false) (flameFailed (flameRead x.1 s)) := by
  unfold flameTemp; rfl

theorem exec_flameTemp {s : State} (h : Running s) (r : TempResult) :
    exec (.flameTempConversion r) s = .next (flameTemp r s) :=
  congrArg Host.Outcome.next (unlessReset_running h _)

/-- A failing flame sensor leaves HS with a lockout standing or pending. -/
theorem flameFailed_lockedOut (s : State) : LockedOut (flameFailed s) := by
  unfold flameFailed; split
  case h_1 | h_2 | h_3 =>
    refine .inr ?_
    rw [enterPurge_hs]; cases e : s.hs.pending <;> simp
  case h_4 hp =>
    refine .inr ?_
    unfold setPending; split
    · next e => simp [hp, e]
    · simp [hp]
  case h_5 | h_6 => exact .inl rfl
  case h_7 hp => exact .inl hp

@[simp] theorem flameFailed_flame (s : State) : (flameFailed s).hs.flame = s.hs.flame := by
  unfold flameFailed; split
  case h_1 | h_2 | h_3 => rw [enterPurge_hs]; rfl
  case h_4 => unfold setPending; split <;> rfl
  case h_5 | h_6 => rfl
  case h_7 => rfl

@[simp] theorem flameFailed_purgeOwed (s : State) : (flameFailed s).hs.purgeOwed = s.hs.purgeOwed := by
  unfold flameFailed; split
  case h_1 | h_2 | h_3 => exact enterPurge_purgeOwed _ _ _ _
  case h_4 => unfold setPending; split <;> rfl
  case h_5 | h_6 => rfl
  case h_7 => rfl

/-- A flame temperature in use, before its overheat: the figures of the result, flame detection and the watch (R79, R80). -/
def flameJudged (t : Int) (s : State) : State :=
  let s := { s with hs.tf := some t, hs.flameHot := decide (250 ≤ t) }
  match s.hs.phase with
  | .ignite => if s.hs.entryTemp + 15 ≤ t then enterRun s else s
  | .run => flameWatch t s
  | .off | .preheat | .purge | .standby | .lockout => s

theorem flameValue_eq (t : Int) (s : State) :
    flameValue t s = if (decide (250 ≤ t) && !s.hs.flameHot) = true then overheat (flameJudged t s) else flameJudged t s := by
  unfold flameValue; rfl

/-- An overheat leaves HS with a lockout standing or pending (R87). -/
theorem heaterOverheats_lockedOut (s : State) : LockedOut (heaterOverheats s) := by
  unfold heaterOverheats; split
  case h_1 | h_2 | h_3 =>
    refine .inr ?_
    rw [enterPurge_hs]; cases e : s.hs.pending <;> simp
  case h_4 hp =>
    have hl : (lengthenPurge s).hs.phase = .purge := by
      rw [← hp]; unfold lengthenPurge; (repeat' split) <;> (try rfl); dsimp only; split <;> rfl
    refine .inr ?_
    unfold setPending; split
    · next e => exact ⟨hl, by rw [e]; rfl⟩
    · exact ⟨hl, rfl⟩
  case h_5 | h_6 => exact .inl rfl
  case h_7 hp => exact .inl hp

theorem overheat_heatAt (s : State) : HeatAt (heaterOverheats s) (overheat s) :=
  takeFault_heatAt (heaterOverheats_lockedOut s) _

/-- In LOCKOUT a flame result changes nothing of HS's phase, cause and sensor (R87, R88). -/
theorem flameValue_lockout {s : State} (h : s.hs.phase = .lockout) (t : Int) :
    (flameValue t s).hs.phase = .lockout ∧ (flameValue t s).hs.lockout = s.hs.lockout ∧
      (flameValue t s).hs.flame = s.hs.flame := by
  have judged : flameJudged t s = { s with hs.tf := some t, hs.flameHot := decide (250 ≤ t) } := by
    simp only [flameJudged, h]
  have stands : heaterOverheats (flameJudged t s) = flameJudged t s := by
    rw [judged]; simp only [heaterOverheats, h]
  rw [flameValue_eq]; split
  · have e := (overheat_heatAt (flameJudged t s)).heater
    rw [stands, judged] at e
    rw [judged, e]; exact ⟨h, rfl, rfl⟩
  · rw [judged]; exact ⟨h, rfl, rfl⟩

/-- Settles O35, from what the failure makes of each phase and that a lockout, standing or pending, outlasts the fault's own
work. -/
theorem flameSensorFailureActsByPhase : Obligations.FlameSensorFailureActsByPhase := by
  refine ⟨fun r code s hr run good bad => ?_, fun c s run failed good hp => ?_⟩
  · have hx := sensorStep_bad (-40) 400 s.hs.flame r code hr
    rw [if_pos ⟨good, bad⟩] at hx
    obtain ⟨x, hx'⟩ : ∃ x : State, x = flameRead ⟨true, s.hs.flame.badCount + 1, 0⟩ s := ⟨_, rfl⟩
    have e : flameTemp r s = takeFault (sensorReport .flameTemp code (.heater s.hs.phase) false) (flameFailed x) := by
      rw [flameTemp_eq, hx, hx']
    have hf := flameFailed_besideGrants x
    have at_ := takeFault_heatAt (flameFailed_lockedOut x) (sensorReport .flameTemp code (.heater s.hs.phase) false)
    have hphase : x.hs.phase = s.hs.phase := by rw [hx']; rfl
    have hpending : x.hs.pending = s.hs.pending := by rw [hx']; rfl
    refine ⟨_, exec_flameTemp run r, ?_⟩
    rw [e, at_.heater]
    refine ⟨?_, takeFault_isSuspended rfl _, ?_, ?_, ?_, ?_, ?_, ?_, ?_⟩
    · dsimp only; rw [flameFailed_flame, hx']; rfl
    · dsimp only; rw [flameFailed_purgeOwed, hx']; rfl
    · intro hp
      have ef : flameFailed x = enterPurge .lockout false (some .sensor) x := by
        unfold flameFailed; rcases hp with hp | hp | hp <;> rw [hphase, hp]
      dsimp only; rw [ef, enterPurge_hs, hpending]
      refine ⟨rfl, ?_, ?_⟩
      · cases s.hs.pending <;> simp [hx', flameRead]
      · cases s.hs.pending <;> rfl
    · intro hp
      have ef : flameFailed x = setPending .sensor x := by unfold flameFailed; rw [hphase, hp]
      dsimp only; rw [ef]; unfold setPending; rw [hpending]
      cases hc : s.hs.pending with
      | some c => exact ⟨hphase.trans hp, hpending.trans hc, fun h => by simp at h⟩
      | none => exact ⟨hphase.trans hp, rfl, fun _ => by rw [hx']; rfl⟩
    · intro hp
      have ef : flameFailed x = enterLockout .sensor x := by
        unfold flameFailed; rcases hp with hp | hp <;> rw [hphase, hp]
      dsimp only; rw [ef]; exact ⟨rfl, rfl⟩
    · intro hp
      have ef : flameFailed x = x := by unfold flameFailed; rw [hphase, hp]
      dsimp only; rw [ef]; exact ⟨hphase.trans hp, by rw [hx']; rfl⟩
    · intro hr
      rw [takeFault_record (by rw [besideGrants_fu hf, hx']; exact hr)]
      have ht : now (flameFailed x) = now s := by rw [now, besideGrants_tu hf, hx']; rfl
      rw [ht]; rfl
    · have b : besideFaults (takeFault (sensorReport .flameTemp code (.heater s.hs.phase) false) (flameFailed x)) =
          besideFaults x := (takeFault_besideFaults _ _).trans (besideFaults_of_grants hf)
      rw [hx'] at b ⊢
      exact congrArg (fun y : State => { y with tu.clock := s.tu.clock }) b
  · have hx := sensorStep_celsius (-40) 400 s.hs.flame c
    rw [if_neg (by omega)] at hx
    have e : flameTemp (.celsius c) s =
        flameValue (clampInt (-40) 400 c) (flameRead ⟨false, 0, s.hs.flame.goodCount + 1⟩ s) := by
      rw [flameTemp_eq, hx]
    obtain ⟨phase, flag, sensor⟩ := flameValue_lockout (s := flameRead ⟨false, 0, s.hs.flame.goodCount + 1⟩ s) hp
      (clampInt (-40) 400 c)
    refine ⟨_, exec_flameTemp run _, ?_⟩
    rw [e]
    exact ⟨by rw [sensor]; rfl, phase, flag⟩

end Sys2Proof.Machine

namespace Sys2Proof.Machine

/-! ## O34: flame temperature results (R76, R79, R80, R83, R87) -/

/-! ### A heater fault while a lockout stands (R157 to R159) -/

theorem mergeHeater_lockedOut {s : State} (h : LockedOut s) : ∃ m, mergeHeater s = { s with hs.merged := m } := by
  obtain ⟨m, hm⟩ := handHeat_lockedOut h
  have h' : LockedOut { s with hs.merged := m } := h
  obtain ⟨m', hm'⟩ := handHeat_lockedOut h'
  exact ⟨m', by rw [mergeHeater, hm, hm']⟩

/-- A change of every entry that keeps the pair and what is read of it keeps what is read of the entry of each pair. -/
theorem findGrant_mapped {α : Type} {s t : State} (f : Grant → Grant) (ht : t.au.table = s.au.table.map f)
    (view : Grant → α) (hl : ∀ g, (f g).load = g.load) (hp : ∀ g, (f g).purpose = g.purpose)
    (hv : ∀ g, view (f g) = view g) (l : Load) (p : Purpose) :
    (findGrant l p t).map view = (findGrant l p s).map view := by
  have pair : isPair l p ∘ f = isPair l p := by funext g; simp [isPair, hl, hp]
  unfold findGrant
  rw [ht, List.find?_map, pair, Option.map_map]
  cases List.find? (isPair l p) s.au.table <;> simp [hv]

/-- The change of a pair's entry that keeps the pair is read back at the pair. -/
theorem findGrant_updateGrant {f : Grant → Grant} (hl : ∀ g, (f g).load = g.load) (hp : ∀ g, (f g).purpose = g.purpose)
    (l : Load) (p : Purpose) (s : State) : findGrant l p (updateGrant l p f s) = (findGrant l p s).map f := by
  have pair : (isPair l p ∘ fun g => if isPair l p g = true then f g else g) = isPair l p := by
    funext g; simp only [Function.comp]; split <;> simp [isPair, hl, hp]
  unfold findGrant updateGrant mapPair; dsimp only
  rw [List.find?_map, pair]
  cases h : List.find? (isPair l p) s.au.table with
  | none => rfl
  | some g => simp [List.find?_some h]

/-- The suspension of the heater while a lockout stands turns its entries SUSPENDED and leaves the channels (R159). -/
theorem suspendFor_lockedOut {s : State} (h : LockedOut s) {r : FaultReport} (hr : sourceLoad r.source = some .heater)
    (tied : Bool) (p : Purpose) :
    (suspendFor r tied s).ca = s.ca ∧
      (findGrant .heater p (suspendFor r tied s)).map (·.endTime) = (findGrant .heater p s).map (·.endTime) := by
  unfold suspendFor suspend; rw [hr]; dsimp only
  split
  · exact ⟨rfl, rfl⟩
  · let f : Grant → Grant := fun g => if g.load == .heater then { g with state := .suspended, shedTime := none } else g
    have same : ∀ {α : Type} (v : Grant → α), (∀ g : Grant, v { g with state := .suspended, shedTime := none } = v g) →
        ∀ g, v (f g) = v g := fun v hv g => by unfold f; split <;> simp [hv]
    unfold suspendLoad; dsimp only
    generalize hx : ({ s with fu.susp := _, au := _ } : State) = x
    have hl : LockedOut x := by rw [← hx]; exact h
    obtain ⟨m, hm⟩ := mergeHeater_lockedOut hl
    change (mergeHeater x).ca = s.ca ∧ (findGrant .heater p (mergeHeater x)).map _ = _
    rw [hm]
    refine ⟨by rw [← hx], findGrant_mapped f (by rw [← hx]) _ (same _ fun _ => rfl) (same _ fun _ => rfl)
      (same _ fun _ => rfl) _ _⟩

/-- The capture of a heater fault while a lockout stands leaves the channels and the ends of the heater's entries (R158). -/
theorem takeFault_lockedOut {s : State} (h : LockedOut s) (hrec : s.fu.record = none) {r : FaultReport}
    (hr : sourceLoad r.source = some .heater) (hc : r.code ≠ .chargePath) (p : Purpose) :
    (takeFault r s).ca = s.ca ∧
      (findGrant .heater p (takeFault r s)).map (·.endTime) = (findGrant .heater p s).map (·.endTime) := by
  let told : State := wake .capture (notifyBoth .fault { s with fu.record := some ⟨r, now s⟩ })
  have e : takeFault r s = suspendFor r true told := by
    unfold takeFault; rw [hrec]; dsimp only; unfold capture chargePathHold
    rw [if_neg (by simpa using hc)]
  have ht : LockedOut told := by
    have hh : told.hs = s.hs := wake_hs _ _
    unfold LockedOut; rw [hh]; exact h
  obtain ⟨hca, hend⟩ := suspendFor_lockedOut ht hr true p
  have hau : told.au = s.au := wake_au _ _
  rw [e]
  refine ⟨hca.trans (wake_ca _ _), hend.trans ?_⟩
  unfold findGrant; rw [hau]

/-! ### What RUN entry leaves (R80) -/

theorem targetChannel_target (n : Fin 12) (k t : Nat) (c : Channel) : (targetChannel n k t c).target = k := by
  unfold targetChannel; split
  case h_1 => split <;> simp_all [enterStarting]
  case h_2 | h_3 => (repeat' split) <;> simp_all [enterOff]
  all_goals rfl

/-- HS's three channels have the targets it gave them, and the others stand (R57). -/
theorem heaterTargets_chans_eq (glow : Bool) (fan pump : Nat) (s : State) :
    (chan 0 (heaterTargets glow fan pump s)).target = (if glow then 255 else 0) ∧
    (chan 1 (heaterTargets glow fan pump s)).target = fan ∧
    (chan 2 (heaterTargets glow fan pump s)).target = pump ∧
    ∀ n : Fin 12, 3 ≤ n.val → chan n (heaterTargets glow fan pump s) = chan n s := by
  unfold heaterTargets
  refine ⟨?_, ?_, ?_, fun n hn => ?_⟩
  · rw [chan_setTarget_ne (by decide), chan_setTarget_self, targetChannel_target]
  · rw [chan_setTarget_self, targetChannel_target]
  · rw [chan_setTarget_ne (by decide), chan_setTarget_ne (by decide), chan_setTarget_self, targetChannel_target]
  · have ne : ∀ m : Fin 12, m.val < 3 → n ≠ m := fun m hm e => by subst e; omega
    rw [chan_setTarget_ne (ne 1 (by decide)), chan_setTarget_ne (ne 0 (by decide)), chan_setTarget_ne (ne 2 (by decide))]

/-- A change of phase is told on both links, and the channels' targets leave the notices (R95). -/
theorem noticed_heaterPhase_of_ports {s t : State} (hv : t.portV = s.portV) (hb : t.portB = s.portB)
    (h : Noticed .heaterPhase s) : Noticed .heaterPhase t := fun l => by
  have hp : port l t = port l s := by cases l <;> assumption
  rw [hp]; exact h l

theorem toPhase_noticed (p : HeaterPhase) (s : State) : Noticed .heaterPhase (toPhase p s) := noticed_notifyBoth _ _

/-! ### The parts of a flame result -/

theorem flameTemp_celsius {s : State} (h : s.hs.flame.failed = false ∨ 2 ≤ s.hs.flame.goodCount) (c : Int) :
    flameTemp (.celsius c) s =
      flameValue (max (-40) (min 400 c)) (flameRead ⟨false, 0, s.hs.flame.goodCount + 1⟩ s) := by
  have hx := sensorStep_celsius (-40) 400 s.hs.flame c
  have used : ¬(s.hs.flame.failed = true ∧ s.hs.flame.goodCount < 2) := by
    rcases h with h | h
    · simp [h]
    · omega
  rw [if_neg used] at hx
  rw [flameTemp_eq, hx]; rfl

/-- Below 250 °C and where no flame is detected, a result moves figures alone (R80, R83). -/
theorem flameValue_cool {s : State} {t : Int} (cool : t < 250) (h : s.hs.phase ≠ .ignite ∨ t < s.hs.entryTemp + 15) :
    flameValue t s = { s with
      hs.tf := some t
      hs.flameHot := false
      hs.proven := if s.hs.phase = .run then s.hs.proven || decide (60 ≤ t) else s.hs.proven
      hs.provenDue := if s.hs.phase = .run ∧ (s.hs.proven || decide (60 ≤ t)) = true then none else s.hs.provenDue
      hs.flameOutDue :=
        if s.hs.phase ≠ .run then s.hs.flameOutDue
        else if (s.hs.proven || decide (60 ≤ t)) = true ∧ t < 60 then
          some (s.hs.flameOutDue.getD (s.tu.clock + secs 10))
        else none } := by
  have hot : decide (250 ≤ t) = false := decide_eq_false (by omega)
  rw [flameValue_eq, hot]
  simp only [Bool.false_and, Bool.false_eq_true, if_false, flameJudged, hot]
  cases hp : s.hs.phase
  case ignite =>
    have undetected : ¬s.hs.entryTemp + 15 ≤ t := by
      rcases h with h | h
      · exact absurd hp h
      · omega
    simp [undetected]
  case run => simp [flameWatch, judgeFlame]
  all_goals simp

/-- An OPEN or SHORT result that leaves the sensor GOOD lets the watch judge the last flame temperature (R83). -/
theorem flameKept_good {s : State} (good : s.hs.flame.failed = false) :
    flameKept s = { s with
      hs.flameOutDue := match s.hs.phase, s.hs.tf with
        | .run, some x =>
          if s.hs.proven = true ∧ x < 60 then some (s.hs.flameOutDue.getD (s.tu.clock + secs 10)) else none
        | _, _ => s.hs.flameOutDue } := by
  unfold flameKept
  cases hp : s.hs.phase
  case run =>
    cases ht : s.hs.tf with
    | none => rfl
    | some t => dsimp only; rw [if_neg (by simp [good])]; rfl
  all_goals rfl

/-- Flame detection enters RUN (R79, R80). -/
theorem enterRun_facts (s : State) :
    (enterRun s).hs.phase = .run ∧ (enterRun s).hs.attempts = 0 ∧ (enterRun s).hs.proven = false ∧
    (enterRun s).hs.provenDue = some (s.tu.clock + secs 180) ∧
    (enterRun s).hs.regulationDue = some (s.tu.clock + secs 30) ∧ (enterRun s).hs.tf = s.hs.tf ∧
    (enterRun s).hs.pending = s.hs.pending ∧ (enterRun s).hs.stage.isSome = true ∧
    (chan 0 (enterRun s)).target = 0 ∧ Noticed .heaterPhase (enterRun s) ∧ (enterRun s).au = s.au ∧
    (enterRun s).cs = s.cs :=
  ⟨rfl, rfl, rfl, rfl, rfl, rfl, rfl, rfl, (heaterTargets_chans_eq _ _ _ _).1,
    noticed_heaterPhase_of_ports (s := toPhase .run s) rfl rfl (toPhase_noticed _ _), rfl, rfl⟩

/-- What flame detection and the watch leave for an overheat to read (R79, R80, R87). -/
theorem flameJudged_facts (t : Int) (s : State) :
    (flameJudged t s).hs.tf = some t ∧ (flameJudged t s).hs.pending = s.hs.pending ∧
    besideGrants (flameJudged t s) = besideGrants s ∧
    (s.hs.phase ≠ .ignite → s.hs.phase ≠ .run →
      flameJudged t s = { s with hs.tf := some t, hs.flameHot := decide (250 ≤ t) }) ∧
    (s.hs.phase = .ignite ∨ s.hs.phase = .run →
      (flameJudged t s).hs.phase = .ignite ∨ (flameJudged t s).hs.phase = .run) := by
  unfold flameJudged; dsimp only; split
  case h_1 hp =>
    split
    · exact ⟨rfl, rfl, (enterRun_besideGrants _).trans rfl, fun h => absurd hp h, fun _ => .inr rfl⟩
    · exact ⟨rfl, rfl, rfl, fun h => absurd hp h, fun _ => .inl hp⟩
  case h_2 hp => exact ⟨rfl, rfl, rfl, fun _ h => absurd hp h, fun _ => .inr hp⟩
  all_goals
    next hp => exact ⟨rfl, rfl, rfl, fun _ _ => rfl, fun h => by rcases h with h | h <;> simp [h] at hp⟩

/-! ### What an overheat makes of each phase (R87) -/

theorem heaterOverheats_burning {s : State} (h : s.hs.phase = .preheat ∨ s.hs.phase = .ignite ∨ s.hs.phase = .run) :
    heaterOverheats s = enterPurge .lockout true (some .overheat) s := by
  unfold heaterOverheats; rcases h with h | h | h <;> rw [h]

theorem heaterOverheats_purge {s : State} (h : s.hs.phase = .purge) :
    heaterOverheats s = setPending .overheat (lengthenPurge s) := by
  unfold heaterOverheats; rw [h]

theorem heaterOverheats_resting {s : State} (h : s.hs.phase = .off ∨ s.hs.phase = .standby) :
    heaterOverheats s = enterLockout .overheat s := by
  unfold heaterOverheats; rcases h with h | h <;> rw [h]

theorem heaterOverheats_lockout {s : State} (h : s.hs.phase = .lockout) : heaterOverheats s = s := by
  unfold heaterOverheats; rw [h]

/-- Lockout becomes pending once, and then leads to LOCKOUT (R84). -/
theorem setPending_eq (c : LockCause) (s : State) :
    setPending c s = { s with
      hs.pending := some (match s.hs.pending with | some d => d | none => c)
      hs.purge := s.hs.purge.map (fun r =>
        { r with followOn := if s.hs.pending.isNone then .lockout else r.followOn }) } := by
  unfold setPending
  cases hc : s.hs.pending with
  | none => rfl
  | some d =>
    have same : s.hs.purge.map (fun r =>
        { r with followOn := if (some d).isNone then .lockout else r.followOn }) = s.hs.purge := by
      cases s.hs.purge <;> rfl
    simp only [same]; rw [← hc]

/-- A purge of run `run` that an overheat meets at this time (R87). -/
def lengthened (t : Nat) (run : PurgeRun) : PurgeRun :=
  if run.full then run
  else
    { run with
      full := true
      due := run.entryClock + 180000000
      glowDue := if t < run.entryClock + 30000000 then some (run.entryClock + 30000000) else none }

theorem lengthenPurge_facts {s : State} {run : PurgeRun} (h : s.hs.purge = some run) :
    (lengthenPurge s).hs = { s.hs with purge := some (lengthened s.tu.clock run) } ∧
    (run.full = false → s.tu.clock < run.entryClock + 30000000 → (chan 0 (lengthenPurge s)).target = 255) ∧
    (run.full = false → (findGrant .heater .purge (lengthenPurge s)).map (·.endTime) =
      (findGrant .heater .purge s).map (fun _ => some (run.entryRtc + 180#32))) := by
  unfold lengthenPurge lengthened; rw [h]; dsimp only
  cases hf : run.full
  case true => exact ⟨by simp [← h], fun e => by simp at e, fun e => by simp at e⟩
  case false =>
    simp only [Bool.false_eq_true, if_false]
    refine ⟨?_, fun _ lit => ?_, fun _ => ?_⟩
    · split <;> simp_all [secs, updateGrant]
    · have lit' : s.tu.clock < run.entryClock + secs 30 := lit
      rw [if_pos (by simpa using lit')]
      exact (congrArg Channel.target (chan_setTarget_self 0 255 _)).trans (targetChannel_target _ _ _ _)
    · refine (congrArg (Option.map _) (findGrant_updateGrant
        (f := fun g => { g with endTime := some (plusSecs run.entryRtc 180) }) (fun _ => rfl) (fun _ => rfl) _ _ _)).trans ?_
      rw [Option.map_map]
      split <;> rfl

/-- The report of an overheat (R87). -/
def overheatReport (s : State) : FaultReport :=
  { source := .heater, code := .overheat, measured := s.hs.tf.getD 0, detect := .heater s.hs.phase, restartable := false }

theorem overheat_eq (s : State) : overheat s = takeFault (overheatReport s) (heaterOverheats s) := rfl

/-- What FU makes of an overheat, whatever the phase (R87, R158, R159). -/
theorem overheat_fault {s : State} (h : s.fu.record = none) :
    isSuspended .heater (overheat s) = true ∧ (overheat s).fu.record = some ⟨overheatReport s, now s⟩ ∧
    besideFaults (overheat s) = besideFaults s := by
  have hb := heaterOverheats_besideGrants s
  rw [overheat_eq]
  refine ⟨takeFault_isSuspended rfl _, ?_, (takeFault_besideFaults _ _).trans (besideFaults_of_grants hb)⟩
  rw [takeFault_record (by rw [besideGrants_fu hb]; exact h), now, besideGrants_tu hb]; rfl

/-- An overheat in OFF or STANDBY locks HS out, with the pump off (R87). -/
theorem overheat_resting {s : State} (h : s.hs.phase = .off ∨ s.hs.phase = .standby) :
    (overheat s).hs.phase = .lockout ∧ (overheat s).hs.lockout = some .overheat ∧ (chan 2 (overheat s)).target = 0 := by
  have e := overheat_heatAt s
  rw [heaterOverheats_resting h] at e
  rw [e.heater, e.pump]
  exact ⟨rfl, rfl, (heaterTargets_chans_eq _ _ _ _).2.2.1⟩

/-- An overheat while HS heats runs a FULL purge with lockout pending (R87). -/
theorem overheat_burning {s : State} (h : s.hs.phase = .preheat ∨ s.hs.phase = .ignite ∨ s.hs.phase = .run) :
    (overheat s).hs.phase = .purge ∧
    (overheat s).hs.purge.map (fun r => (r.full, r.followOn)) = some (true, .lockout) ∧
    (overheat s).hs.pending.isSome = true := by
  have e := overheat_heatAt s
  rw [heaterOverheats_burning h] at e
  rw [e.heater, enterPurge_hs]
  cases s.hs.pending <;> exact ⟨rfl, rfl, rfl⟩

/-- An overheat in PURGE makes lockout pending and lengthens a SHORT purge (R84, R87). -/
theorem overheat_purge {s : State} (h : s.hs.phase = .purge) {run : PurgeRun} (hr : s.hs.purge = some run)
    (hrec : s.fu.record = none) :
    (overheat s).hs.phase = .purge ∧
    (overheat s).hs.pending = some (match s.hs.pending with | some c => c | none => .overheat) ∧
    (overheat s).hs.purge = some { lengthened s.tu.clock run with
      followOn := if s.hs.pending.isNone then .lockout else run.followOn } ∧
    (run.full = false → s.tu.clock < run.entryClock + 30000000 → (chan 0 (overheat s)).target = 255) ∧
    (run.full = false → (findGrant .heater .purge (overheat s)).map (·.endTime) =
      (findGrant .heater .purge s).map (fun _ => some (run.entryRtc + 180#32))) := by
  obtain ⟨hl, lit, ends⟩ := lengthenPurge_facts hr
  have e := overheat_heatAt s
  have frame : (heaterOverheats s).fu.record = none := by
    rw [besideGrants_fu (heaterOverheats_besideGrants s)]; exact hrec
  have hend := (takeFault_lockedOut (heaterOverheats_lockedOut s) frame (r := overheatReport s) rfl (by simp [overheatReport]) .purge).2
  have hset : heaterOverheats s = setPending .overheat (lengthenPurge s) := heaterOverheats_purge h
  have follow : (lengthened s.tu.clock run).followOn = run.followOn := by unfold lengthened; split <;> rfl
  rw [hset, setPending_eq, hl] at e
  refine ⟨?_, ?_, ?_, fun hf hlit => ?_, fun hf => ?_⟩
  · rw [e.heater]; exact h
  · rw [e.heater]
  · rw [e.heater]; simp [follow]
  · rw [e.glow]; exact lit hf hlit
  · rw [overheat_eq]
    refine hend.trans ?_
    rw [hset, setPending_eq]; exact ends hf

/-- An overheat in LOCKOUT changes nothing of HS but a figure, and no channel (R87). -/
theorem overheat_lockout {s : State} (h : s.hs.phase = .lockout) (hrec : s.fu.record = none) :
    (overheat s).hs.phase = .lockout ∧ (overheat s).hs.lockout = s.hs.lockout ∧ (overheat s).ca = s.ca := by
  have e := (overheat_heatAt s).heater
  rw [heaterOverheats_lockout h] at e
  refine ⟨by rw [e]; exact h, by rw [e], ?_⟩
  rw [overheat_eq, heaterOverheats_lockout h]
  exact (takeFault_lockedOut (.inl h) hrec (r := overheatReport s) rfl (by simp [overheatReport]) .purge).1

/-- Settles O34: a cool result by its phase, flame detection by RUN's entry, an overheat by what it makes of each phase, and a
bad result by the watch alone. -/
theorem flameResultsJudged : Obligations.FlameResultsJudged := by
  refine ⟨fun c s run used => ?_, fun r s bad run good few => ?_⟩
  · have he : exec (.flameTempConversion (.celsius c)) s = .next (flameValue (max (-40) (min 400 c))
        (flameRead ⟨false, 0, s.hs.flame.goodCount + 1⟩ s)) := by
      rw [exec_flameTemp run, flameTemp_celsius used]
    dsimp only
    generalize max (-40) (min 400 c) = temp at he ⊢
    refine ⟨fun cool undetected => ?_, fun cool ignite detected => ?_, fun hot dark rec_ => ?_⟩
    · rw [he, flameValue_cool (s := flameRead ⟨false, 0, s.hs.flame.goodCount + 1⟩ s) cool undetected]
      cases hd : s.hs.flameOutDue <;> simp [flameRead, secs, hd]
    · have hv : flameValue temp (flameRead ⟨false, 0, s.hs.flame.goodCount + 1⟩ s) =
          enterRun { flameRead ⟨false, 0, s.hs.flame.goodCount + 1⟩ s with hs.tf := some temp, hs.flameHot := false } := by
        have hot : decide (250 ≤ temp) = false := decide_eq_false (by omega)
        have hp : (flameRead ⟨false, 0, s.hs.flame.goodCount + 1⟩ s).hs.phase = .ignite := ignite
        have hd : (flameRead ⟨false, 0, s.hs.flame.goodCount + 1⟩ s).hs.entryTemp + 15 ≤ temp := detected
        rw [flameValue_eq, hot]
        simp only [Bool.false_and, Bool.false_eq_true, if_false, flameJudged, hot, hp]
        rw [if_pos hd]
      rw [hv] at he
      obtain ⟨phase, attempts, proven, provenDue, regulation, tf, -, stage, glow, told, au, cs⟩ := enterRun_facts
        { flameRead ⟨false, 0, s.hs.flame.goodCount + 1⟩ s with hs.tf := some temp, hs.flameHot := false }
      exact ⟨_, he, phase, attempts, proven, provenDue, regulation, tf, stage, glow, told, au, cs,
        (enterRun_besideGrants _).trans rfl⟩
    · generalize hx : flameRead ⟨false, 0, s.hs.flame.goodCount + 1⟩ s = x at he
      have rises : (decide (250 ≤ temp) && !x.hs.flameHot) = true := by
        have : x.hs.flameHot = false := by rw [← hx]; exact dark
        simp [hot, this]
      rw [flameValue_eq, if_pos rises] at he
      obtain ⟨tf, pending, frame, quiet, burns⟩ := flameJudged_facts temp x
      have hphase : x.hs.phase = s.hs.phase := by rw [← hx]; rfl
      have hrec : (flameJudged temp x).fu.record = none := by rw [besideGrants_fu frame, ← hx]; exact rec_
      have still : s.hs.phase ≠ .ignite → s.hs.phase ≠ .run →
          flameJudged temp x = { x with hs.tf := some temp, hs.flameHot := decide (250 ≤ temp) } := by
        rw [← hphase]; exact quiet
      obtain ⟨suspended, captured, beside⟩ := overheat_fault hrec
      refine ⟨_, he, suspended, ?_, fun hp => ?_, fun hp => ?_, fun hp purge hpurge => ?_, fun hp => ?_, ?_⟩
      · rw [captured]
        have ht : now (flameJudged temp x) = now s := by rw [now, besideGrants_tu frame, ← hx]; rfl
        simp [overheatReport, tf, ht]
      · refine overheat_resting ?_
        rw [still (by rcases hp with hp | hp <;> simp [hp]) (by rcases hp with hp | hp <;> simp [hp])]
        exact hphase ▸ hp
      · refine overheat_burning ?_
        rcases hp with hp | hp
        · rw [still (by simp [hp]) (by simp [hp])]; exact .inl (hphase.trans hp)
        · exact .inr (burns (hphase ▸ hp))
      · have e := still (by simp [hp]) (by simp [hp])
        have hy : (flameJudged temp x).hs.phase = .purge ∧ (flameJudged temp x).hs.purge = some purge ∧
            (flameJudged temp x).hs.pending = s.hs.pending ∧
            (flameJudged temp x).tu.clock = max s.tu.clock s.hs.flameDue ∧ (flameJudged temp x).au = s.au := by
          rw [e, ← hx]; exact ⟨hp, hpurge, rfl, rfl, rfl⟩
        obtain ⟨yphase, ypurge, ypending, yclock, yau⟩ := hy
        obtain ⟨phase, locks, length, lit, ends⟩ := overheat_purge yphase ypurge hrec
        rw [ypending] at locks length
        rw [yclock] at length lit
        have endsOf : findGrant .heater .purge (flameJudged temp x) = findGrant .heater .purge s := by
          unfold findGrant; rw [yau]
        refine ⟨phase, locks, fun full => ?_, fun short => ⟨?_, fun l => lit short (by simpa using l), ?_⟩⟩
        · rw [length]; simp [lengthened, full]
        · rw [length]; simp [lengthened, short]
        · rw [ends short, endsOf]
      · have e := still (by simp [hp]) (by simp [hp])
        obtain ⟨phase, flag, ca⟩ := overheat_lockout (s := flameJudged temp x) (by rw [e]; exact hphase.trans hp) hrec
        rw [phase, flag, ca, e, ← hx]; exact ⟨rfl, rfl, rfl⟩
      · rw [beside, besideFaults_of_grants frame, ← hx]; rfl
  · have hx : sensorStep (-40) 400 s.hs.flame r = (⟨false, s.hs.flame.badCount + 1, 0⟩, .keep) := by
      obtain ⟨code, hcode⟩ : ∃ code, r = .openCircuit ∧ code = FaultCode.sensorOpen ∨
          r = .shortCircuit ∧ code = .sensorShort := by
        rcases bad with rfl | rfl
        · exact ⟨_, .inl ⟨rfl, rfl⟩⟩
        · exact ⟨_, .inr ⟨rfl, rfl⟩⟩
      rw [sensorStep_bad _ _ _ _ _ hcode, if_neg (by omega), good]
    rw [exec_flameTemp run, flameTemp_eq, hx]
    dsimp only
    rw [flameKept_good rfl]
    cases hd : s.hs.flameOutDue <;> cases hp : s.hs.phase <;> cases ht : s.hs.tf <;> simp [flameRead, secs, hd, hp, ht]

end Sys2Proof.Machine

namespace Sys2Proof.Machine

/-! ## O31, O32, O36: the timers of the phases (R75 to R85) -/

theorem Noticed.grow {n : Notice} {s t : State} (h : Noticed n s) (g : NoticesGrow s t) : Noticed n t :=
  fun l => g l n (h l)

/-! ### PURGE under the merged heater grant (R84, R86) -/

/-- The heater `y` runs the purge of `x` on: the merged grant, the activation and the follow-on phase apart, it stands. -/
def PurgeRunsOn (x y : Heater) : Prop :=
  y = { x with merged := y.merged, activation := y.activation, purge := y.purge } ∧
  ∃ f : FollowOn → FollowOn, y.purge = x.purge.map (fun r => { r with followOn := f r.followOn })

theorem PurgeRunsOn.refl (x : Heater) : PurgeRunsOn x x := ⟨rfl, id, by cases x.purge <;> rfl⟩

theorem PurgeRunsOn.trans {x y z : Heater} (h : PurgeRunsOn x y) (k : PurgeRunsOn y z) : PurgeRunsOn x z := by
  obtain ⟨hy, f, hf⟩ := h
  obtain ⟨hz, g, hg⟩ := k
  refine ⟨?_, g ∘ f, ?_⟩
  · rw [hz, hy]
  · rw [hg, hf]; cases x.purge <;> rfl

theorem PurgeRunsOn.full {x y : Heater} (h : PurgeRunsOn x y) : y.purge.map (·.full) = x.purge.map (·.full) := by
  obtain ⟨-, f, hf⟩ := h
  rw [hf]; cases x.purge <;> rfl

theorem PurgeRunsOn.phase {x y : Heater} (h : PurgeRunsOn x y) : y.phase = x.phase := by rw [h.1]
theorem PurgeRunsOn.pending {x y : Heater} (h : PurgeRunsOn x y) : y.pending = x.pending := by rw [h.1]
theorem PurgeRunsOn.lockout {x y : Heater} (h : PurgeRunsOn x y) : y.lockout = x.lockout := by rw [h.1]
theorem PurgeRunsOn.attempts {x y : Heater} (h : PurgeRunsOn x y) : y.attempts = x.attempts := by rw [h.1]
theorem PurgeRunsOn.flameOuts {x y : Heater} (h : PurgeRunsOn x y) : y.flameOuts = x.flameOuts := by rw [h.1]
theorem PurgeRunsOn.purgeOwed {x y : Heater} (h : PurgeRunsOn x y) : y.purgeOwed = x.purgeOwed := by rw [h.1]
theorem PurgeRunsOn.cabin {x y : Heater} (h : PurgeRunsOn x y) : y.cabin = x.cabin := by rw [h.1]

theorem setFollowOn_purge (f : FollowOn) (s : State) :
    ∃ x, setFollowOn f s = { s with hs := x } ∧ PurgeRunsOn s.hs x := by
  unfold setFollowOn; split
  · exact ⟨s.hs, rfl, .refl _⟩
  · exact ⟨_, rfl, rfl, fun _ => f, rfl⟩

theorem heatAppears_purge {s : State} (h : s.hs.phase = .purge) : heatAppears s = setFollowOn .preheat s := by
  unfold heatAppears; rw [h]

theorem heatVanishes_purge {s : State} (h : s.hs.phase = .purge) :
    heatVanishes s = setFollowOn .off (if s.hs.pending.isNone then { s with hs.activation := false } else s) := by
  unfold heatVanishes; rw [h]

theorem heatChanges_purge {s : State} (h : s.hs.phase = .purge) (old : MergedHeat) : heatChanges old s = s := by
  unfold heatChanges; rw [h]

/-- In PURGE a change of the merged heater grant writes HS alone, and the purge runs on. -/
theorem handHeat_purge {s : State} (h : s.hs.phase = .purge) :
    ∃ x, handHeat s = { s with hs := x } ∧ PurgeRunsOn s.hs x := by
  have hm : PurgeRunsOn s.hs { s.hs with merged := mergedHeat s } := ⟨rfl, id, by cases s.hs.purge <;> rfl⟩
  have ended : PurgeRunsOn s.hs { s.hs with merged := mergedHeat s, activation := false } :=
    ⟨rfl, id, by cases s.hs.purge <;> rfl⟩
  have followed : ∀ (f : FollowOn) (x : Heater), PurgeRunsOn s.hs x →
      ∃ y, setFollowOn f { s with hs := x } = { s with hs := y } ∧ PurgeRunsOn s.hs y := fun f x hx => by
    obtain ⟨y, e, hy⟩ := setFollowOn_purge f { s with hs := x }
    exact ⟨y, e, hx.trans hy⟩
  unfold handHeat; dsimp only; (repeat' split)
  · exact ⟨s.hs, rfl, .refl _⟩
  · rw [heatAppears_purge (by exact h)]; exact followed _ _ hm
  · rw [heatVanishes_purge (by exact h)]; split
    · exact followed _ _ ended
    · exact followed _ _ hm
  · rw [heatChanges_purge (by exact h)]; exact ⟨_, rfl, hm⟩
  · exact ⟨_, rfl, hm⟩

theorem mergeHeater_purge {s : State} (h : s.hs.phase = .purge) :
    ∃ x, mergeHeater s = { s with hs := x } ∧ PurgeRunsOn s.hs x := by
  obtain ⟨x, ex, hx⟩ := handHeat_purge h
  obtain ⟨y, ey, hy⟩ := handHeat_purge (s := { s with hs := x }) (hx.phase.trans h)
  exact ⟨y, by rw [mergeHeater, ex, ey], hx.trans hy⟩

/-- The same merged heater grant is handed over without effect (R52). -/
theorem mergeHeater_same {s : State} (h : mergedHeat s = s.hs.merged) : mergeHeater s = s := by
  have e : handHeat s = s := by unfold handHeat; exact if_pos h
  rw [mergeHeater, e, e]

theorem mergedHeat_of_table {s t : State} (h : t.au.table = s.au.table) : mergedHeat t = mergedHeat s := by
  unfold mergedHeat hasSuspended; rw [h]

/-! ### A purge that follows a phase (R79, R82 to R84) -/

theorem enterPurge_ca (f : FollowOn) (b : Bool) (c : Option LockCause) (s : State) :
    (enterPurge f b c s).ca = (heaterTargets (b || s.hs.purgeOwed) 255 0 s).ca := by
  unfold enterPurge; simp only [internalRequest_ca]; rfl

theorem enterPurge_noticed (f : FollowOn) (b : Bool) (c : Option LockCause) (s : State) :
    Noticed .heaterPhase (enterPurge f b c s) := by
  unfold enterPurge; dsimp only
  exact (noticed_heaterPhase_of_ports (by rw [heaterTargets_portV]) (by rw [heaterTargets_portB])
    (toPhase_noticed .purge s)).grow (internalRequest_grow _ _ _ _ _)

theorem chan_of_ca {s t : State} (h : t.ca = s.ca) (n : Fin 12) : chan n t = chan n s := by unfold chan; rw [h]

/-- What a purge that follows a phase leaves, its merged grant formed again (R79, R82, R83). -/
theorem purgeAndMerge_facts (f : FollowOn) (c : Option LockCause) (s : State) :
    PurgeRunsOn (enterPurge f false c s).hs (purgeAndMerge f c s).hs ∧
    (purgeAndMerge f c s).ca = (heaterTargets s.hs.purgeOwed 255 0 s).ca ∧
    Noticed .heaterPhase (purgeAndMerge f c s) ∧
    (mergedHeat (purgeAndMerge f c s) = s.hs.merged → purgeAndMerge f c s = enterPurge f false c s) ∧
    besideGrants (purgeAndMerge f c s) = besideGrants s := by
  have hp : (enterPurge f false c s).hs.phase = .purge := by rw [enterPurge_hs]
  obtain ⟨x, e, hx⟩ := mergeHeater_purge hp
  have e' : purgeAndMerge f c s = { enterPurge f false c s with hs := x } := e
  rw [e']
  refine ⟨hx, (enterPurge_ca f false c s).trans (by rw [Bool.false_or]), enterPurge_noticed f false c s, fun h => ?_,
    (besideGrants_withHs _ _).trans (enterPurge_besideGrants f false c s)⟩
  have hm : mergedHeat (enterPurge f false c s) = (enterPurge f false c s).hs.merged := by
    rw [enterPurge_hs]; exact h
  rw [← e', purgeAndMerge, mergeHeater_same hm]

/-- The full purge is the one that is owed, towards the follow-on phase asked for (R84). -/
theorem purgeAndMerge_first (f : FollowOn) (s : State) :
    let t := purgeAndMerge f none s
    t.hs.phase = .purge ∧ t.hs.attempts = s.hs.attempts ∧ t.hs.flameOuts = s.hs.flameOuts ∧
    t.hs.purgeOwed = s.hs.purgeOwed ∧ t.hs.purge.map (·.full) = some s.hs.purgeOwed ∧
    (chan 2 t).target = 0 ∧ (chan 1 t).target = 255 ∧ Noticed .heaterPhase t ∧ t.hs.pending = s.hs.pending ∧
    (mergedHeat t = s.hs.merged → s.hs.pending = none → t.hs.purge.map (·.followOn) = some f) ∧
    besideGrants t = besideGrants s := by
  obtain ⟨on, ca, told, same, frame⟩ := purgeAndMerge_facts f none s
  obtain ⟨-, fan, pump, -⟩ := heaterTargets_chans_eq s.hs.purgeOwed 255 0 s
  dsimp only
  rw [on.phase, on.attempts, on.flameOuts, on.purgeOwed, on.full, on.pending, chan_of_ca ca, chan_of_ca ca, enterPurge_hs]
  refine ⟨rfl, rfl, rfl, rfl, by simp, pump, fan, told, ?_, fun hm hn => ?_, frame⟩
  · cases s.hs.pending <;> rfl
  · rw [same hm, enterPurge_hs, hn]; rfl

/-- A purge with lockout pending, and the report of its cause to FU: the purge outlasts the fault's own work (R79, R83). -/
theorem purgeAndMerge_reported (c : LockCause) (r : FaultReport) (hr : sourceLoad r.source = some .heater) (s : State) :
    let t := takeFault r (purgeAndMerge .lockout (some c) s)
    t.hs.phase = .purge ∧ t.hs.attempts = s.hs.attempts ∧ t.hs.flameOuts = s.hs.flameOuts ∧
    t.hs.purgeOwed = s.hs.purgeOwed ∧ t.hs.purge.map (·.full) = some s.hs.purgeOwed ∧
    (chan 2 t).target = 0 ∧ (chan 1 t).target = 255 ∧ Noticed .heaterPhase t ∧
    t.hs.pending = some (match s.hs.pending with | some d => d | none => c) ∧
    t.hs.purge.map (·.followOn) = some .lockout ∧ isSuspended .heater t = true ∧
    (s.fu.record = none → t.fu.record = some ⟨r, now s⟩) ∧ besideFaults t = besideFaults s := by
  obtain ⟨on, ca, told, -, frame⟩ := purgeAndMerge_facts .lockout (some c) s
  obtain ⟨-, fan, pump, -⟩ := heaterTargets_chans_eq s.hs.purgeOwed 255 0 s
  have pending : (enterPurge .lockout false (some c) s).hs.pending =
      some (match s.hs.pending with | some d => d | none => c) := by
    rw [enterPurge_hs]; cases s.hs.pending <;> rfl
  have locked : LockedOut (purgeAndMerge .lockout (some c) s) :=
    .inr ⟨by rw [on.phase, enterPurge_hs], by rw [on.pending, pending]; rfl⟩
  have e := takeFault_heatAt locked r
  have follow : (purgeAndMerge .lockout (some c) s).hs.purge.map (·.followOn) = some .lockout := by
    obtain ⟨y, ey⟩ := mergeHeater_lockedOut (s := enterPurge .lockout false (some c) s)
      (.inr ⟨by rw [enterPurge_hs], by rw [pending]; rfl⟩)
    rw [purgeAndMerge, ey, enterPurge_hs]
    cases s.hs.pending <;> rfl
  dsimp only
  rw [e.heater, e.pump, e.fan]
  dsimp only
  rw [on.phase, on.attempts, on.flameOuts, on.purgeOwed, on.full, on.pending, pending, chan_of_ca ca, chan_of_ca ca,
    enterPurge_hs]
  refine ⟨rfl, rfl, rfl, rfl, by simp, pump, fan, fun l => takeFault_heat (hasNotice_kept l .heaterPhase) r (told l), rfl,
    follow, takeFault_isSuspended hr _, fun hrec => ?_, (takeFault_besideFaults _ _).trans (besideFaults_of_grants frame)⟩
  rw [takeFault_record (by rw [besideGrants_fu frame]; exact hrec), now, besideGrants_tu frame]; rfl

/-! ### The timers -/

theorem phaseExpiry_some {p : HeaterPhase} {due : Option Nat} {d : Nat} {s : State} (hd : due = some d) (hp : s.hs.phase = p)
    (act : State → State) : phaseExpiry p due act s = act (reach d s) := by
  unfold phaseExpiry; rw [hd]; exact if_pos hp

/-- Settles O31: IGNITE's entry, and a failed attempt as the purge that follows it. -/
theorem preheatAndIgnitionExpire : Obligations.PreheatAndIgnitionExpire := by
  refine ⟨fun s run hp due hd => ?_, fun s run hp due hd => ?_⟩
  · have e : exec .preheatTimerExpiry s = .next (enterIgnite (reach due s)) :=
      congrArg Host.Outcome.next ((unlessReset_running run _).trans (phaseExpiry_some hd hp _))
    obtain ⟨glow, fan, pump, rest⟩ := heaterTargets_chans_eq true 80 40 (reach due s)
    refine ⟨_, e, rfl, rfl, ?_, rfl, rfl, rfl, ?_, rest, rfl, rfl, rfl,
      noticed_heaterPhase_of_ports (s := toPhase .ignite (reach due s)) rfl rfl (toPhase_noticed _ _),
      enterIgnite_besideGrants _⟩
    · change s.hs.tf.getD (-40) = _; cases s.hs.tf <;> rfl
    · exact Prod.ext glow (Prod.ext fan pump)
  · have e : exec .ignitionTimerExpiry s = .next (ignitionFails (reach due s)) :=
      congrArg Host.Outcome.next ((unlessReset_running run _).trans (phaseExpiry_some hd hp _))
    let failed : State := { reach due s with hs.attempts := s.hs.attempts + 1 }
    refine ⟨_, e, ?_⟩
    by_cases first : s.hs.attempts = 0
    · have ef : ignitionFails (reach due s) = purgeAndMerge .preheat none failed := by
        unfold ignitionFails; exact if_pos (by simp [reach, first])
      obtain ⟨phase, attempts, -, owed, full, pump, fan, told, pending, follow, frame⟩ := purgeAndMerge_first .preheat failed
      rw [ef]
      exact ⟨phase, attempts, owed, full, pump, fan, told, fun _ => ⟨pending, follow, frame⟩, fun h => absurd first h⟩
    · have ef : ignitionFails (reach due s) =
          takeFault (heaterReport .ignitionFailed .ignite failed) (purgeAndMerge .lockout (some .ignitionFailed) failed) := by
        unfold ignitionFails; exact if_neg (by simp [reach, first])
      obtain ⟨phase, attempts, -, owed, full, pump, fan, told, pending, follow, suspended, record, frame⟩ :=
        purgeAndMerge_reported .ignitionFailed (heaterReport .ignitionFailed .ignite failed) rfl failed
      rw [ef]
      refine ⟨phase, attempts, owed, full, pump, fan, told, fun h => absurd h first, fun _ => ⟨pending, follow, suspended,
        fun h => ?_, frame⟩⟩
      rw [record h]
      change some (Capture.mk ⟨.heater, .ignitionFailed, s.hs.tf.getD 0, .heater .ignite, false⟩ (now s)) = _
      cases s.hs.tf <;> rfl

/-! ### RUN (R80 to R83) -/

/-- What the choice of a stage leaves: the demand, the lowest limit on it, and the stage's fan level and pump rate (R80, R81). -/
theorem chooseStage_facts (s : State) :
    let t := chooseStage s
    t.hs.demand = some (demandStage s) ∧
    t.hs.stage = some (min (demandStage s) (stageLimit { s with hs.demand := some (demandStage s) })) ∧
    (∀ k, t.hs.stage = some k → (chan 1 t).target = stageFan k ∧ (chan 2 t).target = stagePump k) ∧
    (t.hs.stage ≠ some 1 → t.hs.satisfiedDue = none) ∧ (chan 0 t).target = 0 ∧
    (∀ n : Fin 12, 3 ≤ n.val → chan n t = chan n s) := by
  obtain ⟨glow, fan, pump, rest⟩ := heaterTargets_chans_eq false
    (stageFan (min (demandStage s) (stageLimit { s with hs.demand := some (demandStage s) })))
    (stagePump (min (demandStage s) (stageLimit { s with hs.demand := some (demandStage s) }))) s
  refine ⟨rfl, rfl, fun k hk => ?_, fun h => ?_, glow, rest⟩
  · obtain rfl := Option.some.inj hk
    exact ⟨fan, pump⟩
  · exact if_neg fun e => h (congrArg some e)

/-- Settles O32: the choice of the stage, the proven flag, and the purges that leave RUN. -/
theorem runTimersAct : Obligations.RunTimersAct := by
  intro s run hp
  refine ⟨fun due hd => ?_, fun due hd => ?_, fun due hd => ?_, fun due hd => ?_⟩
  · have e : exec .regulationTimerExpiry s = .next (regulate (reach due s)) :=
      congrArg Host.Outcome.next ((unlessReset_running run _).trans (phaseExpiry_some hd hp _))
    let chosen : State :=
      { reach due s with
        hs.holdLimit := s.hs.holdLimit && inHold s, hs.regulationDue := some ((reach due s).tu.clock + secs 30) }
    obtain ⟨demand, stage, levels, satisfied, glow, rest⟩ := chooseStage_facts chosen
    have level : ∀ k, (regulate (reach due s)).hs.stage = some k →
        ((chan 1 (regulate (reach due s))).target, (chan 2 (regulate (reach due s))).target) = (stageFan k, stagePump k) :=
      fun k hk => Prod.ext (levels k hk).1 (levels k hk).2
    refine ⟨_, e, rfl, rfl, hp, ?_, ?_, level 1, level 2, level 3, level 4, satisfied, glow, rest, rfl, rfl,
      (chooseStage_besideGrants _).trans rfl⟩
    · change some (demandStage chosen) = _
      have figures : demandStage chosen = demandStage s := rfl
      rw [figures]; unfold demandStage stageFor
      cases s.hs.cabin.failed <;> cases s.hs.tc <;> cases s.hs.merged <;> rfl
    · change some (min (demandStage chosen) (stageLimit { chosen with hs.demand := some (demandStage chosen) })) =
        (some (demandStage chosen)).map _
      rw [Option.map_some]
      have limits : stageLimit { chosen with hs.demand := some (demandStage chosen) } =
          min (match s.hs.merged with | none => 4 | some m => m.maxStage)
            (min (if anyQuiet s then s.policy.p36 else 4) (if s.hs.holdLimit && inHold s then 1 else 4)) := rfl
      rw [limits]
      cases s.hs.merged <;> rfl
  · have e : exec .flameProvenTimeout s = .next _ :=
      congrArg Host.Outcome.next ((unlessReset_running run _).trans (phaseExpiry_some hd hp _))
    exact e
  · have e : exec .satisfiedTimeout s = .next (purgeAndMerge .standby none (reach due s)) :=
      congrArg Host.Outcome.next ((unlessReset_running run _).trans (phaseExpiry_some hd hp _))
    obtain ⟨phase, -, -, owed, full, pump, -, -, -, follow, frame⟩ := purgeAndMerge_first .standby (reach due s)
    exact ⟨_, e, phase, full, owed, pump, follow, frame⟩
  · have e : exec .flameOut s = .next (flameGone (reach due s)) :=
      congrArg Host.Outcome.next ((unlessReset_running run _).trans (phaseExpiry_some hd hp _))
    let gone : State := { reach due s with hs.flameOuts := s.hs.flameOuts + 1 }
    refine ⟨_, e, ?_⟩
    by_cases first : s.hs.flameOuts = 0
    · have ef : flameGone (reach due s) = purgeAndMerge .preheat none gone := by
        unfold flameGone; exact if_pos (by simp [reach, first])
      obtain ⟨phase, -, outs, -, full, pump, -, -, pending, follow, frame⟩ := purgeAndMerge_first .preheat gone
      rw [ef]
      exact ⟨phase, outs, full, pump, fun _ => ⟨pending, follow, frame⟩, fun h => absurd first h⟩
    · have ef : flameGone (reach due s) =
          takeFault (heaterReport .flameOutRepeat .run gone) (purgeAndMerge .lockout (some .flameOutRepeat) gone) := by
        unfold flameGone; exact if_neg (by simp [reach, first])
      obtain ⟨phase, -, outs, -, full, pump, -, -, pending, -, suspended, record, frame⟩ :=
        purgeAndMerge_reported .flameOutRepeat (heaterReport .flameOutRepeat .run gone) rfl gone
      rw [ef]
      refine ⟨phase, outs, full, pump, fun h => absurd h first, fun _ => ⟨pending, suspended, fun h => ?_, frame⟩⟩
      rw [record h]
      change some (Capture.mk ⟨.heater, .flameOutRepeat, s.hs.tf.getD 0, .heater .run, false⟩ (now s)) = _
      cases s.hs.tf <;> rfl

/-! ### PURGE (R82, R84, R85) -/

/-- A pair withdrawn from the table has no entry left. -/
theorem findGrant_dropGrant (l : Load) (p : Purpose) (s : State) : findGrant l p (dropGrant l p s) = none := by
  unfold dropGrant; split
  · assumption
  · simp [findGrant, unlist, List.find?_eq_none]

/-- What a withdrawal leaves of AU depends on AU alone. -/
theorem dropGrant_au {s t : State} (h : t.au = s.au) {l : Load} {p : Purpose} : (dropGrant l p t).au = (dropGrant l p s).au := by
  have hf : findGrant l p t = findGrant l p s := by unfold findGrant; rw [h]
  unfold dropGrant; rw [hf]; split
  · exact h
  · unfold unlist; rw [h]

/-- What the phases after a purge leave of purge-owed, the purge, the table and the channels beside HS's. -/
structure AfterPurge (s t : State) : Prop where
  owed : t.hs.purgeOwed = s.hs.purgeOwed
  purge : t.hs.purge = none
  phase : t.hs.phase ≠ .purge
  table : t.au = s.au
  told : Noticed .heaterPhase t
  rest : ∀ n : Fin 12, 3 ≤ n.val → chan n t = chan n s

theorem enterLockout_afterPurge (c : LockCause) (s : State) : AfterPurge s (enterLockout c s) :=
  ⟨rfl, rfl, by simp [enterLockout_hs], rfl,
    noticed_heaterPhase_of_ports (s := toPhase .lockout s) rfl rfl (toPhase_noticed _ _),
    (heaterTargets_chans_eq _ _ _ _).2.2.2⟩

theorem enterHeaterOff_afterPurge (s : State) : AfterPurge s (enterHeaterOff s) :=
  ⟨rfl, rfl, fun h => HeaterPhase.noConfusion h, rfl,
    noticed_heaterPhase_of_ports (s := toPhase .off s) rfl rfl (toPhase_noticed _ _),
    (heaterTargets_chans_eq _ _ _ _).2.2.2⟩

theorem enterPreheat_afterPurge (s : State) : AfterPurge s (enterPreheat s) := by
  refine ⟨enterPreheat_purgeOwed s, ?_, by simp, rfl,
    noticed_heaterPhase_of_ports (s := toPhase .preheat s) rfl rfl (toPhase_noticed _ _), (heaterTargets_chans_eq _ _ _ _).2.2.2⟩
  unfold enterPreheat; dsimp only; rw [heaterTargets_hs]; dsimp only; split <;> rfl

theorem enterStandby_eq (s : State) :
    enterStandby s =
      let rests := heaterTargets false 0 0 { toPhase .standby s with hs.activation := false }
      if s.hs.cabin.failed then enterPreheat rests else rests := rfl

theorem enterStandby_afterPurge (s : State) : AfterPurge s (enterStandby s) := by
  let rests := heaterTargets false 0 0 { toPhase .standby s with hs.activation := false }
  have hr : AfterPurge s rests := ⟨rfl, rfl, fun h => HeaterPhase.noConfusion h, rfl,
    noticed_heaterPhase_of_ports (s := toPhase .standby s) rfl rfl (toPhase_noticed _ _),
    (heaterTargets_chans_eq _ _ _ _).2.2.2⟩
  rw [enterStandby_eq]; dsimp only
  split
  · have hp := enterPreheat_afterPurge rests
    exact ⟨hp.owed.trans hr.owed, hp.purge, hp.phase, hp.table.trans hr.table, hp.told,
      fun n hn => (hp.rest n hn).trans (hr.rest n hn)⟩
  · exact hr

/-- The phase that a completed purge enters from the state `y` its settlement leaves (R85). -/
theorem completePurge_locks {s y : State} {c : LockCause}
    (hy : mergeHeater (dropGrant .heater .purge { s with hs.purgeOwed := false }) = y) (hc : y.hs.pending = some c) :
    completePurge s = enterLockout c y := by
  unfold completePurge; dsimp only; rw [hy, hc]

theorem completePurge_follows {s y : State} {r : PurgeRun}
    (hy : mergeHeater (dropGrant .heater .purge { s with hs.purgeOwed := false }) = y) (hc : y.hs.pending = none)
    (hr : y.hs.purge = some r) :
    (r.followOn = .off ∨ r.followOn = .lockout → completePurge s = enterHeaterOff y) ∧
    (r.followOn = .preheat → completePurge s = enterPreheat y) ∧
    (r.followOn = .standby → completePurge s = enterStandby y) := by
  unfold completePurge; dsimp only; rw [hy, hc, hr]; dsimp only
  refine ⟨fun h => ?_, fun h => ?_, fun h => ?_⟩
  · rcases h with h | h <;> rw [h]
  · rw [h]
  · rw [h]

theorem completePurge_afterPurge {s y : State} {r : PurgeRun}
    (hy : mergeHeater (dropGrant .heater .purge { s with hs.purgeOwed := false }) = y) (hr : y.hs.purge = some r) :
    AfterPurge y (completePurge s) := by
  cases hc : y.hs.pending with
  | some c => rw [completePurge_locks hy hc]; exact enterLockout_afterPurge c y
  | none =>
    obtain ⟨off, preheat, standby⟩ := completePurge_follows hy hc hr
    cases hf : r.followOn with
    | off => rw [off (.inl hf)]; exact enterHeaterOff_afterPurge y
    | lockout => rw [off (.inr hf)]; exact enterHeaterOff_afterPurge y
    | preheat => rw [preheat hf]; exact enterPreheat_afterPurge y
    | standby => rw [standby hf]; exact enterStandby_afterPurge y

theorem enterStandby_phase (s : State) :
    (enterStandby s).hs.phase = if s.hs.cabin.failed then .preheat else .standby := by
  rw [enterStandby_eq]; dsimp only; split
  · exact enterPreheat_phase _
  · rfl

/-- Settles O36: the glow plug's end, and the purge's end by its pending cause and its follow-on phase. -/
theorem purgeRunsToFollowOn : Obligations.PurgeRunsToFollowOn := by
  refine ⟨fun s run r hr due hd => ?_, fun s run hp r hr => ?_⟩
  · have e : exec .purgeGlowOff s =
        .next (setTarget 0 0 { reach due s with hs.purge := some { r with glowDue := none } }) := by
      refine congrArg Host.Outcome.next ((unlessReset_running run _).trans ?_)
      unfold glowOff; rw [hr]; dsimp only; rw [hd]
    refine ⟨_, e, ?_, rfl, fun n hn => chan_setTarget_ne hn _ _, rfl, rfl, rfl, rfl⟩
    rw [chan_setTarget_self, targetChannel_target]
  · have e : exec .purgeComplete s = .next (completePurge (reach r.due s)) := by
      refine congrArg Host.Outcome.next ((unlessReset_running run _).trans ?_)
      unfold purgeExpiry; rw [hr]
    let paid : State := dropGrant .heater .purge { reach r.due s with hs.purgeOwed := false }
    have hpaid : paid.hs = { s.hs with purgeOwed := false } := dropGrant_hs _ _ _
    obtain ⟨x, ex, on⟩ := mergeHeater_purge (s := paid) (by rw [hpaid]; exact hp)
    have gone : findGrant .heater .purge paid = none := findGrant_dropGrant _ _ _
    obtain ⟨f, hf⟩ := on.2
    have hx : x.purge = some { r with followOn := f r.followOn } := by rw [hf, hpaid, hr]; rfl
    have pending : x.pending = s.hs.pending := on.pending.trans (by rw [hpaid])
    have after := completePurge_afterPurge (s := reach r.due s) ex hx
    refine ⟨_, e, after.owed.trans (on.purgeOwed.trans (by rw [hpaid])), ?_, after.purge, after.phase, after.told,
      fun c hc => ?_, fun hc stays => ?_, fun n hn => (after.rest n hn).trans (chan_of_ca (dropGrant_ca _ _ _) n),
      completePurge_besideGrants _⟩
    · unfold findGrant; rw [after.table]; exact gone
    · rw [completePurge_locks ex (pending.trans hc)]
      obtain ⟨glow, fan, pump, -⟩ := heaterTargets_chans_eq false 0 0 { paid with hs := x }
      exact ⟨rfl, rfl, rfl, Prod.ext glow (Prod.ext fan pump)⟩
    · have table : paid.au = (dropGrant .heater .purge s).au :=
        dropGrant_au (s := s) (t := { reach r.due s with hs.purgeOwed := false }) rfl
      have same : mergedHeat paid = paid.hs.merged := by
        rw [mergedHeat_of_table (congrArg AdmissionUnit.table table), hpaid]; exact stays
      have hy : mergeHeater paid = paid := mergeHeater_same same
      obtain ⟨off, preheat, standby⟩ := completePurge_follows (s := reach r.due s) (y := paid) hy
        (by rw [hpaid]; exact hc) (by rw [hpaid]; exact hr)
      refine ⟨fun h => ?_, fun h => ?_, fun h good => ?_, fun h bad => ?_⟩
      · rw [off (.inl h)]; exact ⟨rfl, rfl⟩
      · rw [preheat h]; exact enterPreheat_phase _
      · rw [standby h, enterStandby_phase, hpaid]; exact if_neg (by simp [good])
      · rw [standby h, enterStandby_phase, hpaid]; exact if_pos bad

end Sys2Proof.Machine

namespace Sys2Proof.Machine

/-! ## O33: cabin temperature results (R76, R82, R101) -/

/-! ### What the grant table's work leaves of the cabin temperature and of the rate mode -/

@[simp] theorem enterPreheat_tc (s : State) : (enterPreheat s).hs.tc = s.hs.tc := by
  unfold enterPreheat; dsimp only; rw [heaterTargets_hs]; dsimp only; split <;> rfl

@[simp] theorem enterPurge_tc (f : FollowOn) (b : Bool) (c : Option LockCause) (s : State) :
    (enterPurge f b c s).hs.tc = s.hs.tc := by rw [enterPurge_hs]; rfl

@[simp] theorem setFollowOn_tc (f : FollowOn) (s : State) : (setFollowOn f s).hs.tc = s.hs.tc := by
  unfold setFollowOn; split <;> rfl

@[simp] theorem standbyRestart_tc (s : State) : (standbyRestart s).hs.tc = s.hs.tc := by
  unfold standbyRestart; (repeat' split) <;> simp

@[simp] theorem lowerStage_tc (s : State) : (lowerStage s).hs.tc = s.hs.tc := by
  unfold lowerStage; (repeat' split) <;> rfl

@[simp] theorem handHeat_tc (s : State) : (handHeat s).hs.tc = s.hs.tc := by
  unfold handHeat heatAppears heatVanishes heatChanges; dsimp only
  (repeat' split) <;> simp [enterHeaterOff, toPhase, clearPhase]

/-- HS's answers to the other blocks leave the cabin temperature. -/
theorem tc_kept (v : Option Int) : HeatKept (fun s => s.hs.tc = v) where
  view h e := (congrArg (fun x => x.1.1.tc) e).trans h
  told _ _ h := (congrArg Heater.tc (notify_hs _ _ _)).trans h
  woken _ h := (congrArg Heater.tc (wake_hs _ _)).trans h
  hand h := by
    rw [← h]
    exact handHeat_tc _
  lower h := by
    rw [← h]
    exact lowerStage_tc _
  hold x h := by
    rw [← h]
    unfold heaterHoldEntry; (repeat' split) <;> simp

theorem mergeLoad_mode (l : Load) (s : State) : (mergeLoad l s).cs.mode = s.cs.mode := by
  by_cases h : l = .fridge
  · subst h
    change (cutPending s).cs.mode = _
    unfold cutPending; split <;> rfl
  · rw [mergeLoad_cs h]

theorem mergeAll_mode (s : State) : (mergeAll s).cs.mode = s.cs.mode :=
  foldl_keeps (fun s => s.cs.mode) _ (fun s l => mergeLoad_mode l s) _ s

theorem revalidate_mode (s : State) : (revalidate s).cs.mode = s.cs.mode := by
  obtain ⟨T, l, q, c, e⟩ := readmitted_state s
  rw [revalidate_eq, mergeAll_mode, e]
  dsimp only; split <;> rfl

/-! ### The fridge's answer to a cabin result (R101 to R105) -/

/-- The fridge's work at a cabin result: the cabin temperature and the mode in force stay, and what else changes is the grant
table's work and the doze timer. -/
structure CabinStays (s t : State) : Prop where
  tc : t.hs.tc = s.hs.tc
  mode : t.cs.mode = s.cs.mode
  beside : besideGrants { t with tu.dozeDue := none } = besideGrants { s with tu.dozeDue := none }

theorem CabinStays.refl (s : State) : CabinStays s s := ⟨rfl, rfl, rfl⟩

theorem CabinStays.trans {s t u : State} (h : CabinStays s t) (k : CabinStays t u) : CabinStays s u :=
  ⟨k.tc.trans h.tc, k.mode.trans h.mode, k.beside.trans h.beside⟩

theorem CabinStays.withCs (s : State) (x : ColdStore) (h : x.mode = s.cs.mode) : CabinStays s { s with cs := x } :=
  ⟨rfl, h, rfl⟩

theorem finishCheck_cabinStays (c : Bool) (r : WiringRun) (v : Vector WiringResult 12) (s : State) :
    CabinStays s (finishCheck c r v s) := by
  obtain ⟨-, -, -, -, -, beside⟩ := finishCheck_ends c r v s
  refine ⟨?_, ?_, beside⟩
  · have revalidated := revalidate_heat (tc_kept s.hs.tc) (notifyBoth_heat (tc_kept s.hs.tc) .checkDone
      (s := endTest { s with ca.check := none, ca.results := some ⟨c, r.startTime, now s, v⟩ }) rfl)
    have started : ∀ x : State, (syncDoze (startAllFromTargets x)).hs.tc = x.hs.tc := fun x =>
      congrArg Heater.tc (syncDoze_hs _)
    unfold finishCheck
    rw [started]
    split
    · exact (enterPreheat_tc _).trans revalidated
    · exact revalidated
  · unfold finishCheck
    rw [syncDoze_cs, startAllFromTargets_cs]
    have checked := revalidate_mode (notifyBoth .checkDone
      (endTest { s with ca.check := none, ca.results := some ⟨c, r.startTime, now s, v⟩ }))
    split
    · rw [enterPreheat_cs]; exact checked
    · exact checked

theorem abortCheck_cabinStays (s : State) : CabinStays s (abortCheck s) := by
  unfold abortCheck; split
  · exact .refl s
  · exact finishCheck_cabinStays _ _ _ _

theorem cutPending_cabinStays (s : State) : CabinStays s (cutPending s) := by
  unfold cutPending; split
  · exact .withCs _ _ rfl
  · exact .refl s

theorem decideRun_cabinStays (s : State) : CabinStays s (decideRun s) := by
  unfold decideRun; dsimp only
  refine .trans ?_ (cutPending_cabinStays _)
  split
  · exact (CabinStays.withCs s { s.cs with slotPending := true } rfl).trans (abortCheck_cabinStays _)
  · exact .withCs _ _ rfl

theorem decideSlot_cabinStays (due : RtcTime) (s : State) : CabinStays s (decideSlot due s) := by
  have recorded : ∀ d c, CabinStays s (recordDecision d due c s) := fun d c => .withCs _ _ rfl
  unfold decideSlot; dsimp only; (repeat' split)
  · exact recorded _ _
  · exact recorded _ _
  · exact recorded _ _
  · exact (recorded _ _).trans (decideRun_cabinStays _)

theorem slotFallsDue_cabinStays (due next : RtcTime) (s : State) : CabinStays s (slotFallsDue due next s) :=
  (CabinStays.withCs s { s.cs with nextDue := next, formed := slotInterval s } rfl).trans (decideSlot_cabinStays _ _)

theorem reformDue_cabinStays (s : State) : CabinStays s (reformDue s) := by
  unfold reformDue; dsimp only; (repeat' split)
  · exact slotFallsDue_cabinStays _ _ _
  · exact .withCs _ _ rfl
  · exact .refl s

/-- A new mode in force leaves the rest as `CabinStays` says of the state that has the mode (R101). -/
theorem setMode_cabinStays (m : RateMode) (s : State) : CabinStays { s with cs.mode := m } (setMode m s) := by
  unfold setMode; split
  · next e => subst e; exact .refl s
  · exact reformDue_cabinStays _

/-- With the slots disabled a new mode moves no due (R102). -/
theorem setMode_disabled {s : State} (h : s.cs.enable = false) (m : RateMode) : setMode m s = { s with cs.mode := m } := by
  unfold setMode; split
  · next e => subst e; rfl
  · unfold reformDue; rw [if_neg (by simp [h])]

theorem cabinToFridge_fixed {s : State} (h₁ : 1 ≤ s.policy.p40) (h₃ : s.policy.p40 ≤ 3) (t : Int) :
    cabinToFridge t s = s := by
  obtain h | h | h : s.policy.p40 = 1 ∨ s.policy.p40 = 2 ∨ s.policy.p40 = 3 := by omega
  all_goals unfold cabinToFridge; rw [h]; rfl

theorem cabinToFridge_auto {s : State} (h : s.policy.p40 = 0) (t : Int) :
    cabinToFridge t s = setMode (autoMode s.cs.mode t) s := by
  unfold cabinToFridge; rw [h]; rfl

/-! ### The parts of a cabin result -/

/-- A cabin result has been taken at its time, leaving the sensor `x`. -/
def cabinRead (x : Sensor) (s : State) : State :=
  { s with
    tu.clock := max s.tu.clock s.hs.cabinDue
    hs.cabinDue := max s.tu.clock s.hs.cabinDue + 1000000
    hs.cabin := x }

theorem cabinTemp_eq (r : TempResult) (s : State) :
    cabinTemp r s =
      let x := sensorStep (-40) 85 s.hs.cabin r
      match x.2 with
      | .value t => cabinValue t (cabinRead x.1 s)
      | .keep => cabinRead x.1 s
      | .failed code => cabinFailed code (cabinRead x.1 s) := by
  unfold cabinTemp; rfl

theorem exec_cabinTemp {s : State} (h : Running s) (r : TempResult) :
    exec (.cabinTempConversion r) s = .next (cabinTemp r s) :=
  congrArg Host.Outcome.next (unlessReset_running h _)

theorem cabinTemp_celsius {s : State} (h : s.hs.cabin.failed = false ∨ 2 ≤ s.hs.cabin.goodCount) (c : Int) :
    cabinTemp (.celsius c) s =
      cabinValue (max (-40) (min 85 c)) (cabinRead ⟨false, 0, s.hs.cabin.goodCount + 1⟩ s) := by
  have hx := sensorStep_celsius (-40) 85 s.hs.cabin c
  have used : ¬(s.hs.cabin.failed = true ∧ s.hs.cabin.goodCount < 2) := by
    rcases h with h | h
    · simp [h]
    · omega
  rw [if_neg used] at hx
  rw [cabinTemp_eq, hx]; rfl

/-- What HS makes of a cabin temperature before the fridge hears of it (R76, R82). -/
def cabinSensed (t : Int) (s : State) : State :=
  let s := { s with hs.tc := some t }
  match s.hs.phase with
  | .standby => standbyRestart s
  | .run => satisfiedTest t s
  | .off | .preheat | .ignite | .purge | .lockout => s

theorem cabinValue_eq (t : Int) (s : State) : cabinValue t s = cabinToFridge t (cabinSensed t s) := by
  unfold cabinValue; rfl

theorem cabinSensed_run {s : State} (h : s.hs.phase = .run) (t : Int) :
    cabinSensed t s = satisfiedTest t { s with hs.tc := some t } := by
  unfold cabinSensed; dsimp only; rw [h]

theorem cabinSensed_idle {s : State} (hr : s.hs.phase ≠ .run) (hs : s.hs.phase ≠ .standby) (t : Int) :
    cabinSensed t s = { s with hs.tc := some t } := by
  unfold cabinSensed; dsimp only; split
  · next h => exact absurd h hs
  · next h => exact absurd h hr
  all_goals rfl

theorem cabinSensed_standby {s : State} (h : s.hs.phase = .standby) {m : MergedHeat} (hm : s.hs.merged = some m) {t : Int}
    (cold : t ≤ (m.setpoint : Int) - 1) : (cabinSensed t s).hs.phase = .preheat := by
  have e : cabinSensed t s = enterPreheat { s with hs.tc := some t } := by
    have restarts : standbyRestart { s with hs.tc := some t } = enterPreheat { s with hs.tc := some t } := by
      simp only [standbyRestart, h, hm, if_pos cold]
    rw [← restarts]; simp only [cabinSensed, h]
  rw [e, enterPreheat_phase]

theorem cabinSensed_besideGrants (t : Int) (s : State) : besideGrants (cabinSensed t s) = besideGrants s := by
  unfold cabinSensed; dsimp only; split
  case h_1 => exact standbyRestart_besideGrants _
  all_goals rfl

theorem cabinSensed_cs (t : Int) (s : State) : (cabinSensed t s).cs = s.cs := by
  unfold cabinSensed; dsimp only; split
  case h_1 => exact standbyRestart_cs _
  all_goals rfl

theorem cabinSensed_tc (t : Int) (s : State) : (cabinSensed t s).hs.tc = some t := by
  unfold cabinSensed; dsimp only; split
  case h_1 => exact standbyRestart_tc _
  all_goals rfl

/-- The last third of R76: the cabin temperature goes absent, and STANDBY restarts. -/
def cabinLost (s : State) : State :=
  let s := { s with hs.tc := none, hs.satisfiedDue := none }
  match s.hs.phase with
  | .standby => enterPreheat s
  | .off | .preheat | .ignite | .run | .purge | .lockout => s

theorem cabinFailed_eq (code : FaultCode) (s : State) :
    cabinFailed code s = takeFault (sensorReport .cabinTemp code (.heater s.hs.phase) true) (cabinLost s) := by
  unfold cabinFailed; rfl

theorem cabinLost_standby {s : State} (h : s.hs.phase = .standby) :
    cabinLost s = enterPreheat { s with hs.tc := none, hs.satisfiedDue := none } := by
  unfold cabinLost; dsimp only; rw [h]

theorem cabinLost_other {s : State} (h : s.hs.phase ≠ .standby) :
    cabinLost s = { s with hs.tc := none, hs.satisfiedDue := none } := by
  unfold cabinLost; dsimp only; split
  · next e => exact absurd e h
  all_goals rfl

theorem cabinLost_besideGrants (s : State) : besideGrants (cabinLost s) = besideGrants s := by
  by_cases h : s.hs.phase = .standby
  · rw [cabinLost_standby h, enterPreheat_besideGrants]; rfl
  · rw [cabinLost_other h]; rfl

theorem enterPreheat_sensors (s : State) :
    (enterPreheat s).hs.cabin = s.hs.cabin ∧ (enterPreheat s).hs.satisfiedDue = (clearPhase s.hs).satisfiedDue := by
  unfold enterPreheat; dsimp only; rw [heaterTargets_hs]; dsimp only; split <;> exact ⟨rfl, rfl⟩

/-- The satisfied test in the statement's terms: it runs while it holds, and counts from where it began (R82). -/
theorem satisfiedTest_due (t : Int) (s : State) :
    (satisfiedTest t s).hs.satisfiedDue =
      (if s.hs.stage = some 1 ∧
          (match s.hs.merged with | some m => decide ((m.setpoint : Int) + 2 ≤ t) | none => false) = true
        then (match s.hs.satisfiedDue with | some d => some d | none => some (s.tu.clock + 300000000))
        else none) := by
  have due : some (s.hs.satisfiedDue.getD (s.tu.clock + mins 5)) =
      (match s.hs.satisfiedDue with | some d => some d | none => some (s.tu.clock + 300000000)) := by
    cases s.hs.satisfiedDue <;> rfl
  unfold satisfiedTest; dsimp only; rw [due]
  by_cases first : s.hs.stage = some 1
  · rw [first]; cases s.hs.merged <;> simp
  · have fails : (match s.hs.stage, s.hs.merged with
        | some 1, some m => decide ((m.setpoint : Int) + 2 ≤ t)
        | _, _ => false) = false := by split <;> simp_all
    rw [if_neg (fun h : _ ∧ _ => first h.1)]
    exact if_neg (Bool.eq_false_iff.1 fails)

/-! ### The statement's parts -/

theorem cabinTemp_fixed {s : State} (used : s.hs.cabin.failed = false ∨ 2 ≤ s.hs.cabin.goodCount) (h₁ : 1 ≤ s.policy.p40)
    (h₃ : s.policy.p40 ≤ 3) (c : Int) :
    cabinTemp (.celsius c) s =
      cabinSensed (max (-40) (min 85 c)) (cabinRead ⟨false, 0, s.hs.cabin.goodCount + 1⟩ s) := by
  rw [cabinTemp_celsius used, cabinValue_eq]
  have hp : (cabinSensed (max (-40) (min 85 c)) (cabinRead ⟨false, 0, s.hs.cabin.goodCount + 1⟩ s)).policy = s.policy :=
    besideGrants_policy (s := cabinRead ⟨false, 0, s.hs.cabin.goodCount + 1⟩ s) (cabinSensed_besideGrants _ _)
  exact cabinToFridge_fixed (by rw [hp]; exact h₁) (by rw [hp]; exact h₃) _

/-- The AUTO rule with both bounds written out for each mode (R101). -/
theorem autoMode_eq (m : RateMode) (t : Int) :
    autoMode m t = (match m with
      | .normal => if 30 ≤ t then .warm else if t ≤ 10 then .cool else .normal
      | .warm => if t ≤ 10 then .cool else if t ≤ 28 then .normal else .warm
      | .cool => if 30 ≤ t then .warm else if 12 ≤ t then .normal else .cool) := by
  unfold autoMode autoMode.fromNormal
  cases m <;> dsimp only <;> (repeat' split) <;> first | rfl | omega

/-- Under AUTO a cabin result leaves the fridge in the mode the temperature asks for (R101). -/
theorem cabinTemp_auto {s : State} (used : s.hs.cabin.failed = false ∨ 2 ≤ s.hs.cabin.goodCount) (h : s.policy.p40 = 0)
    (c : Int) :
    (cabinTemp (.celsius c) s).hs.tc = some (max (-40) (min 85 c)) ∧
    (cabinTemp (.celsius c) s).cs.mode = autoMode s.cs.mode (max (-40) (min 85 c)) ∧
    besideGrants { cabinTemp (.celsius c) s with tu.dozeDue := none } =
      besideGrants { s with tu.clock := max s.tu.clock s.hs.cabinDue, tu.dozeDue := none } := by
  rw [cabinTemp_celsius used, cabinValue_eq]
  generalize max (-40) (min 85 c) = t
  obtain ⟨x, hx⟩ : ∃ x, x = cabinRead ⟨false, 0, s.hs.cabin.goodCount + 1⟩ s := ⟨_, rfl⟩
  rw [← hx]
  have beside := cabinSensed_besideGrants t x
  have mode : (cabinSensed t x).cs.mode = s.cs.mode := by rw [cabinSensed_cs, hx]; rfl
  have policy : (cabinSensed t x).policy.p40 = 0 := by rw [besideGrants_policy beside, hx]; exact h
  have stays := setMode_cabinStays (autoMode s.cs.mode t) (cabinSensed t x)
  rw [cabinToFridge_auto policy, mode]
  refine ⟨stays.tc.trans (cabinSensed_tc t x), stays.mode, stays.beside.trans ?_⟩
  have read : besideGrants x = besideGrants { s with tu.clock := max s.tu.clock s.hs.cabinDue } := by rw [hx]; rfl
  exact congrArg (fun y : State => { y with tu.dozeDue := none }) (beside.trans read)

/-- Settles O33, the results in use by the parts HS and CS take of them, the third bad one by its fault. -/
theorem cabinResultsJudged : Obligations.CabinResultsJudged := by
  refine ⟨fun c s run used => ⟨fun h₁ h₃ hp => ?_, fun h => ?_, fun hp m hm cold slots => ?_⟩, ?_⟩
  · rw [exec_cabinTemp run, cabinTemp_fixed used h₁ h₃]
    refine congrArg Host.Outcome.next ?_
    obtain ⟨x, hx⟩ : ∃ x, x = cabinRead ⟨false, 0, s.hs.cabin.goodCount + 1⟩ s := ⟨_, rfl⟩
    have phase : x.hs.phase = s.hs.phase := by rw [hx]; rfl
    rw [← hx]
    by_cases hr : s.hs.phase = .run
    · have tested := satisfiedTest_due (max (-40) (min 85 c)) { x with hs.tc := some (max (-40) (min 85 c)) }
      rw [cabinSensed_run (phase.trans hr), if_neg (not_not.2 hr)]
      have only : ∀ t y, satisfiedTest t y = { y with hs.satisfiedDue := (satisfiedTest t y).hs.satisfiedDue } :=
        fun _ _ => rfl
      rw [only, tested, hx]; rfl
    · rw [cabinSensed_idle (phase ▸ hr) (phase ▸ hp), if_pos hr, hx]; rfl
  · obtain ⟨tc, mode, beside⟩ := cabinTemp_auto used h c
    exact ⟨_, exec_cabinTemp run _, tc, mode.trans (autoMode_eq _ _), beside⟩
  · refine ⟨_, exec_cabinTemp run _, ?_⟩
    have restarts := cabinSensed_standby (s := cabinRead ⟨false, 0, s.hs.cabin.goodCount + 1⟩ s) hp hm cold
    rcases slots with off | ⟨h₁, h₃⟩
    · rw [cabinTemp_celsius used, cabinValue_eq]
      unfold cabinToFridge; split
      · exact restarts
      · rw [setMode_disabled (by rw [cabinSensed_cs]; exact off)]; exact restarts
    · rw [cabinTemp_fixed used h₁ h₃]; exact restarts
  · intro r code s hr run good bad hrec
    have hx := sensorStep_bad (-40) 85 s.hs.cabin r code hr
    rw [if_pos ⟨good, bad⟩] at hx
    obtain ⟨x, hx'⟩ : ∃ x : State, x = cabinRead ⟨true, s.hs.cabin.badCount + 1, 0⟩ s := ⟨_, rfl⟩
    have e : cabinTemp r s = takeFault (sensorReport .cabinTemp code (.heater s.hs.phase) true) (cabinLost x) := by
      rw [cabinTemp_eq, hx]; dsimp only; rw [cabinFailed_eq, hx']; rfl
    have code_ne : code ≠ .chargePath := by rcases hr with ⟨-, rfl⟩ | ⟨-, rfl⟩ <;> decide
    have beside := cabinLost_besideGrants x
    have hfu : (cabinLost x).fu = s.fu := by rw [besideGrants_fu beside, hx']; rfl
    have hnow : now (cabinLost x) = now s := by rw [now, besideGrants_tu beside, hx']; rfl
    have captured := takeFault_loadless (s := cabinLost x) (r := sensorReport .cabinTemp code (.heater s.hs.phase) true)
      (by rw [hfu]; exact hrec) rfl code_ne
    have hhs : (cabinTemp r s).hs = (cabinLost x).hs := by rw [e, captured, wake_hs]; rfl
    have hphase : x.hs.phase = s.hs.phase := by rw [hx']; rfl
    refine ⟨_, exec_cabinTemp run r, ?_⟩
    rw [hhs]
    have lost : (cabinLost x).hs.tc = none ∧ (cabinLost x).hs.cabin.failed = true ∧ (cabinLost x).hs.satisfiedDue = none := by
      by_cases hp : s.hs.phase = .standby
      · rw [cabinLost_standby (hphase.trans hp)]
        obtain ⟨cabin, due⟩ := enterPreheat_sensors { x with hs.tc := none, hs.satisfiedDue := none }
        rw [enterPreheat_tc, cabin, due, hx']; exact ⟨rfl, rfl, rfl⟩
      · rw [cabinLost_other (by rw [hphase]; exact hp), hx']; exact ⟨rfl, rfl, rfl⟩
    obtain ⟨tc, failed, due⟩ := lost
    refine ⟨tc, failed, due, fun hp => ?_, fun hp => ?_, ?_, ?_, ?_⟩
    · rw [cabinLost_standby (hphase.trans hp), enterPreheat_phase]
    · rw [cabinLost_other (by rw [hphase]; exact hp)]; exact hphase
    · rw [e, captured, wake_fu, ← hnow]; rfl
    · rw [e, captured, wake_fu, ← hfu]; rfl
    · rw [e]
      refine (takeFault_besideFaults _ _).trans ((besideFaults_of_grants beside).trans ?_)
      rw [hx']; rfl

end Sys2Proof.Machine

namespace Sys2Proof.Machine

/-! ## O37: CLEAR_LOCKOUT with the pre-warm placed again (R92, R133, R161)

The clause about a release from LOCKOUT with nothing owed says that the heater ends in OFF or PREHEAT for every table whose
merged grant HS holds. A table is not asked to keep to R24's positions there, and that is where it fails: with every position
of 0 to 15 taken, the pre-warm that RM places again at the release goes to position 16 and replaces an ACTIVE COMFORT entry
that stands there. The grant that put HS into PREHEAT vanishes with it, and HS enters PURGE. -/

/-- The fridge's entry, once more at each position. -/
def fridgeEntryAt (pos : Nat) : Grant :=
  ⟨pos, .fridge, .cooling, .internal, .cab, {}, {}, none, none, .waiting, none, none⟩

/-- A heater entry beyond the sixteen positions. -/
def heaterEntryAt (pos : Nat) (p : Purpose) (st : GrantState) : Grant :=
  ⟨pos, .heater, p, .internal, .cab, ⟨0, 20, 2⟩, ⟨0, 20, 2⟩, none, none, st, none, none⟩

/-- Locked out with nothing owed and an untied suspension that is not restartable, an ACTIVE COMFORT entry at position 16, the
pre-warm SUSPENDED at 17, and the positions 0 to 15 taken; a rest in the lower bunk wants a pre-warm for later. -/
def overfullLockout : State :=
  { State.reset with
    portV.transfer := .open_ false
    au.table := (List.range 16).map fridgeEntryAt ++
      [heaterEntryAt 16 .comfort .active, heaterEntryAt 17 .schedule .suspended]
    au.surplus := true
    hs.phase := .lockout, hs.lockout := some .overheat
    fu.susp := [⟨.heater, false, false, .heater, .overheat⟩]
    rm.rests := ⟨some ⟨0, 0, some 86400, true, 0, .wanted⟩, none⟩ }

theorem overfullLockout_meets_clause :
    Serving .v overfullLockout ∧ overfullLockout.hs.lockout.isNone = false ∧ overfullLockout.fu.record = none ∧
    overfullLockout.hs.phase = .lockout ∧ overfullLockout.hs.purgeOwed = false ∧ overfullLockout.hs.flame.failed = false ∧
    suspensionOf .heater overfullLockout = some ⟨.heater, false, false, .heater, .overheat⟩ ∧
    overfullLockout.hs.merged = mergedHeat overfullLockout := by decide +kernel

/-- HS ends in PURGE, with the pre-warm at position 16 and the merged grant gone. -/
theorem overfullLockout_ends_in_purge :
    (after (.clearLockout .v) overfullLockout).hs.phase = .purge := by decide +kernel

/-- Refutes O37: a CLEAR_LOCKOUT that releases the heater's suspension can leave HS in PURGE, where the pre-warm placed again
finds no free position. -/
theorem not_clearLockoutTaken : ¬ Obligations.ClearLockoutTaken := by
  intro h
  obtain ⟨serving, locked, hrec, phase, owed, good, susp, merged⟩ := overfullLockout_meets_clause
  obtain ⟨-, -, -, releases⟩ := h overfullLockout serving
  obtain ⟨t, e, -, -, -, -, rests, -, -⟩ := releases (by rw [hrec, owed, locked]; rfl) (by rw [susp]; rfl) (.inl phase)
  have left : after (.clearLockout .v) overfullLockout = t := by unfold after; rw [e]
  obtain ⟨-, ends⟩ := (rests phase owed).2 good
  have purge := overfullLockout_ends_in_purge
  rw [left] at purge
  rcases ends merged with off | preheat
  · rw [purge] at off; cases off
  · rw [purge] at preheat; cases preheat

end Sys2Proof.Machine

namespace Sys2Proof.Machine

/-! ## O6: the end of a main reset (R141)

The clause about WAKE compares the planned end first and the lead time only after it; WU asks for the lead time alone. The two
agree while the lead time lies before the planned end. The statement asks nothing of the policy, and a P61 beyond its range of
0 to 30 minutes carries the lead time round the 32-bit RTC to after the planned end: 71,582,788 minutes are 16 s short of one
turn. -/

/-- A main reset at its end, with a rest in the lower bunk to be woken now and P61 16 s short of a turn of the RTC. -/
def leadRoundRtc : State :=
  { State.reset with
    tu.resetHold := some ⟨true, false, false, false, none⟩
    rm.rests := ⟨some ⟨0, 0, some 0, false, 0, .notWanted⟩, none⟩
    policy.p61 := 71582788 }

theorem leadRoundRtc_calm : ∀ n : Fin 8, (input n leadRoundRtc).config.debounce = true := by decide +kernel

/-- The rest goes on past its planned end, and no WAKE stands in the list. -/
theorem leadRoundRtc_ends_unwoken :
    ((after .mainResetEnd leadRoundRtc).rm.rests.get .lower).bind (·.plannedEnd) = some 0 ∧
    findWarning .wake (.bunk .lower) (after .mainResetEnd leadRoundRtc) = none := by decide +kernel

/-- Refutes O6: at the planned end itself no WAKE is raised where the lead time, taken from a P61 beyond its range, falls after
it. -/
theorem not_mainResetEndRestartsPart : ¬ Obligations.MainResetEndRestartsPart := by
  rintro ⟨resets, -⟩
  obtain ⟨t, e, -, -, -, -, -, -, -, -, -, -, -, -, -, -, -, -, -, rests, -⟩ := resets leadRoundRtc _ rfl
  have left : after .mainResetEnd leadRoundRtc = t := by unfold after; rw [e]
  obtain ⟨planned, unwoken⟩ := leadRoundRtc_ends_unwoken
  rw [left] at planned unwoken
  obtain ⟨-, -, -, -, woken, -⟩ := rests (fun n => .inl (leadRoundRtc_calm n)) .lower
  rw [planned, unwoken] at woken
  exact absurd woken (by decide)

end Sys2Proof.Machine

namespace Sys2Proof.Machine

/-! ## O45: the end of a rest with the pre-warm ACTIVE (R129, R133, R148)

The clause about BUNK_WAKE says that an ACTIVE pre-warm of the rest stays in the table as it stands, for every table. It fails
where the table is over-full: with the positions 0 to 15 taken, the WARNING entry that WU places for another ALERT of the bunk,
as the WAKE entry goes, is put at position 16 and replaces a pre-warm that stands there. -/

/-- A rest in the lower bunk whose pre-warm is ACTIVE at position 16, the positions 0 to 15 taken; the list holds the bunk's
WAKE and a short-rest ALERT whose flash is still to be placed. -/
def overfullRest : State :=
  { State.reset with
    portB.transfer := .open_ false
    au.table := (List.range 16).map fridgeEntryAt ++ [heaterEntryAt 16 .schedule .active]
    rm.rests := ⟨some ⟨0, 0, some 86400, true, 0, .placed⟩, none⟩
    rm.entryRest := some ⟨.lower, false⟩
    wu.list := [⟨.wake, .bunk .lower, 0, .notice, false, none, 0⟩, ⟨.restShort, .bunk .lower, 0, .alert, false, none, 0⟩] }

theorem overfullRest_meets_clause :
    Serving .b overfullRest ∧ (overfullRest.rm.rests.get .lower).isSome = true ∧
    overfullRest.rm.entryRest = some ⟨.lower, false⟩ ∧
    findGrant .heater .schedule overfullRest = some (heaterEntryAt 16 .schedule .active) := by decide +kernel

theorem overfullRest_ends_cold :
    findGrant .heater .schedule (after (.bunkWake .b .lower) overfullRest) = none := by decide +kernel

/-- Refutes O45: a BUNK_WAKE can remove the ACTIVE pre-warm, where the bunk's WARNING entry finds no free position. -/
theorem not_bunkRestLifecycle : ¬ Obligations.BunkRestLifecycle := by
  rintro ⟨-, wakes, -⟩
  obtain ⟨serving, resting, entryRest, entry⟩ := overfullRest_meets_clause
  obtain ⟨t, e, -, -, -, -, -, -, -, stays, -⟩ := (wakes .lower overfullRest serving).2 resting
  have left : after (.bunkWake .b .lower) overfullRest = t := by unfold after; rw [e]
  obtain ⟨kept, -⟩ := stays _ entry rfl entryRest
  have gone := overfullRest_ends_cold
  rw [left] at gone
  rw [gone] at kept
  cases kept

end Sys2Proof.Machine

namespace Sys2Proof.Machine

/-! ## O53: the event inputs (R190 to R193) -/

/-! ### Parts that the grants of lamps and zones do not read

An input's notices and wake request come before its fixed function. The table's work for a load other than HEATER and FRIDGE
reads neither the ports, nor the inputs, nor what a wake request writes of TU, so it answers as it would have before them. -/

/-- `s` with the ports, the inputs, and what a wake request writes of TU (R179) as they are in `m`. -/
def withAside (m s : State) : State :=
  { s with
    ei := m.ei, portV := m.portV, portB := m.portB
    tu := { s.tu with
      exitDue := m.tu.exitDue, postExit := m.tu.postExit, dozeDue := m.tu.dozeDue, lastWake := m.tu.lastWake } }

/-- `t` is `s` but for those parts. -/
def Aside (s t : State) : Prop := t = withAside t s

theorem Aside.refl (s : State) : Aside s s := rfl

theorem Aside.trans {s t u : State} (h : Aside s t) (k : Aside t u) : Aside s u := by
  have e : withAside u (withAside t s) = withAside u s := rfl
  unfold Aside at *
  rw [← e, ← h, ← k]

theorem setInput_aside (n : Fin 8) (x : EventInput) (s : State) : Aside s (setInput n x s) := rfl

theorem notify_aside (l : Link) (n : Notice) (s : State) : Aside s (notify l n s) := by cases l <;> rfl

theorem wake_aside (c : WakeCause) (s : State) : Aside s (wake c s) := by unfold wake; split <;> rfl

theorem Aside.ite {s t u : State} {c : Prop} [Decidable c] (h : Aside s t) (k : Aside s u) : Aside s (if c then t else u) := by
  split
  · exact h
  · exact k

theorem inputWakes_aside (n : Fin 8) (routed : Bool) (s : State) : Aside s (inputWakes n routed s) := by
  have told : ∀ x : State, Aside s x → Aside s (if routed then wake .input x else x) := fun x h =>
    .ite (h.trans (wake_aside _ _)) h
  unfold inputWakes
  exact .ite (.ite (told _ (wake_aside _ _)) ((told _ (.refl s)).trans (wake_aside _ _))) (told _ (.refl s))

section
variable (m s : State)

theorem dropGrant_aside (l : Load) (p : Purpose) : dropGrant l p (withAside m s) = withAside m (dropGrant l p s) := by
  have e : findGrant l p (withAside m s) = findGrant l p s := rfl
  unfold dropGrant; rw [e]; split <;> rfl

theorem formRamp_aside (b : Bunk) : formRamp b (withAside m s) = withAside m (formRamp b s) := by
  have e : findGrant (bunkZone b) .schedule (withAside m s) = findGrant (bunkZone b) .schedule s := rfl
  unfold formRamp; rw [e]; (repeat' split) <;> rfl

theorem mergeZone_aside (b : Bunk) (l : Load) (n : Fin 12) :
    setTarget n (mergedLevel l (formRamp b (syncFlash b (withAside m s)))) (formRamp b (syncFlash b (withAside m s))) =
      withAside m (setTarget n (mergedLevel l (formRamp b (syncFlash b s))) (formRamp b (syncFlash b s))) := by
  have e : formRamp b (syncFlash b (withAside m s)) = withAside m (formRamp b (syncFlash b s)) :=
    formRamp_aside m (syncFlash b s) b
  rw [e]; rfl

theorem mergeLoad_aside {l : Load} (hh : l ≠ .heater) (hf : l ≠ .fridge) :
    mergeLoad l (withAside m s) = withAside m (mergeLoad l s) := by
  cases l
  case heater => exact absurd rfl hh
  case fridge => exact absurd rfl hf
  case zoneLower => exact mergeZone_aside m s .lower _ _
  case zoneUpper => exact mergeZone_aside m s .upper _ _
  all_goals rfl

theorem withdraw_aside {l : Load} (hh : l ≠ .heater) (hf : l ≠ .fridge) (p : Purpose) :
    withdraw l p (withAside m s) = withAside m (withdraw l p s) := by
  have e : findGrant l p (withAside m s) = findGrant l p s := rfl
  unfold withdraw; rw [e]; split
  · rfl
  · rw [dropGrant_aside, mergeLoad_aside m _ hh hf]

/-- AU's answer, with those parts of the state it leaves as they are in `m`. -/
def Admitted.aside (m : State) (a : Admitted) : Admitted := { a with state := withAside m a.state }

theorem accept_aside {g : Grant} (hh : g.load ≠ .heater) (hf : g.load ≠ .fridge) (st : Status) :
    accept g st (withAside m s) = (accept g st s).aside m := by
  have e : placeGrant g (withAside m s) = withAside m (placeGrant g s) := rfl
  unfold accept; rw [e]; dsimp only
  rw [mergeLoad_aside m _ hh hf]; rfl

theorem judgeAsk_aside {r : GrantAsk} (hh : r.load ≠ .heater) (hf : r.load ≠ .fridge) :
    judgeAsk r (withAside m s) = (judgeAsk r s).aside m := by
  have refusal : refusalOf r (withAside m s) = refusalOf r s := rfl
  have asked : askedGrant r (withAside m s) = askedGrant r s := rfl
  have surplus : (withAside m s).au = s.au := rfl
  have demand : demandOf (withAside m s) = demandOf s := rfl
  have ends : horizon (withAside m s) = horizon s := rfl
  have free : freeCharge (withAside m s) = freeCharge s := rfl
  have share : projection (withAside m s) = projection s := rfl
  have less : reduced (withAside m s) = reduced s := rfl
  unfold judgeAsk; rw [refusal]; split
  · rfl
  · dsimp only; rw [asked, surplus, demand, ends, free, share, less]; (repeat' split)
    · exact accept_aside m s hh hf _
    · exact accept_aside m s hh hf _
    · exact accept_aside m s hh hf _
    · rfl

theorem grantAsk_aside {r : GrantAsk} (hh : r.load ≠ .heater) (hf : r.load ≠ .fridge) :
    grantAsk r (withAside m s) = (grantAsk r s).aside m := by
  have found : findGrant r.load r.purpose (withAside m s) = findGrant r.load r.purpose s := rfl
  have rtc : now (withAside m s) = now s := rfl
  unfold grantAsk; dsimp only
  rw [rtc, found, apply_ite (Admitted.aside m)]
  refine ite_congr rfl (fun _ => ?_) (fun _ => judgeAsk_aside m s hh hf)
  split
  · rw [withdraw_aside m s hh hf]; rfl
  · rfl

end

/-! ### The event and its notices (R191) -/

theorem rawActive_eq (x : EventInput) : rawActive x = (x.pin == (x.config.polarity == .activeHigh)) := by
  unfold rawActive; cases x.config.polarity <;> cases x.pin <;> rfl

/-- What an input event does before its fixed function: the input is active, its links are told, and the part wakes. -/
def eventTold (n : Fin 8) (s : State) : State :=
  let x := input n s
  let s := setInput n { x with active := true, lastEvent := some (now s) } s
  let s := if x.config.noticeV then notify .v .input s else s
  let s := if x.config.noticeB then notify .b .input s else s
  inputWakes n x.config.wake s

theorem inputEvent_eq (n : Fin 8) (s : State) : inputEvent n s = fixedFunction n (eventTold n s) := rfl

theorem eventTold_aside (n : Fin 8) (s : State) : Aside s (eventTold n s) := by
  have listed : Aside s (setInput n { input n s with active := true, lastEvent := some (now s) } s) := setInput_aside _ _ _
  have told : ∀ (c : Bool) (l : Link) (x : State), Aside s x → Aside s (if c then notify l .input x else x) :=
    fun _ _ _ h => .ite (h.trans (notify_aside _ _ _)) h
  unfold eventTold
  exact (told _ _ _ (told _ _ _ listed)).trans (inputWakes_aside _ _ _)

theorem inputWakes_ei (n : Fin 8) (x : Bool) (s : State) : (inputWakes n x s).ei = s.ei := by
  unfold inputWakes; (repeat' split) <;> simp

theorem eventTold_ei (n : Fin 8) (s : State) :
    (eventTold n s).ei = (setInput n { input n s with active := true, lastEvent := some (now s) } s).ei := by
  unfold eventTold; dsimp only; rw [inputWakes_ei]; (repeat' split) <;> simp

theorem eventTold_noticed (n : Fin 8) (s : State) :
    ((input n s).config.noticeV = true → hasNotice .input (port .v (eventTold n s)) = true) ∧
      ((input n s).config.noticeB = true → hasNotice .input (port .b (eventTold n s)) = true) := by
  have wakes : ∀ (l : Link) (x : State), hasNotice .input (port l x) = true →
      hasNotice .input (port l (inputWakes n (input n s).config.wake x)) = true := fun l x h =>
    inputWakes_heat (hasNotice_kept l .input) n _ h
  unfold eventTold; dsimp only
  refine ⟨fun h => wakes .v _ ?_, fun h => wakes .b _ ?_⟩
  · rw [if_pos h]
    exact keeps_ite (P := fun x => hasNotice .input (port .v x) = true)
      ((hasNotice_kept .v .input).told .b .input (hasNotice_setNotice_self _ _)) (hasNotice_setNotice_self _ _)
  · rw [if_pos h]; exact hasNotice_setNotice_self _ _

theorem wake_exits {s : State} (h : s.tu.mode = .doze) (c : WakeCause) : (wake c s).tu.exitDue.isSome = true := by
  unfold wake; cases e : s.tu.exitDue <;> simp [h, e]

/-- A routed wake, or EV0's own, starts the exit from DOZE (R179, R192). -/
theorem inputWakes_exits {n : Fin 8} {routed : Bool} {s : State} (h : s.tu.mode = .doze) (hr : routed = true ∨ n = 0) :
    (inputWakes n routed s).tu.exitDue.isSome = true := by
  have mode : ∀ c, (wake c s).tu.mode = .doze := fun c => by unfold wake; split <;> exact h
  unfold inputWakes; dsimp only
  rcases hr with rfl | rfl
  · simp only [↓reduceIte]; (repeat' split)
    · exact wake_exits (mode _) _
    · exact wake_exits (mode _) _
    · exact wake_exits h _
  · rw [if_pos (show ((0 : Fin 8) : Nat) = 0 from rfl)]; split
    · exact keeps_ite (P := fun x => x.tu.exitDue.isSome = true) (wake_exits (mode _) _) (wake_exits h _)
    · cases routed
      · exact wake_exits h _
      · exact wake_exits (mode _) _

theorem eventTold_exits {n : Fin 8} {s : State} (h : s.tu.mode = .doze) (hr : (input n s).config.wake = true ∨ n = 0) :
    (eventTold n s).tu.exitDue.isSome = true := by
  unfold eventTold
  refine inputWakes_exits ?_ hr
  (repeat' split) <;> simpa using h

/-! ### The warning list under a bunk's acknowledgement (R144, R145) -/

theorem list_of_tableFrame {s t : State} (h : tableFrame t = tableFrame s) : t.wu.list = s.wu.list :=
  congrArg (fun x : (BitVec 32 × BitVec 32) × AdmissionUnit × List Warning × Bool × Bool => x.2.2.1) h

theorem notify_list (l : Link) (n : Notice) (s : State) : (notify l n s).wu.list = s.wu.list := by rw [notify_wu]

theorem cutChime_list (k : WarnKind) (t : WarnTarget) (s : State) : (cutChime k t s).wu.list = s.wu.list := by
  unfold cutChime; (repeat' split) <;> rfl

theorem notifyWarning_list (t : WarnTarget) (s : State) : (notifyWarning t s).wu.list = s.wu.list := by
  unfold notifyWarning; dsimp only; (repeat' split) <;> simp

theorem reconsiderTarget_list (t : WarnTarget) (s : State) : (reconsiderTarget t s).wu.list = s.wu.list :=
  list_of_tableFrame (reconsiderTarget_tableFrame t s)

theorem markAcked_list (k : WarnKind) (t : WarnTarget) (s : State) :
    (markAcked k t s).wu.list = s.wu.list.map (fun w => if isWarning k t w then { w with acked := true } else w) := by
  unfold markAcked; dsimp only
  rw [reconsiderTarget_list, notifyWarning_list, cutChime_list]; rfl

theorem removeWarning_sublist (k : WarnKind) (t : WarnTarget) (s : State) :
    (removeWarning k t s).wu.list.Sublist s.wu.list := by
  unfold removeWarning; split
  · exact List.Sublist.refl _
  · rw [reconsiderTarget_list, cutChime_list, notifyWarning_list]; exact List.filter_sublist

theorem setPrewarm_list (b : Bunk) (x : PrewarmState) (s : State) : (setPrewarm b x s).wu.list = s.wu.list := by
  unfold setPrewarm; (repeat' split) <;> simp

theorem placePrewarm_list (b : Bunk) (r : GrantAsk) (s : State) : (placePrewarm b r s).wu.list = s.wu.list := by
  have judged : (judgeAsk r s).state.wu.list = s.wu.list := list_of_tableFrame (judgeAsk_tableFrame r s)
  have released : ∀ x : State, (releaseEntryRest b x).wu.list = x.wu.list := fun x => by
    unfold releaseEntryRest; (repeat' split)
    · rfl
    · exact setPrewarm_list _ _ _
    · rfl
  unfold placePrewarm; dsimp only; split
  · rw [setPrewarm_list]; exact (released _).trans judged
  · rw [setPrewarm_list]; exact judged

theorem withdraw_list (l : Load) (p : Purpose) (s : State) : (withdraw l p s).wu.list = s.wu.list :=
  list_of_tableFrame (withdraw_tableFrame l p s)

theorem reconcilePrewarm_list (s : State) : (reconcilePrewarm s).wu.list = s.wu.list := by
  unfold reconcilePrewarm
  extract_lets holder x entry
  have h : x.wu.list = s.wu.list := rfl
  clear_value x entry
  split
  · refine keeps_ite (P := fun y => y.wu.list = s.wu.list) h (keeps_ite (P := fun y => y.wu.list = s.wu.list) ?_ ?_)
    · exact (setPrewarm_list _ _ _).trans h
    · exact (placePrewarm_list _ _ _).trans h
  · split
    · exact keeps_ite (P := fun y => y.wu.list = s.wu.list) h ((withdraw_list _ _ _).trans h)
    · exact h

theorem leavePrewarm_list (b : Bunk) (s : State) : (leavePrewarm b s).wu.list = s.wu.list := by
  unfold leavePrewarm; (repeat' split)
  · exact withdraw_list _ _ _
  all_goals rfl

theorem raiseGrant_list (s : State) (g : Grant) : (raiseGrant s g).wu.list = s.wu.list := by
  unfold raiseGrant; (repeat' split) <;> rfl

theorem mergeLoads_list (ls : List Load) (s : State) : (mergeLoads ls s).wu.list = s.wu.list :=
  foldl_keeps (fun s => s.wu.list) _ (fun s l => list_of_tableFrame (mergeLoad_tableFrame l s)) _ s

theorem reportQuiet_list (s : State) : (reportQuiet s).wu.list = s.wu.list := by
  have caps : ∀ x : State, (applyCaps x).wu.list = x.wu.list := fun x => by
    unfold applyCaps; dsimp only
    rw [mergeLoads_list]
    exact foldl_keeps (fun s : State => s.wu.list) raiseGrant raiseGrant_list _ _
  unfold reportQuiet; dsimp only
  rw [list_of_tableFrame (lowerStage_tableFrame _), caps]

/-- The end of a rest raises no warning (R129). -/
theorem endRest_sublist (b : Bunk) (s : State) : (endRest b s).wu.list.Sublist s.wu.list := by
  unfold endRest; split
  · exact List.Sublist.refl _
  · dsimp only
    rw [notify_list, reconcilePrewarm_list, list_of_tableFrame (setSunrise_tableFrame _ _ _ _), withdraw_list]
    refine (removeWarning_sublist _ _ _).trans ?_
    rw [reportQuiet_list, setRest_wu, leavePrewarm_list]

theorem ackEntry_sublist (k : WarnKind) (t : WarnTarget) (s : State) :
    (ackEntry k t s).wu.list.Sublist (s.wu.list.map (fun w => if isWarning k t w then { w with acked := true } else w)) := by
  rw [← markAcked_list]
  unfold ackEntry; dsimp only; split
  · exact endRest_sublist _ _
  · exact List.Sublist.refl _

/-- Every entry that passes the test is acknowledged, or its kind and target are still to be acknowledged. -/
def AckedBut (test : WarnTarget → Bool) (ws : List Warning) (s : State) : Prop :=
  ∀ w ∈ s.wu.list, test w.target = true → w.acked = true ∨ ∃ v ∈ ws, v.kind = w.kind ∧ v.target = w.target

theorem ackEntry_ackedBut {test : WarnTarget → Bool} {v : Warning} {ws : List Warning} {s : State}
    (h : AckedBut test (v :: ws) s) : AckedBut test ws (ackEntry v.kind v.target s) := fun w hw ht => by
  obtain ⟨x, hx, rfl⟩ := List.mem_map.1 ((ackEntry_sublist _ _ _).subset hw)
  split at ht
  · next is => rw [if_pos is]; exact .inl rfl
  · next is =>
    rw [if_neg is]
    rcases h x hx ht with acked | ⟨y, hy, pair⟩
    · exact .inl acked
    · rcases List.mem_cons.1 hy with rfl | hy
      · obtain ⟨hk, hg⟩ := pair
        exact absurd (by simp [isWarning, hk, hg]) is
      · exact .inr ⟨y, hy, pair⟩

theorem ackEntries_ackedBut {test : WarnTarget → Bool} (ws : List Warning) {s : State} (h : AckedBut test ws s) :
    AckedBut test [] (ws.foldl (fun s w => ackEntry w.kind w.target s) s) := by
  induction ws generalizing s with
  | nil => exact h
  | cons v ws ih => exact ih (ackEntry_ackedBut h)

/-- The entries that a bunk's acknowledgement acknowledges (R145). -/
def bunkWaiting (b : Bunk) (s : State) : List Warning :=
  s.wu.list.filter (fun w => !w.acked && (w.target == .bunk b || w.target == .cab))

theorem bunkAck_count (b : Bunk) (s : State) : (bunkAck b s).2 = (bunkWaiting b s).length := rfl

theorem bunkAck_none {b : Bunk} {s : State} (h : bunkWaiting b s = []) : (bunkAck b s).1 = s := by
  have e : (bunkAck b s).1 = (bunkWaiting b s).foldl (fun s w => ackEntry w.kind w.target s) s := rfl
  rw [e, h]; rfl

/-- After a bunk's acknowledgement no entry of the bunk or of CAB is left unacknowledged (R145). -/
theorem bunkAck_acks (b : Bunk) (s : State) :
    ∀ w ∈ (bunkAck b s).1.wu.list, w.target = .bunk b ∨ w.target = .cab → w.acked = true := by
  have start : AckedBut (fun t => t == .bunk b || t == .cab) (bunkWaiting b s) s := fun w hw ht => by
    cases ha : w.acked
    · exact .inr ⟨w, List.mem_filter.2 ⟨hw, by simp [ha, ht]⟩, rfl, rfl⟩
    · exact .inl rfl
  intro w hw ht
  rcases ackEntries_ackedBut _ start w hw (by simpa using ht) with acked | ⟨v, hv, -⟩
  · exact acked
  · cases hv

/-! ### The fixed functions (R87, R145, R192) -/

theorem placeAsk_aside {m s : State} {r : GrantAsk} (hh : r.load ≠ .heater) (hf : r.load ≠ .fridge) :
    placeAsk r (withAside m s) = (withAside m (grantAsk r s).state, ⟨(grantAsk r s).status, none⟩) := by
  unfold placeAsk; dsimp only; rw [grantAsk_aside m s hh hf]; rfl

theorem bunkZone_ne (b : Bunk) : bunkZone b ≠ .heater ∧ bunkZone b ≠ .fridge := by cases b <;> exact ⟨by decide, by decide⟩

theorem lightToggle_aside (m s : State) (who : Requester) (b : Bunk) :
    lightToggle who b (withAside m s) = (withAside m (lightToggle who b s).1, (lightToggle who b s).2) := by
  obtain ⟨hh, hf⟩ := bunkZone_ne b
  have active : comfortActive (bunkZone b) (withAside m s) = comfortActive (bunkZone b) s := rfl
  unfold lightToggle toggle
  rw [show (comfortAsk (bunkZone b) who b { level := 160 }).load = bunkZone b from rfl, active]
  split
  · rw [withdraw_aside m s hh hf]
  · exact placeAsk_aside hh hf

theorem lightToggle_active {s : State} {b : Bunk} (who : Requester)
    (h : (findGrant (bunkZone b) .comfort s).map (·.state) = some .active) :
    lightToggle who b s = (mergeLoad (bunkZone b) (dropGrant (bunkZone b) .comfort s), ⟨.ok, none⟩) := by
  obtain ⟨g, hg, active⟩ := Option.map_eq_some_iff.1 h
  unfold lightToggle toggle comfortActive withdraw
  rw [show (comfortAsk (bunkZone b) who b { level := 160 }).load = bunkZone b from rfl, hg]
  exact if_pos (by simp [active])

theorem lightToggle_inactive {s : State} {b : Bunk} (who : Requester)
    (h : (findGrant (bunkZone b) .comfort s).map (·.state) ≠ some .active) :
    lightToggle who b s = placeAsk (comfortAsk (bunkZone b) who b { level := 160 }) s := by
  have inactive : comfortActive (bunkZone b) s = false := by
    unfold comfortActive; split
    · next g hg => rw [hg] at h; simpa using h
    · rfl
  unfold lightToggle toggle
  exact if_neg (by rw [show (comfortAsk (bunkZone b) who b { level := 160 }).load = bunkZone b from rfl, inactive]; simp)

theorem buttonPress_acks {b : Bunk} {s : State} (h : bunkWaiting b s ≠ []) :
    buttonPress b s = ((bunkAck b s).1, ⟨.ok, some (bunkWaiting b s).length⟩) := by
  unfold buttonPress; dsimp only
  rw [bunkAck_count, if_neg (by simpa using h)]

theorem buttonPress_toggles {b : Bunk} {s : State} (h : bunkWaiting b s = []) :
    buttonPress b s = lightToggle .input b s := by
  unfold buttonPress; dsimp only
  rw [bunkAck_count, h, bunkAck_none h]; rfl

/-- The input of a bunk's button (R192). -/
def buttonInput : Bunk → Fin 8
  | .lower => 3
  | .upper => 4

/-- The outcome of the last press of a bunk's button (R192). -/
def buttonOutcome (b : Bunk) (s : State) : Option (ActionOutcome × RtcTime) :=
  match b with | .lower => s.ei.lowerOutcome | .upper => s.ei.upperOutcome

theorem fixedFunction_button (b : Bunk) (s : State) :
    ∃ e : EventInputs, fixedFunction (buttonInput b) s = { (buttonPress b s).1 with ei := e } ∧
      e.inputs = (buttonPress b s).1.ei.inputs ∧
      buttonOutcome b (fixedFunction (buttonInput b) s) = some ((buttonPress b s).2, now s) := by
  cases b <;> exact ⟨_, rfl, rfl, rfl⟩

theorem fixedFunction_door (s : State) :
    fixedFunction 2 s = { (placeAsk (courtesyAsk s) s).1 with
      ei := { (placeAsk (courtesyAsk s) s).1.ei with
        doorOutcome := some ((placeAsk (courtesyAsk s) s).2, now s) } } := rfl

theorem fixedFunction_other {n : Fin 8} (h : 5 ≤ n.val) (s : State) : fixedFunction n s = s := by
  obtain e | e | e : n.val = 5 ∨ n.val = 6 ∨ n.val = 7 := by omega
  all_goals simp only [fixedFunction, e]

theorem placeAsk_besideGrants (r : GrantAsk) (s : State) : besideGrants (placeAsk r s).1 = besideGrants s := by
  simp [placeAsk]

/-- No fixed function changes an input, the policy or its lock. -/
theorem fixedFunction_leaves (n : Fin 8) (s : State) :
    (fixedFunction n s).ei.inputs = s.ei.inputs ∧ (fixedFunction n s).policy = s.policy ∧
      (fixedFunction n s).policyLock = s.policyLock := by
  have of_rests : ∀ {x : State}, besideRests x = besideRests s →
      x.ei.inputs = s.ei.inputs ∧ x.policy = s.policy ∧ x.policyLock = s.policyLock := fun h =>
    ⟨congrArg EventInputs.inputs (besideRests_ei h), besideRests_policy h, besideRests_field State.policyLock h fun _ => rfl⟩
  have pressed := fun b => of_rests (buttonPress_besideRests b s)
  have asked := of_rests (besideRests_of_grants (placeAsk_besideGrants (courtesyAsk s) s))
  unfold fixedFunction; split
  · exact ⟨rfl, rfl, rfl⟩
  · exact of_rests (overheat_besideRests s)
  · exact asked
  · exact pressed .lower
  · exact pressed .upper
  · exact ⟨rfl, rfl, rfl⟩

theorem heaterOverheats_grow (s : State) : NoticesGrow s (heaterOverheats s) := by
  have lengthened : ∀ x : State, NoticesGrow x (lengthenPurge x) := fun x => by
    unfold lengthenPurge; (repeat' split)
    · exact .refl _
    · exact .refl _
    · dsimp only; split <;> exact .of_ports rfl rfl
  have pending : ∀ (c : LockCause) (x : State), NoticesGrow x (setPending c x) := fun c x => by
    unfold setPending; split <;> exact .of_ports rfl rfl
  have locked : ∀ (c : LockCause) (x : State), NoticesGrow x (enterLockout c x) := fun c x =>
    (toPhase_grow .lockout x).trans (.of_ports rfl rfl)
  unfold heaterOverheats; split
  case h_1 | h_2 | h_3 => exact enterPurge_grow _ _ _ _
  case h_4 => exact (lengthened _).trans (pending _ _)
  case h_5 | h_6 => exact locked _ _
  case h_7 => exact .refl _

theorem fixedFunction_noticed {l : Link} {n : Notice} {s : State} (m : Fin 8) (h : hasNotice n (port l s) = true) :
    hasNotice n (port l (fixedFunction m s)) = true :=
  fixedFunction_heat (hasNotice_kept l n) (fun {x} hx => heaterOverheats_grow x l n hx) m h

theorem fixedFunction_exits {s : State} (m : Fin 8) (h : s.tu.exitDue.isSome = true) :
    (fixedFunction m s).tu.exitDue.isSome = true :=
  fixedFunction_heat exitDue_kept (fun {x} hx => by rw [besideGrants_tu (heaterOverheats_besideGrants x)]; exact hx) m h

/-! ### The debounced state (R190, R191, R193) -/

theorem setInput_input (n : Fin 8) (s : State) : setInput n (input n s) s = s := by
  have e : s.ei.inputs.set n s.ei.inputs[n] = s.ei.inputs := by simp
  unfold setInput input; rw [e]

/-- Where the raw state is inactive, or the input active already, no event follows (R190). -/
theorem takeRaw_calm {n : Fin 8} {s : State} (h : rawActive (input n s) = false ∨ (input n s).active = true) :
    takeRaw n s = setInput n { input n s with active := rawActive (input n s) } s := by
  unfold takeRaw; dsimp only; (repeat' split)
  · next e =>
    have same : rawActive (input n s) = (input n s).active := by simpa using e
    rw [same]; exact (setInput_input n s).symm
  · next e active =>
    have raw : rawActive (input n s) = false := by
      cases hr : rawActive (input n s)
      · rfl
      · simp [hr, active] at e
    rw [raw]
  · next e inactive => rcases h with h | h <;> simp_all

theorem takeRaw_event {n : Fin 8} {s : State} (raw : rawActive (input n s) = true) (inactive : (input n s).active = false) :
    takeRaw n s = inputEvent n s := by
  unfold takeRaw; dsimp only; rw [raw, inactive]; rfl

/-- The input after an event is active from now on; the others stand (R191). -/
theorem inputEvent_inputs (n : Fin 8) (s : State) :
    input n (inputEvent n s) = { input n s with active := true, lastEvent := some (now s) } ∧
      ∀ m : Fin 8, m ≠ n → input m (inputEvent n s) = input m s := by
  obtain ⟨inputs, -, -⟩ := fixedFunction_leaves n (eventTold n s)
  have all : ∀ m, input m (inputEvent n s) =
      input m (setInput n { input n s with active := true, lastEvent := some (now s) } s) := fun m => by
    unfold input; rw [inputEvent_eq, inputs, eventTold_ei]; rfl
  exact ⟨(all n).trans (input_setInput_self _ _ _), fun m hm => (all m).trans (input_setInput_ne hm _ _)⟩

theorem takeRaw_inputs (n : Fin 8) (s : State) :
    input n (takeRaw n s) =
      (if rawActive (input n s) = true ∧ (input n s).active = false
        then { input n s with active := true, lastEvent := some (now s) }
        else { input n s with active := rawActive (input n s) }) ∧
      ∀ m : Fin 8, m ≠ n → input m (takeRaw n s) = input m s := by
  by_cases h : rawActive (input n s) = true ∧ (input n s).active = false
  · rw [takeRaw_event h.1 h.2, if_pos h]; exact inputEvent_inputs n s
  · have calm : rawActive (input n s) = false ∨ (input n s).active = true := by
      cases hr : rawActive (input n s) <;> cases ha : (input n s).active <;> simp_all
    rw [takeRaw_calm calm, if_neg h]
    exact ⟨input_setInput_self _ _ _, fun m hm => input_setInput_ne hm _ _⟩

theorem takeRaw_policy (n : Fin 8) (s : State) :
    (takeRaw n s).policy = s.policy ∧ (takeRaw n s).policyLock = s.policyLock := by
  obtain ⟨-, policy, lock⟩ := fixedFunction_leaves n (eventTold n s)
  have aside := eventTold_aside n s
  unfold takeRaw; dsimp only; (repeat' split)
  · exact ⟨rfl, rfl⟩
  · exact ⟨rfl, rfl⟩
  · rw [inputEvent_eq, policy, lock, aside]; exact ⟨rfl, rfl⟩

/-! ### INPUT_CONFIG (R193) -/

theorem exec_inputConfig_notFound {b : Byte} {s : State} (h : Serving .v s) (hb : 8 ≤ b.toNat) (config : InputConfig) :
    exec (.inputConfig .v b config) s = .next (answered .v 0x48#8 .notFound [] s) :=
  congrArg Host.Outcome.next (serve_answered h (by decide) (dif_neg (by omega)))

theorem exec_inputConfig_locked {b : Byte} {s : State} (h : Serving .v s) (hb : b.toNat < 2) (lock : s.policyLock = true)
    (config : InputConfig) : exec (.inputConfig .v b config) s = .next (answered .v 0x48#8 .locked [] s) :=
  congrArg Host.Outcome.next (serve_answered h (by decide)
    ((dif_pos (show b.toNat < 8 by omega)).trans (if_pos ⟨lock, hb⟩)))

theorem configureInput_taken {k : Nat} {n : Fin 8} {s : State} (hk : k = n.val) (h : 2 ≤ n.val ∨ s.policyLock = false)
    (config : InputConfig) :
    configureInput k config s = taken (restartInput n (setInput n { input n s with config := config } s)) := by
  subst hk
  have free : ¬((s.policyLock : Prop) ∧ n.val < 2) := fun ⟨lock, low⟩ => by
    rcases h with h | h
    · omega
    · rw [h] at lock; cases lock
  exact (dif_pos n.isLt).trans (if_neg free)

/-- The input with its new configuration, judged afresh up to its first event (R193). -/
def inputAfresh (n : Fin 8) (config : InputConfig) (s : State) : EventInput :=
  { input n s with
    config := config, active := false
    debounceDue := if config.debounce && ((input n s).pin == (config.polarity == .activeHigh)) then some (s.tu.clock + 20000)
      else none }

theorem setInput_setInput (n : Fin 8) (x y : EventInput) (s : State) : setInput n y (setInput n x s) = setInput n y s := by
  unfold setInput; simp

theorem restartInput_configured (n : Fin 8) (config : InputConfig) (s : State) :
    restartInput n (setInput n { input n s with config := config } s) =
      if config.debounce then setInput n (inputAfresh n config s) s else takeRaw n (setInput n (inputAfresh n config s) s) := by
  unfold restartInput inputAfresh; dsimp only
  rw [input_setInput_self, setInput_setInput, rawActive_eq]; rfl

theorem exec_inputConfig_debounced {b : Byte} {n : Fin 8} {s : State} (h : Serving .v s) (hb : b.toNat = n.val)
    (may : 2 ≤ n.val ∨ s.policyLock = false) {config : InputConfig} (deb : config.debounce = true) :
    exec (.inputConfig .v b config) s = .next (answered .v 0x48#8 .ok [] (setInput n (inputAfresh n config s) s)) := by
  refine congrArg Host.Outcome.next (serve_answered h (by decide) ?_)
  rw [configureInput_taken (s := clearReleased .v s) hb may, restartInput_configured, if_pos deb]; rfl

/-- Without debounce the configured input takes its raw state at once (R190, R193). -/
theorem exec_inputConfig_immediate {b : Byte} {n : Fin 8} {s : State} (h : Serving .v s) (hb : b.toNat = n.val)
    (may : 2 ≤ n.val ∨ s.policyLock = false) {config : InputConfig} (deb : config.debounce = false) :
    exec (.inputConfig .v b config) s = .next (answer .v 0x48#8
      (taken (takeRaw n (setInput n (inputAfresh n config s) (clearReleased .v s))))) := by
  refine congrArg Host.Outcome.next ((serve_serving h (by decide)).trans (congrArg (answer .v 0x48#8) ?_))
  rw [configureInput_taken (s := clearReleased .v s) hb may, restartInput_configured, if_neg (by simp [deb])]; rfl

theorem inputConfig_clauses (b : Byte) (config : InputConfig) (s : State) (h : Serving .v s) (n : Fin 8)
    (hb : b.toNat = n.val) (may : 2 ≤ n.val ∨ s.policyLock = false) :
    let raw : Bool := (input n s).pin == (config.polarity == .activeHigh)
    (config.debounce = true → exec (.inputConfig .v b config) s = .next (answered .v 0x48#8 .ok [] (setInput n
      { input n s with
        config := config, active := false
        debounceDue := if raw then some (s.tu.clock + 20000) else none } s))) ∧
    (config.debounce = false → ∃ t, exec (.inputConfig .v b config) s = .next t ∧ Answered .v 0x48#8 .ok [] t ∧
      input n t = { input n s with
        config := config, active := raw, debounceDue := none
        lastEvent := if raw then some (now s) else (input n s).lastEvent } ∧
      (∀ m : Fin 8, m ≠ n → input m t = input m s) ∧ t.policyLock = s.policyLock ∧ t.policy = s.policy) := by
  intro raw
  refine ⟨fun deb => ?_, fun deb => ?_⟩
  · rw [exec_inputConfig_debounced h hb may deb]
    unfold inputAfresh; rw [deb, Bool.true_and]
  · have fresh : inputAfresh n config s = { input n s with config := config, active := false, debounceDue := none } := by
      unfold inputAfresh; rw [deb, Bool.false_and]; rfl
    let y : State := setInput n (inputAfresh n config s) (clearReleased .v s)
    have hy : input n y = { input n s with config := config, active := false, debounceDue := none } := by
      rw [← fresh]; exact input_setInput_self _ _ _
    have active : rawActive (input n y) = raw := by rw [rawActive_eq, hy]
    obtain ⟨self, others⟩ := takeRaw_inputs n y
    obtain ⟨policy, lock⟩ := takeRaw_policy n y
    have field : ∀ {α : Type} (f : State → α), (∀ x, f (besideAnswer .v x) = f x) →
        f (answer .v 0x48#8 (taken (takeRaw n y))) = f (takeRaw n y) := fun f hf => answer_field .v 0x48#8 _ f hf
    refine ⟨_, exec_inputConfig_immediate h hb may deb, answer_Answered _ _ _, ?_, fun m hm => ?_, ?_, ?_⟩
    · rw [field (input n) fun _ => rfl, self, active, hy]
      cases raw <;> rfl
    · rw [field (input m) fun _ => rfl, others m hm]
      exact input_setInput_ne hm _ _
    · exact (field State.policyLock fun _ => rfl).trans lock
    · exact (field State.policy fun _ => rfl).trans policy

/-! ### A raw change (R190) -/

theorem rawChange_clauses (n : Fin 8) (high : Bool) (s : State) :
    ((input n s).pin = high → exec (.inputRawChange n high) s = .next s) ∧
    ((input n s).pin ≠ high → s.tu.resetHold.isSome = true →
      exec (.inputRawChange n high) s = .next (setInput n { input n s with pin := high } s)) ∧
    ((input n s).pin ≠ high → Running s → (input n s).config.debounce = true →
      exec (.inputRawChange n high) s = .next (setInput n
        { input n s with pin := high, debounceDue := some (s.tu.clock + 20000) } s)) ∧
    ((input n s).pin ≠ high → Running s → (input n s).config.debounce = false → ∃ t,
      exec (.inputRawChange n high) s = .next t ∧ (input n t).pin = high ∧
      (input n t).active = (high == ((input n s).config.polarity == .activeHigh))) := by
  have e : exec (.inputRawChange n high) s = .next (rawChange n high s) := rfl
  have pinned : input n (setPin n high s) = { input n s with pin := high } := input_setInput_self _ _ _
  have held : inReset (setPin n high s) = s.tu.resetHold.isSome := rfl
  have changed : (input n s).pin ≠ high → rawChange n high s =
      if inReset (setPin n high s) then setPin n high s
      else if (input n s).config.debounce then
        setInput n { input n s with pin := high, debounceDue := some (s.tu.clock + 20000) } s
      else takeRaw n (setPin n high s) := fun hp => by
    unfold rawChange; rw [if_neg hp]; dsimp only; rw [pinned]
    unfold setPin; rw [setInput_setInput]; rfl
  rw [e]
  refine ⟨fun hp => ?_, fun hp hr => ?_, fun hp hr deb => ?_, fun hp hr deb => ⟨_, rfl, ?_⟩⟩
  · unfold rawChange; rw [if_pos hp]
  · rw [changed hp, held, if_pos hr]; rfl
  · rw [changed hp, held, hr, deb]; rfl
  · rw [changed hp, held, hr, deb]
    change (input n (takeRaw n (setPin n high s))).pin = _ ∧ (input n (takeRaw n (setPin n high s))).active = _
    rw [(takeRaw_inputs n _).1, pinned, rawActive_eq]
    split
    · next event => exact ⟨rfl, event.1.symm⟩
    · exact ⟨rfl, rfl⟩

/-! ### The fixed functions of an event (R87, R145, R192) -/

/-- The door's light, as it would be without the event's notices and wake. -/
theorem door_event (m s : State) :
    let t := fixedFunction 2 (withAside m s)
    let a := grantAsk (courtesyAsk s) s
    (t.au = a.state.au ∧ t.ca = a.state.ca ∧ t.hs = a.state.hs) ∧
      t.ei.doorOutcome = some (⟨a.status, none⟩, now s) := by
  have asked : placeAsk (courtesyAsk (withAside m s)) (withAside m s) =
      (withAside m (grantAsk (courtesyAsk s) s).state, ⟨(grantAsk (courtesyAsk s) s).status, none⟩) :=
    placeAsk_aside (r := courtesyAsk s) (show Load.step ≠ .heater by decide) (show Load.step ≠ .fridge by decide)
  dsimp only
  rw [fixedFunction_door, asked]
  exact ⟨⟨rfl, rfl, rfl⟩, rfl⟩

/-- A bunk's button: the acknowledgement, or the light's toggle as it would be without the event's notices and wake. -/
theorem button_event (b : Bunk) (m s : State) :
    let t := fixedFunction (buttonInput b) (withAside m s)
    let does (u : State) : Prop := t.au = u.au ∧ t.ca = u.ca ∧ t.hs = u.hs
    (bunkWaiting b s ≠ [] → buttonOutcome b t = some (⟨.ok, some (bunkWaiting b s).length⟩, now s) ∧
      ∀ w ∈ t.wu.list, w.target = .bunk b ∨ w.target = .cab → w.acked = true) ∧
    (bunkWaiting b s = [] → (findGrant (bunkZone b) .comfort s).map (·.state) = some .active →
      does (mergeLoad (bunkZone b) (dropGrant (bunkZone b) .comfort s)) ∧ buttonOutcome b t = some (⟨.ok, none⟩, now s)) ∧
    (bunkWaiting b s = [] → (findGrant (bunkZone b) .comfort s).map (·.state) ≠ some .active →
      let a := grantAsk (comfortAsk (bunkZone b) .input b { level := 160 }) s
      does a.state ∧ buttonOutcome b t = some (⟨a.status, none⟩, now s)) := by
  obtain ⟨e, left, -, outcome⟩ := fixedFunction_button b (withAside m s)
  have waits : bunkWaiting b (withAside m s) = bunkWaiting b s := rfl
  have toggled : bunkWaiting b s = [] →
      buttonPress b (withAside m s) = (withAside m (lightToggle .input b s).1, (lightToggle .input b s).2) := fun h => by
    rw [buttonPress_toggles (waits.trans h), lightToggle_aside]
  intro t does
  have outcome' : buttonOutcome b t = some ((buttonPress b (withAside m s)).2, now s) := outcome
  have left' : t = { (buttonPress b (withAside m s)).1 with ei := e } := left
  clear_value t
  refine ⟨fun h => ?_, fun h active => ?_, fun h inactive => ?_⟩
  · rw [outcome', left', buttonPress_acks (by rw [waits]; exact h), waits]
    exact ⟨rfl, bunkAck_acks b _⟩
  · change (t.au = _ ∧ t.ca = _ ∧ t.hs = _) ∧ _
    rw [outcome', left', toggled h, lightToggle_active .input active]
    exact ⟨⟨rfl, rfl, rfl⟩, rfl⟩
  · change (t.au = _ ∧ t.ca = _ ∧ t.hs = _) ∧ _
    rw [outcome', left', toggled h, lightToggle_inactive .input inactive]
    exact ⟨⟨rfl, rfl, rfl⟩, rfl⟩

theorem overheat_event {s : State} (h : s.fu.record = none) :
    (fixedFunction 1 s).fu.record.map (fun c => (c.report.source, c.report.code)) = some (.heater, .overheat) := by
  have clear : (heaterOverheats s).fu.record = none := by rw [besideGrants_fu (heaterOverheats_besideGrants s)]; exact h
  have e : fixedFunction 1 s = overheat s := rfl
  rw [e, overheat, takeFault_record clear]; rfl

/-! ### The debounce timer (R190) -/

/-- The input whose debounce timer has run out, at the timer's deadline. -/
def debounced (n : Fin 8) (due : Nat) (s : State) : State :=
  setInput n { input n s with debounceDue := none } (reach due s)

theorem exec_debounceExpiry {n : Fin 8} {s : State} (run : Running s) {due : Nat} (hd : (input n s).debounceDue = some due) :
    exec (.debounceExpiry n) s = .next (takeRaw n (debounced n due s)) := by
  refine congrArg Host.Outcome.next ((unlessReset_running run _).trans ?_)
  unfold debounceExpiry; dsimp only; rw [hd]; rfl

theorem input_debounced (n : Fin 8) (due : Nat) (s : State) :
    input n (debounced n due s) = { input n s with debounceDue := none } := input_setInput_self _ _ _

/-- Settles O53: the configuration, the raw change, and the debounce timer with each input's fixed function. -/
theorem inputsConfiguredAndDebounced : Obligations.InputsConfiguredAndDebounced := by
  refine ⟨fun b config s h => ⟨fun hb => exec_inputConfig_notFound h hb config,
    fun hb lock => exec_inputConfig_locked h hb lock config, fun n hb may => inputConfig_clauses b config s h n hb may⟩,
    rawChange_clauses, fun n s run due hd => ?_⟩
  have raw_eq : rawActive (input n (debounced n due s)) =
      ((input n s).pin == ((input n s).config.polarity == .activeHigh)) := by rw [rawActive_eq, input_debounced]
  refine ⟨fun calm => ?_, fun raw inactive => ?_⟩
  · rw [exec_debounceExpiry run hd, takeRaw_calm (by rw [raw_eq, input_debounced]; exact calm), raw_eq, input_debounced]
    unfold debounced; rw [setInput_setInput]; rfl
  · have event : takeRaw n (debounced n due s) = inputEvent n (debounced n due s) :=
      takeRaw_event (raw_eq.trans raw) (by rw [input_debounced]; exact inactive)
    obtain ⟨self, others⟩ := inputEvent_inputs n (debounced n due s)
    obtain ⟨toldV, toldB⟩ := eventTold_noticed n (debounced n due s)
    have exits := eventTold_exits (n := n) (s := debounced n due s)
    rw [input_debounced] at self toldV toldB exits
    obtain ⟨m, hm⟩ : ∃ m, eventTold n (debounced n due s) = withAside m (reach due s) :=
      ⟨_, (setInput_aside n _ (reach due s)).trans (eventTold_aside n _)⟩
    rw [inputEvent_eq, hm] at self others
    rw [hm] at toldV toldB exits
    refine ⟨_, exec_debounceExpiry run hd, ?_⟩
    rw [event, inputEvent_eq, hm]
    refine ⟨self, fun k hk => (others k hk).trans (input_setInput_ne hk _ _), fun h => fixedFunction_noticed n (toldV h),
      fun h => fixedFunction_noticed n (toldB h), fun h doze => fixedFunction_exits n (exits doze h), ?_, ?_, ⟨?_, ?_⟩,
      ?_, ?_, ?_, ?_⟩
    · rintro rfl; rfl
    · rintro rfl hrec; exact overheat_event hrec
    · rintro rfl; exact door_event m (reach due s)
    · rintro b hn
      have hb : n = buttonInput b := by rw [hn]; cases b <;> rfl
      subst hb
      have pressed := button_event b m (reach due s)
      cases b <;> exact pressed
    · rintro rfl; exact congrArg (Option.map (·.2)) (door_event m (reach due s)).2
    · rintro rfl
      obtain ⟨-, -, -, outcome⟩ := fixedFunction_button .lower (withAside m (reach due s))
      exact congrArg (Option.map (·.2)) outcome
    · rintro rfl
      obtain ⟨-, -, -, outcome⟩ := fixedFunction_button .upper (withAside m (reach due s))
      exact congrArg (Option.map (·.2)) outcome
    · intro high
      rw [fixedFunction_other high]
      exact ⟨rfl, rfl, rfl, rfl, rfl, rfl, rfl⟩

end Sys2Proof.Machine
